-- ==== Sys2Proof/Word.lean ====
section
/-! DEFINITION. The word types of the Ulzhar 740: what the manual treats as bits (00 Conventions, "Numbers"). -/

namespace Sys2Proof

/-- A byte is 8 bits (00 Conventions). -/
abbrev Byte := BitVec 8

/-- A 16-bit word: request ids, sector sets, check registers, 16-bit counters. -/
abbrev Word16 := BitVec 16

/-- A 32-bit word: the panel time offset (R188). -/
abbrev Word32 := BitVec 32

end Sys2Proof
end

