-- ==== Sys2Proof/Syntax.lean ====
section
/-! DEFINITION. The commands of the Ulzhar 740: one constructor for each row of spec/opcode_table.json,
and the small types their operands use. -/

namespace Sys2Proof

/-- The two trunk ports (chapter 1). -/
inductive Port where
  | a | b
deriving DecidableEq, Repr

/-- The four crew links, 1 to 4 (chapter 6). -/
inductive Link where
  | l1 | l2 | l3 | l4
deriving DecidableEq, Repr

/-- The filtered level of a receive line (R1, R111). -/
inductive Level where
  | marking | spacing
deriving DecidableEq, Repr

/-- A character as a receiver passes it to frame assembly: good, or completed with a framing error (R1, R111). -/
inductive LineChar where
  | good (b : Byte)
  | framingError
deriving DecidableEq, Repr

/-- A change of a trunk receive line's filtered level: to spacing, or to marking, with a mark that the receiver looks at the
line there, at the middle of a start bit (R1; DESIGN CHOICE, log 33). -/
inductive LineChange where
  | spacing
  | marking (atMiddle : Bool)
deriving DecidableEq, Repr

/-- The entry of a crew link to ATTACHED: the link, and the filtered level of its RX at that moment (R111, R114; DESIGN
CHOICE, log 33). -/
structure Attach where
  link : Link
  rx : Level
deriving DecidableEq, Repr

/-- A good character of a crew link, with a mark that RX has returned to marking since the receiver began to wait for it
(R111; DESIGN CHOICE, log 33). -/
structure CrewByte where
  byte : Byte
  back : Bool
deriving DecidableEq, Repr

/-- The commands. A management row carries what R157 says a hand-off carries: the source node, the request id and the
operation's argument bytes, which for a TABLE_WRITE row begin after the table code. A crew request row carries the link
and the request's field. -/
inductive Instr where
  | trunkFrameComplete (p : Port) (b : Byte)
  | trunkFrameDiscard (p : Port) (ch : LineChar)
  | trunkPartialFrameTimeout (p : Port)
  | breakTimerExpiry (p : Port)
  | silenceTimerExpiry (p : Port)
  | stripHoldExpiry
  | trunkTransmitComplete (p : Port)
  | verifyWindowExpiry (zone : Nat)
  | ageStep (zone : Nat)
  | offerTimeout (c : Link)
  | presenceChange (c : Link) (high : Bool)
  | linkAttach (a : Attach)
  | linkDetach (c : Link)
  | crewFrameComplete (c : Link) (b : Byte)
  | crewFrameDiscard (c : Link) (ch : LineChar)
  | receiveOverrun (c : Link) (b : Byte)
  | crewPartialFrameTimeout (c : Link)
  | terminalReadyChange (c : Link) (high : Bool)
  | crewFrameWritten (c : Link)
  | accept (c : Link) (zone : Word16)
  | decline (c : Link) (zone : Word16)
  | release (c : Link) (zone : Word16)
  | releaseTop (c : Link)
  | poll (c : Link)
  | list (c : Link)
  | sectors (c : Link) (set : Word16)
  | unknownRequest (c : Link) (kind : Byte) (payload : List Byte)
  | sheetReqById (c : Link) (sheet : Word16)
  | sheetReqByZone (c : Link) (zone : Word16)
  | sheetStopNamed (c : Link) (sheet : Word16)
  | sheetStopAll (c : Link)
  | fillReadComplete
  | fillReadFail
  | programComplete (ok : Bool)
  | planReadComplete (ok : Bool)
  | unknownOp (src : Byte) (id : Word16) (op : Byte) (args : List Byte)
  | tableRead (src : Byte) (id : Word16) (args : List Byte)
  | tableWritePointMap (src : Byte) (id : Word16) (args : List Byte)
  | tableWriteNodeFallback (src : Byte) (id : Word16) (args : List Byte)
  | tableWriteZoneDefinition (src : Byte) (id : Word16) (args : List Byte)
  | tableWriteHazardBonus (src : Byte) (id : Word16) (args : List Byte)
  | tableWriteSheetDirectory (src : Byte) (id : Word16) (args : List Byte)
  | tableWriteCrewProfile (src : Byte) (id : Word16) (args : List Byte)
  | tableWriteConfiguration (src : Byte) (id : Word16) (args : List Byte)
  | mapInsert (src : Byte) (id : Word16) (args : List Byte)
  | mapDelete (src : Byte) (id : Word16) (args : List Byte)
  | mapClear (src : Byte) (id : Word16) (args : List Byte)
  | planStage (src : Byte) (id : Word16) (args : List Byte)
  | planCommit (src : Byte) (id : Word16) (args : List Byte)
  | planRead (src : Byte) (id : Word16) (args : List Byte)
  | zoneRead (src : Byte) (id : Word16) (args : List Byte)
  | statusRead (src : Byte) (id : Word16) (args : List Byte)
  | pictureClear (src : Byte) (id : Word16) (args : List Byte)
  | setRotation (src : Byte) (id : Word16) (args : List Byte)
  | linkDisable (src : Byte) (id : Word16) (args : List Byte)
  | linkEnable (src : Byte) (id : Word16) (args : List Byte)
  | configSave (src : Byte) (id : Word16) (args : List Byte)
  | start
  | startComplete (pageReadOk : Bool)
  | holdoverLow
  | resyncTimeout
  | uptimeTick
  | trunkCharacterReceived (p : Port) (b : Byte)
  | trunkReceiveLevelChange (p : Port) (level : LineChange)
  | crewCharacterReceived (c : Link) (b : CrewByte)
  | crewCharacterTaken (c : Link)
  | mainPowerLoss
deriving DecidableEq, Repr

end Sys2Proof
end

