-- ==== Sys2Proof/Decode.lean ====
section
/-! DEFINITION. The command a word spells by the table's bits. No row of spec/opcode_table.json gives bits
(every row's "fields" is empty), so no word spells a command. -/

namespace Sys2Proof

/-- The command spelled by the low `nbits` bits of `w`: none, since the table gives no row any bits. The byte layouts of
the requests that reach the part in frames are read in Machine/Operands.lean (10.2, 10.3, 10.5). -/
def decodeTableWord (_nbits _w : Nat) : Option Instr := none

end Sys2Proof
end

