-- ==== Sys2Proof/Machine/Records.lean ====
section
/-! DEFINITION. The records the blocks hold: tables, zone records, crew collections, link buffers, frames, transfers.
Each structure follows the state table of its chapter. -/

namespace Sys2Proof.Machine

/-- A table keyed by number, held as its entries in ascending key order. An unlisted key reads as the table's default
value, which each reader names, and no listed entry holds that default. -/
abbrev Tab (α : Type) := List (Nat × α)

/-- A set of zones, held as its members in ascending order. -/
abbrev ZSet := List Nat

/-- One value for each crew link 1 to 4. -/
structure PerLink (α : Type) where
  v1 : α
  v2 : α
  v3 : α
  v4 : α
deriving DecidableEq, Repr

/-- One value for each trunk port. -/
structure PerPort (α : Type) where
  va : α
  vb : α
deriving DecidableEq, Repr

/-- Zone conditions (R36, R37). -/
inductive Cond where
  | quiet | trouble | supervisory | verifying | alarm | isolated
deriving DecidableEq, Repr

/-- Kinds of point record (R39). -/
inductive RecKind where
  | alarm | prealarm | supervisory | trouble
deriving DecidableEq, Repr

/-- The condition a POINT_EVENT reports (10.2). -/
inductive EventCond where
  | alarm | supervisory | trouble | normal
deriving DecidableEq, Repr

/-- The point kind a POINT_EVENT carries (10.2). -/
inductive PointKind where
  | manual | detector | flow | other
deriving DecidableEq, Repr

/-- A point event as the Trunk Interface hands it (R12, R21). -/
structure PointEvent where
  node : Nat
  point : Nat
  cond : EventCond
  kind : PointKind
  resend : Bool
deriving DecidableEq, Repr

/-- A held point record (R39). -/
structure PointRec where
  node : Nat
  point : Nat
  kind : RecKind
  arrival : Nat
deriving DecidableEq, Repr

/-- A zone definition (R33); its cold values are R35's. -/
structure ZoneDef where
  defined : Bool
  floor : Int
  sector : Nat
  hazard : Nat
  verify : Bool
  primary : Option Nat
  secondary : Option Nat
  label : List Byte
deriving DecidableEq, Repr

/-- The cold value of a zone definition (R35). -/
def ZoneDef.cold : ZoneDef :=
  { defined := false, floor := 0, sector := 1, hazard := 0, verify := false,
    primary := none, secondary := none, label := [] }

/-- A zone live record (R36). The attended-by set is one flag for each link. -/
structure ZoneLive where
  isolated : Bool
  cond : Cond
  alarms : Byte
  supervisories : Byte
  troubles : Byte
  overflow : Bool
  points : List PointRec
  alarmEntry : Option Nat
  deadline : Option Nat
  lapses : Byte
  isolatedEvents : Byte
  urgency : Option Nat
  attendedBy : PerLink Bool
deriving DecidableEq, Repr

/-- The live record every zone has after a start (R60, R61). -/
def ZoneLive.start : ZoneLive :=
  { isolated := false, cond := .quiet, alarms := 0, supervisories := 0, troubles := 0, overflow := false,
    points := [], alarmEntry := none, deadline := none, lapses := 0, isolatedEvents := 0, urgency := none,
    attendedBy := ⟨false, false, false, false⟩ }

/-- A point map entry (R19). -/
structure MapEntry where
  node : Nat
  first : Nat
  last : Nat
  zone : Nat
deriving DecidableEq, Repr

inductive Mode where
  | nested | openMode
deriving DecidableEq, Repr

inductive Delivery where
  | push | poll
deriving DecidableEq, Repr

inductive Rotation where
  | auto | fixed
deriving DecidableEq, Repr

/-- A crew profile (R167). The sector set has the bit of value 2^(n-1) for sector n (10.1). -/
structure Profile where
  sectors : Word16
  mode : Mode
  delivery : Delivery
  rotation : Rotation
  autoSheet : Bool
deriving DecidableEq, Repr

/-- The cold value of a crew profile (R167). -/
def Profile.cold : Profile :=
  { sectors := 0xFFFF#16, mode := .openMode, delivery := .push, rotation := .auto, autoSheet := true }

/-- The configuration table (R168); its hazard bonus fields are the hazard bonus table (R63, R165). -/
structure ConfigTable where
  own : Nat
  panel : Nat
  maint : Nat
  verifyWindow : Nat
  escalation : Nat
  offerTimeout : Nat
  resyncTimeout : Nat
  bonus0 : Nat
  bonus1 : Nat
  bonus2 : Nat
  bonus3 : Nat
  planPages : Nat
deriving DecidableEq, Repr

/-- The defaults of R168. -/
def ConfigTable.default : ConfigTable :=
  { own := 120, panel := 1, maint := 0, verifyWindow := 30, escalation := 20, offerTimeout := 15,
    resyncTimeout := 30, bonus0 := 0, bonus1 := 20, bonus2 := 40, bonus3 := 60, planPages := 0 }

inductive SheetKind where
  | floor | riser | services | hazard
deriving DecidableEq, Repr

/-- A sheet directory record (R133). -/
structure SheetRec where
  defined : Bool
  first : Nat
  count : Nat
  lastLen : Nat
  kind : SheetKind
  floor : Int
deriving DecidableEq, Repr

/-- The cold value of a directory record (R133). -/
def SheetRec.cold : SheetRec :=
  { defined := false, first := 0, count := 1, lastLen := 256, kind := .floor, floor := 0 }

/-- Where the configuration came from at the last cold start (R182). -/
inductive ConfigSource where
  | page | default
deriving DecidableEq, Repr

/-- The retained tables and the configuration source held with them (section 9.2). -/
structure Retained where
  map : List MapEntry
  fallback : Tab Nat
  defs : Tab ZoneDef
  dir : Tab SheetRec
  profiles : PerLink Profile
  config : ConfigTable
  source : ConfigSource
deriving DecidableEq, Repr

/-- The cold values of the retained tables (R31, R35, R133, R167), with the configuration defaults of R168. -/
def Retained.cold : Retained :=
  { map := [], fallback := [], defs := [], dir := [],
    profiles := ⟨Profile.cold, Profile.cold, Profile.cold, Profile.cold⟩,
    config := ConfigTable.default, source := .default }

/-- A trunk frame in its decoded form (R4, 10.2). Its payload length byte is the length of `payload`. -/
structure Frame where
  dst : Byte
  src : Byte
  seq : Byte
  kind : Byte
  payload : List Byte
  check : Word16
deriving DecidableEq, Repr

/-- A frame assembler, trunk (R2) or crew (R117): HUNTING, or COLLECTING with the bytes so far, the escape flag and the
check register. -/
inductive Asm where
  | hunting
  | collecting (buf : List Byte) (esc : Bool) (crc : Word16)
deriving DecidableEq, Repr

/-- A character receiver (R1, R111): idle, inside a character, or waiting for the line to return to marking after a character
with a framing error. -/
inductive Receiver where
  | idle | receiving | waitMarking
deriving DecidableEq, Repr

/-- What a trunk transmitter is sending: the head of the repeat FIFO or the head of the own-frame queue (R14). -/
inductive TxSource where
  | repeatFifo | ownQueue
deriving DecidableEq, Repr

/-- The five line counters of a port (R18). -/
structure PortCounters where
  checkFails : Word16
  framingErrors : Word16
  repeatDrops : Word16
  ownDrops : Word16
  foreignControl : Word16
deriving DecidableEq, Repr

def PortCounters.zero : PortCounters := ⟨0, 0, 0, 0, 0⟩

/-- One trunk port: its receive side, its transmit side and its counters (R1 to R18). `repeatOut` is the repeat FIFO whose
outgoing port this is. -/
structure PortUnit where
  up : Bool
  level : Level
  receiver : Receiver
  asm : Asm
  stage : Option Frame
  repeatOut : List Frame
  ownQueue : List Frame
  tx : Option TxSource
  counters : PortCounters
deriving DecidableEq, Repr

/-- The bypass relay (R17). -/
inductive Relay where
  | closed | opened
deriving DecidableEq, Repr

/-- The derived trunk state (R16). -/
inductive TrunkState where
  | bothUp | oneDown | bothDown
deriving DecidableEq, Repr

/-- The Trunk Interface. `former` is present exactly while the strip hold runs (R8). -/
structure Trunk where
  relay : Relay
  ports : PerPort PortUnit
  former : Option Nat
  seqTable : Tab (Option Byte)
  ownSeq : Byte
deriving DecidableEq, Repr

/-- The Zone Picture's working state: live records and floor alarm counts, keyed by floor + 8 (R36, R59). -/
structure Picture where
  live : Tab ZoneLive
  floors : Tab Nat
deriving DecidableEq, Repr

/-- Due-notice marks (R77, R105). -/
inductive Mark where
  | update | clear | isolate | withdrawn
deriving DecidableEq, Repr

/-- The offer state (R77, R87). -/
inductive Offer where
  | none
  | due (zone : Nat)
  | out (zone : Nat) (deadline : Nat)
deriving DecidableEq, Repr

/-- What a notice is: SYSTEM, the notice of a mark, or OFFER (R106). -/
inductive NoticeKind where
  | system
  | mark (m : Mark)
  | offer
deriving DecidableEq, Repr

/-- The notice in flight (R107). `renewed` records that its flag or mark was set again since it was begun. A SYSTEM notice
has zone 0. -/
structure Flight where
  kind : NoticeKind
  zone : Nat
  renewed : Bool
deriving DecidableEq, Repr

/-- The Notice Resolver's state for one crew link (R77). -/
structure Crew where
  live : Word16
  pending : ZSet
  attended : List Nat
  aside : ZSet
  rc : Nat
  offer : Offer
  marks : Tab (Option Mark)
  systemDue : Bool
  flight : Option Flight
deriving DecidableEq, Repr

/-- The empty state of a crew whose link is not ATTACHED (R77). -/
def Crew.empty : Crew :=
  { live := 0, pending := [], attended := [], aside := [], rc := 0, offer := .none, marks := [],
    systemDue := false, flight := none }

/-- Link states (R112). -/
inductive LinkState where
  | disabled | detached | attached
deriving DecidableEq, Repr

/-- The controller-ready output (R112, R122). -/
inductive ReadyOut where
  | high | low | highZ
deriving DecidableEq, Repr

/-- A reply held in the reply queue: the request kind echoed, the result code and the data (R92, R125, 10.5). -/
structure Reply where
  kind : Byte
  result : Byte
  data : List Byte
deriving DecidableEq, Repr

/-- The TX output of a crew link (R112, R115, R126): at high impedance, resting at marking, or driven with a character from the
transmit FIFO, after which it rests at marking. How long the character lasts is not held (log 23). -/
inductive TxOut where
  | highZ
  | marking
  | sending (b : Byte)
deriving DecidableEq, Repr

/-- The two span buffers of a crew (R136). -/
inductive BufId where
  | bufA | bufB
deriving DecidableEq, Repr

/-- Whose frame the writer is writing (R129). -/
inductive Owner where
  | reply
  | notice
  | sheet (b : BufId)
deriving DecidableEq, Repr

/-- A line character of a crew frame still to be written, and whether writing it completes a data byte of a SHEET frame
(R148: the drain position rises as each data byte is written). -/
structure OutChar where
  ch : Byte
  data : Bool
deriving DecidableEq, Repr

/-- The frame being written into the transmit FIFO (R129). -/
structure Writing where
  owner : Owner
  rest : List OutChar
deriving DecidableEq, Repr

/-- One Crew Link Unit (chapter 6). The receive FIFO's contents are the waiting requests, each from its first length byte
through its second check byte, then the bytes held by the assembler (R117). `rx` is the filtered RX level as last seen and
`receiver` the character receiver (R111). `tx` is the TX output, with the character the transmitter last took (R112, R126). -/
structure LinkUnit where
  state : LinkState
  presence : Bool
  termReady : Bool
  rx : Level
  ctrlReady : ReadyOut
  receiver : Receiver
  asm : Asm
  waiting : List (List Byte)
  replies : List Reply
  writing : Option Writing
  txFifo : List Byte
  tx : TxOut
  rxErrors : Word16
deriving DecidableEq, Repr

/-- Causes of a span fault (R136). -/
inductive FaultCause where
  | memory | range
deriving DecidableEq, Repr

/-- States of a span buffer (R136). -/
inductive BufState where
  | empty | filling | full | draining
deriving DecidableEq, Repr

/-- A span buffer (R136). Its length is the length of `bytes`. -/
structure SpanBuf where
  state : BufState
  span : Nat
  bytes : List Byte
  drained : Nat
  final : Bool
  fault : Option FaultCause
  discarded : Bool
deriving DecidableEq, Repr

/-- An EMPTY buffer with its discarded flag clear (R136). The spec gives nothing more of an EMPTY buffer: that its span,
length and drain position are 0, its final mark clear and its fault mark none is the model's (DESIGN CHOICE, log 34). -/
def SpanBuf.emptied : SpanBuf :=
  { state := .empty, span := 0, bytes := [], drained := 0, final := false, fault := none, discarded := false }

/-- A transfer record (R136). -/
structure Transfer where
  sheet : Nat
  first : Nat
  count : Nat
  lastLen : Nat
  nextPage : Nat
  remaining : Nat
  drainSpan : Nat
  faultDue : Option FaultCause
deriving DecidableEq, Repr

/-- The Sheet Streamer's state for one crew link (R135, R136). -/
structure SheetSlot where
  queue : List Nat
  transfer : Option Transfer
  bufA : SpanBuf
  bufB : SpanBuf
deriving DecidableEq, Repr

def SheetSlot.empty : SheetSlot :=
  { queue := [], transfer := none, bufA := SpanBuf.emptied, bufB := SpanBuf.emptied }

/-- An operation of the plan reader (R132): a fill read for a crew's buffer, a program of a page, or a management read. -/
inductive ReaderOp where
  | fill (c : Link) (b : BufId) (span page len : Nat)
  | program (page : Nat) (bytes : List Byte)
  | read (page offset count : Nat)
deriving DecidableEq, Repr

/-- A management operation waiting for the reader (R144, R154): a commit of the staging buffer, a CONFIG_SAVE with the page
MR built, or a page read. -/
inductive WaitingOp where
  | commit (page : Nat)
  | save (bytes : List Byte)
  | read (page offset count : Nat)
deriving DecidableEq, Repr

/-- The Sheet Streamer (chapter 7). -/
structure Streamer where
  slots : PerLink SheetSlot
  reader : Option ReaderOp
  waiting : Option WaitingOp
  lastGranted : Link
  staging : Tab Byte
  planFaults : Word16
deriving DecidableEq, Repr

def Streamer.start : Streamer :=
  { slots := ⟨SheetSlot.empty, SheetSlot.empty, SheetSlot.empty, SheetSlot.empty⟩,
    reader := none, waiting := none, lastGranted := .l4, staging := [], planFaults := 0 }

/-- The request in progress (R159). -/
structure InProgress where
  requester : Byte
  id : Word16
  op : Byte
deriving DecidableEq, Repr

/-- The Time Base (R187, R188). -/
structure TimeBase where
  uptime : Nat
  offset : Word32
  known : Bool
deriving DecidableEq, Repr

inductive StartKind where
  | warm | cold
deriving DecidableEq, Repr

/-- Picture status (section 9.5). -/
inductive PictureStatus where
  | current | resyncing | stale
deriving DecidableEq, Repr

/-- Start Control (chapter 9). `markIntact` says that the marker word is intact (R180). -/
structure Control where
  mainPower : Bool
  markIntact : Bool
  markCheck : Word16
  kind : StartKind
  status : PictureStatus
  expiry : Option Nat
  resyncTimeouts : Word16
deriving DecidableEq, Repr

/-- One zone of a zone change report (R38). -/
structure Change where
  zone : Nat
  before : Cond
  after : Cond
  countBefore : Byte
  countAfter : Byte
deriving DecidableEq, Repr

/-- A crossing of a floor alarm count between zero and non-zero (R38, R59). -/
structure Crossing where
  floor : Int
  rises : Bool
deriving DecidableEq, Repr

/-- A zone change report (R38). -/
structure ZoneReport where
  changes : List Change
  crossings : List Crossing
deriving DecidableEq, Repr

/-- A zone whose urgency changed, with its urgency before and after (R75). -/
structure UrgencyChange where
  zone : Nat
  before : Option Nat
  after : Option Nat
deriving DecidableEq, Repr

end Sys2Proof.Machine
end

