-- ==== Sys2Proof/Config.lean ====
section
/-! DEFINITION. What the part fixes once: its capacities, and the values the manual leaves open. A free value is an opaque
constant: no proof can use what it is. -/

namespace Sys2Proof.Config
open Sys2Proof.Machine

/-- Point records in the pool (R39). -/
abbrev poolSize : Nat := 2048
/-- Entries the point map can hold (R19). -/
abbrev mapSize : Nat := 2048
/-- Records of one of the kinds ALARM, SUPERVISORY and TROUBLE in one zone's list (R40). -/
abbrev kindLimit : Nat := 255
/-- Frames in a repeat FIFO (R9) and in an own-frame queue (R13). -/
abbrev trunkQueueSize : Nat := 4
/-- Zones in an attended list (R77). -/
abbrev attendedLimit : Nat := 8
/-- Bytes in a link's receive FIFO (chapter 6). -/
abbrev rxFifoSize : Nat := 64
/-- Line characters in a link's transmit FIFO (R126). -/
abbrev txFifoSize : Nat := 64
/-- Replies in a link's reply queue (R125). -/
abbrev replyQueueSize : Nat := 4
/-- Sheets in a crew's sheet queue (R135). -/
abbrev sheetQueueSize : Nat := 4
/-- The highest uptime (R187). -/
abbrev uptimeMax : Nat := 4294967295
/-- DESIGN CHOICE, log 13, unsafe: what a byte of plan memory that nothing has written reads as. -/
abbrev planErased : Byte := 0xFF#8
/-- A staging buffer byte after a start (R152). -/
abbrev stagingStart : Byte := 0xFF#8

/-- DESIGN CHOICE, log 14, safe: byte `i` of the page that the `n`-th failed or cut program left in the memory. R132: the
page holds whatever the memory left in it. -/
opaque leftInPage (n i : Nat) : Byte

/-- DESIGN CHOICE, log 15, safe: the retained tables and configuration source as the bytes the check is taken over. R180
names the check and what it covers, not the order of the bytes. -/
opaque retainedImage (r : Retained) : List Byte

end Sys2Proof.Config
end

