-- ==== Sys2Proof/Machine/Bytes.lean ====
section
/-! DEFINITION. Byte order, the cyclic check, the escape and the saturating counters (00 Conventions; 10.1). -/

namespace Sys2Proof.Machine

/-- A 16-bit field, high byte first (10.1). -/
def be16 (w : Word16) : List Byte := [w.extractLsb' 8 8, w.extractLsb' 0 8]

/-- A 32-bit field, high byte first (10.1). -/
def be32 (w : Word32) : List Byte :=
  [w.extractLsb' 24 8, w.extractLsb' 16 8, w.extractLsb' 8 8, w.extractLsb' 0 8]

/-- A number as one byte. -/
def byteOf (n : Nat) : Byte := BitVec.ofNat 8 n

/-- A number as a 2-byte field. -/
def nat16 (n : Nat) : List Byte := be16 (BitVec.ofNat 16 n)

/-- A number as a 4-byte field. -/
def nat32 (n : Nat) : List Byte := be32 (BitVec.ofNat 32 n)

/-- The number two bytes hold, high byte first (10.1). -/
def num16 (h l : Byte) : Nat := h.toNat * 256 + l.toNat

/-- The 16-bit word two bytes hold, high byte first. -/
def word16 (h l : Byte) : Word16 := BitVec.ofNat 16 (num16 h l)

/-- One bit step of the check with polynomial x^16 + x^12 + x^5 + 1, most significant bit first (00 Conventions). -/
def crcBit (r : Word16) : Word16 := if r.msb then (r <<< 1) ^^^ 0x1021#16 else r <<< 1

/-- One byte taken into the check register (R2, R117). -/
def crcByte (r : Word16) (b : Byte) : Word16 :=
  let r0 := r ^^^ (b.setWidth 16 <<< 8)
  crcBit (crcBit (crcBit (crcBit (crcBit (crcBit (crcBit (crcBit r0)))))))

/-- The check register before any byte (00 Conventions). -/
def crcInit : Word16 := 0xFFFF#16

/-- The check over some bytes (00 Conventions). -/
def crc (bs : List Byte) : Word16 := bs.foldl crcByte crcInit

/-- The start mark. -/
def startMark : Byte := 0x7E#8

/-- The escape byte. -/
def escapeByte : Byte := 0x7D#8

/-- What an escaped byte is exclusive-ored with. -/
def escapeMask : Byte := 0x20#8

/-- The bytes that are sent escaped (00 Conventions, "Escapes"). -/
def needsEscape (b : Byte) : Bool := b == startMark || b == escapeByte

/-- One byte as line characters. -/
def escapeOne (b : Byte) : List Byte := if needsEscape b then [escapeByte, b ^^^ escapeMask] else [b]

/-- Bytes as line characters (00 Conventions, "Escapes"). -/
def escape (bs : List Byte) : List Byte := bs.flatMap escapeOne

/-- A 16-bit counter rises by one and stops at 65535 (00 Conventions, "Counters"). -/
def bump16 (n : Word16) : Word16 := if n = 0xFFFF#16 then n else n + 1

/-- An 8-bit count rises by one and stops at 255 (R36). -/
def bump8 (n : Byte) : Byte := if n = 0xFF#8 then n else n + 1

/-- A count falls by one (R42). A count of 0 stays 0, which no run reaches (R42: the count is at least the records). -/
def drop8 (n : Byte) : Byte := if n = 0 then 0 else n - 1

/-- The retention check over tables as they stand (R180). -/
def Retained.check (r : Retained) : Word16 := crc (Config.retainedImage r)

end Sys2Proof.Machine
end

