-- ==== Sys2Proof/Machine/State.lean ====
section
/-! DEFINITION. The state of the Ulzhar 740, block by block (00 Block overview), the reasons a step can stop, and the
state right after a start. -/

namespace Sys2Proof.Machine

/-- The part has no stop (00 Conventions, "Refusal and degradation": what it cannot apply it refuses with a code, drops and
counts, or applies in a reduced form), so no meaning raises a fault. Nobody raises one, which is safe. -/
inductive Fault where
deriving DecidableEq, Repr

/-- Reasons for which a command is refused. -/
inductive Refusal where
  /-- Raised by an arm of `exec` whose command has no meaning yet. Safe: the machine stops. No arm raises it. -/
  | notModelled (mnemonic : String)
deriving DecidableEq, Repr

/-- The whole controller. `fresh` counts the free values taken (log 14) and `pending` is the queue of commands that wait;
both are the model's own. -/
structure State where
  /-- Trunk Interface (chapter 1). -/
  ti : Trunk
  /-- The retained tables (section 9.2), with the configuration (R168) and the crew profiles (R167). -/
  tables : Retained
  /-- Point Mapper: the orphan count (R32). -/
  orphans : Word16
  /-- Zone Picture (chapter 3). -/
  zp : Picture
  /-- Urgency Unit: the next age step of each zone (R63). -/
  ageSteps : Tab (Option Nat)
  /-- Notice Resolver (R77). -/
  nr : PerLink Crew
  /-- Crew Link Units (chapter 6). -/
  cl : PerLink LinkUnit
  /-- Sheet Streamer (chapter 7). -/
  ss : Streamer
  /-- Management Responder: the request in progress (R159). -/
  mr : Option InProgress
  /-- Time Base (R187, R188). -/
  tb : TimeBase
  /-- Start Control (chapter 9). -/
  sc : Control
  /-- The plan memory by byte address (R131). -/
  planMem : Tab Byte
  /-- How many free values have been taken (log 14). -/
  fresh : Nat
  /-- The commands that wait, first in, first out. -/
  pending : List Instr
deriving DecidableEq, Repr

/-- A trunk port after a start: DOWN, HUNTING, EMPTY, free, counters zero (R15, R17, R18). The line level is the pin's. -/
def PortUnit.start (level : Level) : PortUnit :=
  { up := false, level := level, receiver := .idle, asm := .hunting, stage := none, repeatOut := [], ownQueue := [],
    tx := none, counters := PortCounters.zero }

/-- TX of a link that sends no character: at high impedance while DISABLED, otherwise at marking (R112, R126). -/
def LinkState.restTx : LinkState → TxOut
  | .disabled => .highZ
  | .detached | .attached => .marking

/-- A link in the given state with everything empty and its character receiver idle (R111, R112, R116). The three input
levels are the pins'. -/
def LinkUnit.start (st : LinkState) (out : ReadyOut) (presence termReady : Bool) (rx : Level) : LinkUnit :=
  { state := st, presence := presence, termReady := termReady, rx := rx, ctrlReady := out, receiver := .idle,
    asm := .hunting, waiting := [], replies := [], writing := none, txFifo := [], tx := st.restTx, rxErrors := 0 }

/-- The RESYNC_CALL of the first start under the default own node 120: destination 0, source 120, sequence 0, kind 14h, no
payload, and the check over those five bytes (R13, R184, 10.2). -/
def firstResyncCall : Frame :=
  { dst := 0x00#8, src := 0x78#8, seq := 0x00#8, kind := 0x14#8, payload := [], 
    check := crc [0x00#8, 0x78#8, 0x00#8, 0x14#8, 0x00#8] }

/-- A port right after the start: the RESYNC_CALL is in its own-frame queue and on its line (R14, R183). -/
def PortUnit.reset : PortUnit :=
  { PortUnit.start .marking with ownQueue := [firstResyncCall], tx := some .ownQueue }

/-- A link right after the start: DETACHED, TX at marking, controller-ready low (R112, R116), presence and terminal-ready low
and RX at marking (log 11). -/
def LinkUnit.reset : LinkUnit := LinkUnit.start .detached .low false false .marking

/-- The machine right after a start: a cold start whose configuration page could not be used (log 12), completed as R183
gives, with the first resync called (R184). -/
def State.reset : State :=
  { ti := { relay := .opened, ports := ⟨PortUnit.reset, PortUnit.reset⟩, former := none, seqTable := [], ownSeq := 1 },
    tables := Retained.cold,
    orphans := 0,
    zp := { live := [], floors := [] },
    ageSteps := [],
    nr := ⟨Crew.empty, Crew.empty, Crew.empty, Crew.empty⟩,
    cl := ⟨LinkUnit.reset, LinkUnit.reset, LinkUnit.reset, LinkUnit.reset⟩,
    ss := Streamer.start,
    mr := none,
    tb := { uptime := 0, offset := 0, known := false },
    sc := { mainPower := true, markIntact := true, markCheck := Retained.cold.check, kind := .cold, status := .resyncing,
            expiry := some 30, resyncTimeouts := 0 },
    planMem := [],
    fresh := 0,
    pending := [] }

end Sys2Proof.Machine
end

