-- ==== Sys2Proof/Machine/Ops.lean ====
section
/-! DEFINITION. The named operations over tables, zone sets, links and ports, and the readers and writers of State's
parts. Every later definition goes through these. -/

namespace Sys2Proof.Machine

/-! ### Tables -/

/-- The value of a key; an unlisted key reads as the default `d`. -/
def Tab.get {α : Type} (d : α) : Tab α → Nat → α
  | [], _ => d
  | e :: t, k => if e.1 = k then e.2 else Tab.get d t k

/-- Every entry of a key removed. -/
def Tab.drop {α : Type} (t : Tab α) (k : Nat) : Tab α := t.filter (fun e => e.1 != k)

/-- An entry set at its place in ascending key order. -/
def Tab.place {α : Type} : Tab α → Nat → α → Tab α
  | [], k, v => [(k, v)]
  | e :: t, k, v => if k < e.1 then (k, v) :: e :: t else e :: Tab.place t k v

/-- A key takes a value. Writing the default removes the entry, so equal tables are equal lists. -/
def Tab.put {α : Type} [DecidableEq α] (d : α) (t : Tab α) (k : Nat) (v : α) : Tab α :=
  if v = d then Tab.drop t k else Tab.place (Tab.drop t k) k v

/-- Every listed value replaced by its image; entries that become the default go. -/
def Tab.mapAll {α : Type} [DecidableEq α] (d : α) (f : α → α) (t : Tab α) : Tab α :=
  (t.map (fun e => (e.1, f e.2))).filter (fun e => e.2 != d)

/-- The canonical form: keys strictly rising and no entry holding the default. -/
def Tab.wf {α : Type} [DecidableEq α] (d : α) (t : Tab α) : Bool :=
  decide (t.Pairwise (fun a b => a.1 < b.1)) && t.all (fun e => e.2 != d)

/-! ### Zone sets -/

/-- A zone put into a set at its place; a member is not added twice. -/
def ZSet.place : ZSet → Nat → ZSet
  | [], z => [z]
  | y :: s, z => if z < y then z :: y :: s else if z = y then y :: s else y :: ZSet.place s z

/-- A zone taken out of a set or a list; the others keep their order. -/
def without (s : List Nat) (z : Nat) : List Nat := s.filter (fun y => y != z)

/-! ### Links and ports -/

def PerLink.get {α : Type} (q : PerLink α) : Link → α
  | .l1 => q.v1
  | .l2 => q.v2
  | .l3 => q.v3
  | .l4 => q.v4

def PerLink.set {α : Type} (q : PerLink α) (c : Link) (x : α) : PerLink α :=
  match c with
  | .l1 => { q with v1 := x }
  | .l2 => { q with v2 := x }
  | .l3 => { q with v3 := x }
  | .l4 => { q with v4 := x }

def PerPort.get {α : Type} (q : PerPort α) : Port → α
  | .a => q.va
  | .b => q.vb

def PerPort.set {α : Type} (q : PerPort α) (p : Port) (x : α) : PerPort α :=
  match p with
  | .a => { q with va := x }
  | .b => { q with vb := x }

/-- The port opposite to one: frames that arrive here are repeated there (R9). -/
def otherPort : Port → Port
  | .a => .b
  | .b => .a

/-- The crew link with a number 1 to 4 (00 Conventions). -/
def linkOfNat (n : Nat) : Option Link :=
  if n = 1 then some .l1 else if n = 2 then some .l2 else if n = 3 then some .l3 else if n = 4 then some .l4 else none

/-- The crew link after one in the cyclic order 1, 2, 3, 4, 1 (R144). -/
def nextLink : Link → Link
  | .l1 => .l2
  | .l2 => .l3
  | .l3 => .l4
  | .l4 => .l1

/-- An effect applied for each link in turn. -/
def eachLink (f : Link → State → State) (s : State) : State := f .l4 (f .l3 (f .l2 (f .l1 s)))

/-- A set of crew links as four bits, 2^(c-1) for link c (10.1). -/
def linkBits (q : PerLink Bool) : Nat :=
  q.v1.toNat + 2 * q.v2.toNat + 4 * q.v3.toNat + 8 * q.v4.toNat

/-- Whether a sector is in a sector set, the bit of value 2^(n-1) standing for sector n (10.1). -/
def inSectors (w : Word16) (sector : Nat) : Bool := decide (1 ≤ sector) && w.getLsbD (sector - 1)

/-! ### The parts of State -/

def State.port (s : State) (p : Port) : PortUnit := s.ti.ports.get p
def State.setPort (s : State) (p : Port) (u : PortUnit) : State :=
  { s with ti := { s.ti with ports := s.ti.ports.set p u } }

def State.link (s : State) (c : Link) : LinkUnit := s.cl.get c
def State.setLink (s : State) (c : Link) (u : LinkUnit) : State := { s with cl := s.cl.set c u }

def State.crew (s : State) (c : Link) : Crew := s.nr.get c
def State.setCrew (s : State) (c : Link) (k : Crew) : State := { s with nr := s.nr.set c k }

def State.slot (s : State) (c : Link) : SheetSlot := s.ss.slots.get c
def State.setSlot (s : State) (c : Link) (x : SheetSlot) : State :=
  { s with ss := { s.ss with slots := s.ss.slots.set c x } }

/-- The live record of a zone (R36). -/
def State.zone (s : State) (z : Nat) : ZoneLive := Tab.get ZoneLive.start s.zp.live z
def State.setZone (s : State) (z : Nat) (l : ZoneLive) : State :=
  { s with zp := { s.zp with live := Tab.put ZoneLive.start s.zp.live z l } }

/-- The definition of a zone (R33). -/
def State.zoneDef (s : State) (z : Nat) : ZoneDef := Tab.get ZoneDef.cold s.tables.defs z

/-- The key of a floor in the floor alarm count table (R59: floors from -8 to 127). -/
def floorKey (f : Int) : Nat := (f + 8).toNat

/-- The floor alarm count of a floor (R59). -/
def State.floorCount (s : State) (f : Int) : Nat := Tab.get 0 s.zp.floors (floorKey f)
def State.setFloor (s : State) (f : Int) (n : Nat) : State :=
  { s with zp := { s.zp with floors := Tab.put 0 s.zp.floors (floorKey f) n } }

/-- The next age step of a zone (R63). -/
def State.ageStep (s : State) (z : Nat) : Option Nat := Tab.get none s.ageSteps z
def State.setAgeStep (s : State) (z : Nat) (t : Option Nat) : State :=
  { s with ageSteps := Tab.put none s.ageSteps z t }

/-- The directory record of a sheet (R133). -/
def State.sheet (s : State) (i : Nat) : SheetRec := Tab.get SheetRec.cold s.tables.dir i

/-- The configuration in force (R168). -/
def State.config (s : State) : ConfigTable := s.tables.config

def State.uptime (s : State) : Nat := s.tb.uptime

/-- Whether the controller is running: the relay is OPEN from the completion of a start to the next start or loss of power
(R17). While it is CLOSED no frame, request, line change or timer reaches any block (R179). -/
def State.running (s : State) : Bool := s.ti.relay == .opened

def State.attached (s : State) (c : Link) : Bool := (s.link c).state == .attached

/-- A command's effect, made only while the controller is running (R17, R179; log 1). -/
def whenRunning (s : State) (f : State → State) : State := if s.running then f s else s

/-! ### Plan memory -/

/-- The byte of plan memory at an address (R131). -/
def readPlan (m : Tab Byte) (a : Nat) : Byte := Tab.get Config.planErased m a

/-- Bytes of plan memory from an address on (R132). -/
def readPlanRange (m : Tab Byte) (a : Nat) : Nat → List Byte
  | 0 => []
  | n + 1 => readPlan m a :: readPlanRange m (a + 1) n

/-- Bytes written to plan memory from an address on (R132). -/
def writePlanRange (m : Tab Byte) (a : Nat) : List Byte → Tab Byte
  | [] => m
  | b :: bs => writePlanRange (Tab.put Config.planErased m a b) (a + 1) bs

/-- The byte address of a page's first byte (R131). -/
def pageBase (p : Nat) : Nat := p * 256

/-- The 256 bytes a failed or cut program leaves in its page: free values (log 14; R132, R159). -/
def leftBytes (n : Nat) : List Byte := (List.range 256).map (Config.leftInPage n)

/-- A page that a failed or cut program left as the memory left it (R132, R159). -/
def State.leavePage (s : State) (page : Nat) : State :=
  { s with planMem := writePlanRange s.planMem (pageBase page) (leftBytes s.fresh), fresh := s.fresh + 1 }

/-- The staging buffer's 256 bytes (R152). -/
def stagedBytes (t : Tab Byte) : List Byte := (List.range 256).map (Tab.get Config.stagingStart t)

/-- Bytes written into the staging buffer from an offset on (R152). -/
def stageBytes (t : Tab Byte) (o : Nat) : List Byte → Tab Byte
  | [] => t
  | b :: bs => stageBytes (Tab.put Config.stagingStart t o b) (o + 1) bs

end Sys2Proof.Machine
end

