-- ==== Sys2Proof/Machine/Flags.lean ====
section
/-! DEFINITION. Every flag, mark and counter computation: the line counters (R18, R124, R156), the due-notice marks (R105),
the SYSTEM due flag (R104) and the condition derived from a live record (R37). -/

namespace Sys2Proof.Machine

/-! ### Line counters (R18) -/

def PortUnit.countCheckFail (u : PortUnit) : PortUnit :=
  { u with counters := { u.counters with checkFails := bump16 u.counters.checkFails } }

def PortUnit.countFraming (u : PortUnit) : PortUnit :=
  { u with counters := { u.counters with framingErrors := bump16 u.counters.framingErrors } }

def PortUnit.countRepeatDrop (u : PortUnit) : PortUnit :=
  { u with counters := { u.counters with repeatDrops := bump16 u.counters.repeatDrops } }

def PortUnit.countOwnDrop (u : PortUnit) : PortUnit :=
  { u with counters := { u.counters with ownDrops := bump16 u.counters.ownDrops } }

def PortUnit.countForeign (u : PortUnit) : PortUnit :=
  { u with counters := { u.counters with foreignControl := bump16 u.counters.foreignControl } }

/-- The receive error count rises (R124). -/
def LinkUnit.countError (u : LinkUnit) : LinkUnit := { u with rxErrors := bump16 u.rxErrors }

/-- The plan fault count rises (R156). -/
def State.countPlanFault (s : State) : State := { s with ss := { s.ss with planFaults := bump16 s.ss.planFaults } }

/-! ### Due-notice marks (R105) and the SYSTEM due flag (R104) -/

/-- The mark a crew holds for a zone. -/
def Crew.mark (k : Crew) (z : Nat) : Option Mark := Tab.get none k.marks z

/-- Whether setting a mark over the one held has no effect: neither an UPDATE nor a WITHDRAWN replaces a CLEAR or ISOLATE
(R105). -/
def markStands (held : Option Mark) (m : Mark) : Bool :=
  (m == .update || m == .withdrawn) && (held == some .clear || held == some .isolate)

/-- The notice in flight after the mark of a zone has been set: a mark's notice for that zone no longer stands for the
newest mark (R107). -/
def Flight.afterMark (f : Flight) (z : Nat) : Flight :=
  match f.kind with
  | .mark _ => if f.zone = z then { f with renewed := true } else f
  | _ => f

/-- A mark set by the table of R105. -/
def Crew.setMark (k : Crew) (z : Nat) (m : Mark) : Crew :=
  if markStands (k.mark z) m then k
  else { k with marks := Tab.put none k.marks z (some m), flight := k.flight.map (fun f => f.afterMark z) }

/-- The crew's mark for a zone removed. -/
def Crew.dropMark (k : Crew) (z : Nat) : Crew := { k with marks := Tab.put none k.marks z none }

/-- The SYSTEM due flag set; a SYSTEM notice in flight then leaves it set at its completion (R104, R107). -/
def Crew.setSystemDue (k : Crew) : Crew :=
  { k with systemDue := true,
           flight := k.flight.map (fun f => if f.kind = .system then { f with renewed := true } else f) }

/-- The SYSTEM due flag of every attached crew set (R104). -/
def systemDueAll (s : State) : State :=
  eachLink (fun c s => if s.attached c then s.setCrew c (s.crew c).setSystemDue else s) s

/-! ### The condition of a zone (R37) -/

/-- The active conditions (R37). -/
def Cond.active : Cond → Bool
  | .alarm | .verifying | .supervisory | .trouble => true
  | .quiet | .isolated => false

/-- The condition derived from a live record: ISOLATED when the flag is set, otherwise the first test that holds (R37). -/
def deriveCond (l : ZoneLive) : Cond :=
  if l.isolated then .isolated
  else if l.alarms ≠ 0 then .alarm
  else if l.points.any (fun r => r.kind == .prealarm) then .verifying
  else if l.supervisories ≠ 0 then .supervisory
  else if l.troubles ≠ 0 then .trouble
  else .quiet

/-- A live record after an event has finished changing it (R37, R42): the condition is derived; entering ALARM sets the
alarm entry uptime, staying keeps it, leaving removes it; leaving VERIFYING removes the deadline; a QUIET zone's overflow
mark is clear. `before` is the condition before the event and `now` the uptime. -/
def settleZone (before : Cond) (now : Nat) (l : ZoneLive) : ZoneLive :=
  let c := deriveCond l
  { l with
    cond := c
    alarmEntry := if c = .alarm then (if before = .alarm then l.alarmEntry else some now) else none
    deadline := if c = .verifying then l.deadline else none
    overflow := if c = .quiet then false else l.overflow }

/-- Whether a zone is in an active condition. -/
def State.zoneActive (s : State) (z : Nat) : Bool := (s.zone z).cond.active

/-- The zones in an active condition, in ascending number. -/
def State.activeZones (s : State) : List Nat := (s.zp.live.map Prod.fst).filter s.zoneActive

/-- The alarm lock: some zone is in ALARM or VERIFYING (R161). -/
def State.lockHolds (s : State) : Bool :=
  s.zp.live.any (fun e => e.2.cond == .alarm || e.2.cond == .verifying)

end Sys2Proof.Machine
end

