-- ==== Sys2Proof/Machine/Operands.lean ====
section
/-! DEFINITION. Every operand form: the payloads of trunk frames (10.2, R189), the arguments and entries of management
requests (10.3, R189) and the payloads of crew requests (10.5, R190), read and, for entries and replies, written. -/

namespace Sys2Proof.Machine

/-! ### Codes (10.1) -/

def Cond.code : Cond → Byte
  | .quiet => 0x00#8
  | .trouble => 0x01#8
  | .supervisory => 0x02#8
  | .verifying => 0x03#8
  | .alarm => 0x04#8
  | .isolated => 0x05#8

def RecKind.code : RecKind → Nat
  | .alarm => 0
  | .prealarm => 1
  | .supervisory => 2
  | .trouble => 3

def PictureStatus.code : PictureStatus → Nat
  | .current => 0
  | .resyncing => 1
  | .stale => 2

def TrunkState.code : TrunkState → Byte
  | .bothUp => 0x00#8
  | .oneDown => 0x01#8
  | .bothDown => 0x02#8

/-- A floor as one byte in two's complement (10.1). -/
def floorByte (f : Int) : Byte := BitVec.ofInt 8 f

/-- The floor a byte holds: F8h to FFh are -8 to -1, 00h to 7Fh are 0 to 127, the rest are reserved (10.1). -/
def readFloor (b : Byte) : Option Int :=
  if b.toNat < 128 then some b.toNat else if 248 ≤ b.toNat then some ((b.toNat : Int) - 256) else none

/-- A sheet field: FFFFh is none, 0 to 511 a sheet, the rest reserved (10.1). -/
def readSheetField (h l : Byte) : Option (Option Nat) :=
  let n := num16 h l
  if n = 65535 then some none else if n < 512 then some (some n) else none

def sheetField : Option Nat → List Byte
  | none => [0xFF#8, 0xFF#8]
  | some n => nat16 n

/-- A point record in 3 bytes: the node, then the kind in the top two bits and the point in the low nine (10.1). -/
def recordBytes (r : PointRec) : List Byte := byteOf r.node :: nat16 (r.kind.code * 16384 + r.point)

/-! ### Trunk frames (10.2) -/

def kPointEvent : Byte := 0x10#8
def kPanelReset : Byte := 0x11#8
def kZoneIsolate : Byte := 0x12#8
def kTimeMark : Byte := 0x13#8
def kResyncCall : Byte := 0x14#8
def kResyncDone : Byte := 0x15#8
def kMgmtRequest : Byte := 0x20#8
def kMgmtReply : Byte := 0x21#8

/-- The five kinds whose payload the Trunk Interface examines (R7, R189). -/
def observedKind (k : Byte) : Bool :=
  k == kPointEvent || k == kPanelReset || k == kZoneIsolate || k == kTimeMark || k == kResyncDone

/-- The four kinds that are the panel's to send (R10). -/
def panelOnlyKind (k : Byte) : Bool :=
  k == kPanelReset || k == kZoneIsolate || k == kTimeMark || k == kResyncDone

/-- The point event a payload holds, if it fits (R189). -/
def readPointEvent (node : Nat) : List Byte → Option PointEvent
  | [h, l, c, k] =>
    if num16 h l ≤ 511 ∧ c.toNat ≤ 3 ∧ (k &&& 0x7C#8) = 0 then
      some { node := node, point := num16 h l,
             cond := if c.toNat = 0 then .alarm else if c.toNat = 1 then .supervisory
                     else if c.toNat = 2 then .trouble else .normal,
             kind := if (k &&& 0x03#8).toNat = 0 then .manual else if (k &&& 0x03#8).toNat = 1 then .detector
                     else if (k &&& 0x03#8).toNat = 2 then .flow else .other,
             resend := k.getLsbD 7 }
    else none
  | _ => none

/-- The zone and setting a ZONE_ISOLATE payload holds, if it fits (R189). -/
def readZoneIsolate : List Byte → Option (Nat × Bool)
  | [h, l, b] =>
    if 1 ≤ num16 h l ∧ num16 h l ≤ 1023 ∧ b.toNat ≤ 1 then some (num16 h l, b.toNat == 1) else none
  | _ => none

/-- The panel time a TIME_MARK payload holds, if it fits (R189). -/
def readTimeMark : List Byte → Option Word32
  | [a, b, c, d] => some (BitVec.ofNat 32 (num16 a b * 65536 + num16 c d))
  | _ => none

/-- Whether the payload of one of the five kinds fits its kind (R7, R189). -/
def payloadFits (kind : Byte) (payload : List Byte) : Bool :=
  if kind = kPointEvent then (readPointEvent 0 payload).isSome
  else if kind = kZoneIsolate then (readZoneIsolate payload).isSome
  else if kind = kTimeMark then (readTimeMark payload).isSome
  else payload.isEmpty

/-- The bytes of a frame from the destination to the end of the payload (10.2). -/
def frameHead (dst src seq kind : Byte) (payload : List Byte) : List Byte :=
  dst :: src :: seq :: kind :: byteOf payload.length :: payload

/-- A frame made by the controller, with its check (R13, 10.2). -/
def makeFrame (dst src seq kind : Byte) (payload : List Byte) : Frame :=
  { dst := dst, src := src, seq := seq, kind := kind, payload := payload,
    check := crc (frameHead dst src seq kind payload) }

/-- The bytes of a frame after its start mark (10.2). -/
def Frame.bytes (f : Frame) : List Byte := frameHead f.dst f.src f.seq f.kind f.payload ++ be16 f.check

/-- The line characters of a frame: the start mark, then every byte escaped (R14). -/
def Frame.lineChars (f : Frame) : List Byte := startMark :: escape f.bytes

/-- The frame that complete frame bytes hold (R2, 10.2). -/
def readFrame : List Byte → Option Frame
  | d :: sr :: sq :: k :: n :: rest =>
    match rest.drop n.toNat with
    | [h, l] => some { dst := d, src := sr, seq := sq, kind := k, payload := rest.take n.toNat, check := word16 h l }
    | _ => none
  | _ => none

/-! ### Management result codes (10.3) -/

inductive MgmtResult where
  | ok | busy | locked | inUse | badTable | badIndex | badValue | overlap | full | notFound | unknownOp | notAllowed
  | memoryFault
deriving DecidableEq, Repr

def MgmtResult.code : MgmtResult → Byte
  | .ok => 0x00#8
  | .busy => 0x01#8
  | .locked => 0x02#8
  | .inUse => 0x03#8
  | .badTable => 0x04#8
  | .badIndex => 0x05#8
  | .badValue => 0x06#8
  | .overlap => 0x07#8
  | .full => 0x08#8
  | .notFound => 0x09#8
  | .unknownOp => 0x0A#8
  | .notAllowed => 0x0B#8
  | .memoryFault => 0x0D#8

/-! ### Table entries (10.3) -/

/-- The seven tables of R163. -/
inductive TableId where
  | pointMap | nodeFallback | zoneDefinition | hazardBonus | sheetDirectory | crewProfile | configuration
deriving DecidableEq, Repr

def TableId.ofCode (b : Byte) : Option TableId :=
  if b = 0x01#8 then some .pointMap
  else if b = 0x02#8 then some .nodeFallback
  else if b = 0x03#8 then some .zoneDefinition
  else if b = 0x04#8 then some .hazardBonus
  else if b = 0x05#8 then some .sheetDirectory
  else if b = 0x06#8 then some .crewProfile
  else if b = 0x07#8 then some .configuration
  else none

def MapEntry.bytes (e : MapEntry) : List Byte := byteOf e.node :: (nat16 e.first ++ nat16 e.last ++ nat16 e.zone)

def readMapEntry : List Byte → Option MapEntry
  | [n, f1, f2, l1, l2, z1, z2] => some ⟨n.toNat, num16 f1 f2, num16 l1 l2, num16 z1 z2⟩
  | _ => none

def ZoneDef.bytes (d : ZoneDef) : List Byte :=
  byteOf (d.defined.toNat * 128 + d.verify.toNat * 64 + d.hazard) :: floorByte d.floor :: byteOf d.sector ::
    (sheetField d.primary ++ sheetField d.secondary ++ byteOf d.label.length :: d.label)

/-- A zone definition entry: exactly 8 bytes plus its label length of 0 to 24 (log 17), no reserved bit, floor byte or
sheet field (10.1, 10.3). -/
def readZoneDef : List Byte → Option ZoneDef
  | b0 :: fl :: sec :: p1 :: p2 :: q1 :: q2 :: n :: label =>
    if label.length = n.toNat ∧ n.toNat ≤ 24 ∧ (b0 &&& 0x3C#8) = 0 then
      match readFloor fl, readSheetField p1 p2, readSheetField q1 q2 with
      | some floor, some primary, some secondary =>
        some { defined := b0.getLsbD 7, floor := floor, sector := sec.toNat, hazard := (b0 &&& 0x03#8).toNat,
               verify := b0.getLsbD 6, primary := primary, secondary := secondary, label := label }
      | _, _, _ => none
    else none
  | _ => none

/-- Fields of a zone definition in range (R33, R164). -/
def ZoneDef.inRange (d : ZoneDef) : Bool :=
  decide (-8 ≤ d.floor) && decide (d.floor ≤ 127) && decide (1 ≤ d.sector) && decide (d.sector ≤ 16) &&
  decide (d.hazard ≤ 3) && d.primary.all (fun n => decide (n ≤ 511)) && d.secondary.all (fun n => decide (n ≤ 511)) &&
  decide (d.label.length ≤ 24) && d.label.all (fun b => decide (0x20 ≤ b.toNat) && decide (b.toNat ≤ 0x7E))

def SheetKind.code : SheetKind → Nat
  | .floor => 0
  | .riser => 1
  | .services => 2
  | .hazard => 3

def SheetRec.bytes (r : SheetRec) : List Byte :=
  nat16 (r.defined.toNat * 32768 + r.kind.code * 4096 + r.first) ++
    byteOf r.count :: (nat16 r.lastLen ++ [floorByte r.floor])

/-- A directory record: bit 15 defined, bits 13-12 kind, bits 10-0 first page, no other bit set (10.3). -/
def readSheetRec : List Byte → Option SheetRec
  | [h, l, n, a, b, fl] =>
    let w := num16 h l
    let k := w / 4096 % 4
    if (h &&& 0x48#8) = 0 then
      match readFloor fl with
      | some floor =>
        some { defined := decide (32768 ≤ w), first := w % 2048, count := n.toNat, lastLen := num16 a b,
               kind := if k = 0 then .floor else if k = 1 then .riser else if k = 2 then .services else .hazard,
               floor := floor }
      | none => none
    else none
  | _ => none

/-- Fields of a directory record in range (R133). -/
def SheetRec.inRange (r : SheetRec) : Bool :=
  decide (r.first ≤ 2047) && decide (1 ≤ r.count) && decide (r.count ≤ 64) && decide (1 ≤ r.lastLen) &&
  decide (r.lastLen ≤ 256) && decide (-8 ≤ r.floor) && decide (r.floor ≤ 127)

def Profile.bytes (p : Profile) : List Byte :=
  be16 p.sectors ++
    [byteOf ((p.mode == .nested).toNat + 2 * (p.delivery == .poll).toNat + 4 * (p.rotation == .fixed).toNat +
      8 * p.autoSheet.toNat)]

def readProfile : List Byte → Option Profile
  | [h, l, b] =>
    if (b &&& 0xF0#8) = 0 then
      some { sectors := word16 h l, mode := if b.getLsbD 0 then .nested else .openMode,
             delivery := if b.getLsbD 1 then .poll else .push, rotation := if b.getLsbD 2 then .fixed else .auto,
             autoSheet := b.getLsbD 3 }
    else none
  | _ => none

/-- The 13 configuration bytes (10.3). -/
def ConfigTable.bytes (t : ConfigTable) : List Byte :=
  [byteOf t.own, byteOf t.panel, byteOf t.maint, byteOf t.verifyWindow, byteOf t.escalation, byteOf t.offerTimeout,
   byteOf t.resyncTimeout, byteOf t.bonus0, byteOf t.bonus1, byteOf t.bonus2, byteOf t.bonus3] ++ nat16 t.planPages

def readConfig : List Byte → Option ConfigTable
  | [a, b, c, d, e, f, g, h0, h1, h2, h3, p1, p2] =>
    some { own := a.toNat, panel := b.toNat, maint := c.toNat, verifyWindow := d.toNat, escalation := e.toNat,
           offerTimeout := f.toNat, resyncTimeout := g.toNat, bonus0 := h0.toNat, bonus1 := h1.toNat,
           bonus2 := h2.toNat, bonus3 := h3.toNat, planPages := num16 p1 p2 }
  | _ => none

/-! Ranges of the configuration fields (R168). -/

def okNode (n : Nat) : Bool := decide (1 ≤ n) && decide (n ≤ 120)
def okMaint (n : Nat) : Bool := decide (n ≤ 120)
def okVerify (n : Nat) : Bool := decide (10 ≤ n) && decide (n ≤ 120)
def okEscalation (n : Nat) : Bool := decide (n ≤ 255)
def okOfferTimeout (n : Nat) : Bool := decide (5 ≤ n) && decide (n ≤ 60)
def okResyncTimeout (n : Nat) : Bool := decide (10 ≤ n) && decide (n ≤ 120)
def okBonus (n : Nat) : Bool := decide (n ≤ 80)
def okPlanPages (n : Nat) : Bool := decide (n ≤ 2048)

/-- Every configuration field in its range (R168, R169 test 2). -/
def ConfigTable.inRange (t : ConfigTable) : Bool :=
  okNode t.own && okNode t.panel && okMaint t.maint && okVerify t.verifyWindow && okEscalation t.escalation &&
  okOfferTimeout t.offerTimeout && okResyncTimeout t.resyncTimeout && okBonus t.bonus0 && okBonus t.bonus1 &&
  okBonus t.bonus2 && okBonus t.bonus3 && okPlanPages t.planPages

/-- The own node differs from the panel node, and from the maintenance node when that is not 0 (R169 test 3). -/
def ConfigTable.nodesDiffer (t : ConfigTable) : Bool :=
  t.own != t.panel && (t.maint == 0 || t.own != t.maint)

/-- The hazard bonus of a class (R65). -/
def ConfigTable.bonus (t : ConfigTable) (cls : Nat) : Nat :=
  if cls = 0 then t.bonus0 else if cls = 1 then t.bonus1 else if cls = 2 then t.bonus2 else t.bonus3

/-- The configuration with one hazard bonus replaced (R165). -/
def ConfigTable.withBonus (t : ConfigTable) (cls b : Nat) : ConfigTable :=
  if cls = 0 then { t with bonus0 := b } else if cls = 1 then { t with bonus1 := b }
  else if cls = 2 then { t with bonus2 := b } else { t with bonus3 := b }

/-! ### Management requests (10.3) -/

/-- A management request whose arguments have been read. Indexes, zones, links and pages are as the bytes hold them: the
tests of the operation judge them. -/
inductive MgmtReq where
  | tableRead (t : TableId) (index : Nat)
  | writeMap (index : Nat) (e : MapEntry)
  | writeFallback (index zone : Nat)
  | writeZoneDef (index : Nat) (d : ZoneDef)
  | writeBonus (index bonus : Nat)
  | writeSheet (index : Nat) (r : SheetRec)
  | writeProfile (index : Nat) (p : Profile)
  | writeConfig (index : Nat) (t : ConfigTable)
  | mapInsert (e : MapEntry)
  | mapDelete (node first : Nat)
  | mapClear
  | planStage (offset : Nat) (bytes : List Byte)
  | planCommit (page : Nat)
  | planRead (page offset count : Nat)
  | zoneRead (zone : Nat)
  | statusRead (clear : Bool)
  | pictureClear
  | setRotation (link value : Nat)
  | linkDisable (link : Nat)
  | linkEnable (link : Nat)
  | configSave
deriving DecidableEq, Repr

/-- The outcome of reading a request's operation and arguments: tests 4, 5 and 6 of R158. -/
inductive Parsed where
  | unknownOp
  | badTable
  | badValue
  | ok (r : MgmtReq)
deriving DecidableEq, Repr

/-- Arguments that must be read, or the request is answered BAD_VALUE (R158 test 6). -/
def Parsed.ofOption : Option MgmtReq → Parsed
  | some r => .ok r
  | none => .badValue

def opTableRead : Byte := 0x01#8
def opTableWrite : Byte := 0x02#8
def opMapInsert : Byte := 0x03#8
def opMapDelete : Byte := 0x04#8
def opMapClear : Byte := 0x05#8
def opPlanStage : Byte := 0x06#8
def opPlanCommit : Byte := 0x07#8
def opPlanRead : Byte := 0x08#8
def opZoneRead : Byte := 0x09#8
def opStatusRead : Byte := 0x0A#8
def opPictureClear : Byte := 0x0B#8
def opSetRotation : Byte := 0x0C#8
def opLinkDisable : Byte := 0x0D#8
def opLinkEnable : Byte := 0x0E#8
def opConfigSave : Byte := 0x0F#8

def tPointMap : Byte := 0x01#8
def tNodeFallback : Byte := 0x02#8
def tZoneDefinition : Byte := 0x03#8
def tHazardBonus : Byte := 0x04#8
def tSheetDirectory : Byte := 0x05#8
def tCrewProfile : Byte := 0x06#8
def tConfiguration : Byte := 0x07#8

/-- The entry of a TABLE_WRITE to a table (10.3, "Table entries"). -/
def readWrite (t : TableId) (i : Nat) (entry : List Byte) : Option MgmtReq :=
  match t with
  | .pointMap => (readMapEntry entry).map (.writeMap i)
  | .nodeFallback => match entry with
    | [h, l] => some (.writeFallback i (num16 h l))
    | _ => none
  | .zoneDefinition => (readZoneDef entry).map (.writeZoneDef i)
  | .hazardBonus => match entry with
    | [b] => some (.writeBonus i b.toNat)
    | _ => none
  | .sheetDirectory => (readSheetRec entry).map (.writeSheet i)
  | .crewProfile => (readProfile entry).map (.writeProfile i)
  | .configuration => (readConfig entry).map (.writeConfig i)

/-- A TABLE_READ's or TABLE_WRITE's table, then its remaining arguments. A request that names no table, having no table
byte, is BAD_TABLE (DEDUCED, log 16). -/
def readTabled (args : List Byte) (k : TableId → List Byte → Option MgmtReq) : Parsed :=
  match args with
  | [] => .badTable
  | t :: rest =>
    match TableId.ofCode t with
    | none => .badTable
    | some t => Parsed.ofOption (k t rest)

/-- The request that an operation and its arguments make (R158 tests 4 to 6; 10.3). -/
def parseMgmt (op : Byte) (args : List Byte) : Parsed :=
  if op = opTableRead then
    readTabled args (fun t rest => match rest with
      | [h, l] => some (.tableRead t (num16 h l))
      | _ => none)
  else if op = opTableWrite then
    readTabled args (fun t rest => match rest with
      | h :: l :: entry => readWrite t (num16 h l) entry
      | _ => none)
  else if op = opMapInsert then Parsed.ofOption ((readMapEntry args).map .mapInsert)
  else if op = opMapDelete then
    match args with
    | [n, h, l] => .ok (.mapDelete n.toNat (num16 h l))
    | _ => .badValue
  else if op = opMapClear then if args = [] then .ok .mapClear else .badValue
  else if op = opPlanStage then
    match args with
    | o :: data => if 1 ≤ data.length ∧ data.length ≤ 32 then .ok (.planStage o.toNat data) else .badValue
    | _ => .badValue
  else if op = opPlanCommit then
    match args with
    | [h, l] => .ok (.planCommit (num16 h l))
    | _ => .badValue
  else if op = opPlanRead then
    match args with
    | [h, l, o, n] => .ok (.planRead (num16 h l) o.toNat n.toNat)
    | _ => .badValue
  else if op = opZoneRead then
    match args with
    | [h, l] => .ok (.zoneRead (num16 h l))
    | _ => .badValue
  else if op = opStatusRead then
    match args with
    | [f] => if (f &&& 0xFE#8) = 0 then .ok (.statusRead (f.getLsbD 0)) else .badValue
    | _ => .badValue
  else if op = opPictureClear then if args = [] then .ok .pictureClear else .badValue
  else if op = opSetRotation then
    match args with
    | [c, h, l] => .ok (.setRotation c.toNat (num16 h l))
    | _ => .badValue
  else if op = opLinkDisable then
    match args with
    | [c] => .ok (.linkDisable c.toNat)
    | _ => .badValue
  else if op = opLinkEnable then
    match args with
    | [c] => .ok (.linkEnable c.toNat)
    | _ => .badValue
  else if op = opConfigSave then if args = [] then .ok .configSave else .badValue
  else .unknownOp

/-- The requests the alarm lock covers (R161). -/
def MgmtReq.locked : MgmtReq → Bool
  | .writeMap .. | .writeFallback .. | .writeZoneDef .. | .writeBonus .. | .writeSheet .. | .writeConfig .. => true
  | .mapInsert .. | .mapDelete .. | .mapClear => true
  | .planCommit .. | .configSave => true
  | .tableRead .. | .writeProfile .. | .planStage .. | .planRead .. | .zoneRead .. | .statusRead .. => false
  | .pictureClear | .setRotation .. | .linkDisable .. | .linkEnable .. => false

/-! ### Crew requests (10.5, R190) -/

inductive Request where
  | accept (zone : Nat)
  | decline (zone : Nat)
  | release (zone : Nat)
  | releaseTop
  | poll
  | list
  | sectors (set : Word16)
  | sheetById (sheet : Nat)
  | sheetByZone (zone : Nat)
  | stopNamed (sheet : Nat)
  | stopAll
  | unknown
deriving DecidableEq, Repr

def rAccept : Byte := 0x01#8
def rDecline : Byte := 0x02#8
def rRelease : Byte := 0x03#8
def rReleaseTop : Byte := 0x04#8
def rPoll : Byte := 0x05#8
def rList : Byte := 0x06#8
def rSectors : Byte := 0x07#8
def rSheetReq : Byte := 0x08#8
def rSheetStop : Byte := 0x09#8

/-- A request by sheet id: an id of 512 or more is malformed (R190). -/
def sheetIdRequest (n : Nat) (k : Nat → Request) : Request := if n < 512 then k n else .unknown

/-- The request a kind byte and a payload make; an unknown or outbound kind and a malformed payload are `unknown` (R190). -/
def parseRequest (kind : Byte) (payload : List Byte) : Request :=
  if kind = rAccept then
    match payload with
    | [h, l] => .accept (num16 h l)
    | _ => .unknown
  else if kind = rDecline then
    match payload with
    | [h, l] => .decline (num16 h l)
    | _ => .unknown
  else if kind = rRelease then
    match payload with
    | [h, l] => .release (num16 h l)
    | _ => .unknown
  else if kind = rReleaseTop then if payload = [] then .releaseTop else .unknown
  else if kind = rPoll then if payload = [] then .poll else .unknown
  else if kind = rList then if payload = [] then .list else .unknown
  else if kind = rSectors then
    match payload with
    | [h, l] => .sectors (word16 h l)
    | _ => .unknown
  else if kind = rSheetReq then
    match payload with
    | [f, h, l] =>
      if f = 0 then sheetIdRequest (num16 h l) .sheetById
      else if f = 1 then .sheetByZone (num16 h l) else .unknown
    | _ => .unknown
  else if kind = rSheetStop then
    match payload with
    | [f, h, l] =>
      if f = 0 then sheetIdRequest (num16 h l) .stopNamed
      else if f = 1 ∧ num16 h l = 0 then .stopAll else .unknown
    | _ => .unknown
  else .unknown

inductive CrewResult where
  | ok | full | notPending | notAttended | badZone | wrongMode | none | unknown | noSheet | queueFull | noMemory
  | notFound
deriving DecidableEq, Repr

def CrewResult.code : CrewResult → Byte
  | .ok => 0x00#8
  | .full => 0x01#8
  | .notPending => 0x02#8
  | .notAttended => 0x03#8
  | .badZone => 0x04#8
  | .wrongMode => 0x05#8
  | .none => 0x06#8
  | .unknown => 0x07#8
  | .noSheet => 0x08#8
  | .queueFull => 0x09#8
  | .noMemory => 0x0A#8
  | .notFound => 0x0B#8

/-- A reply with its code and, when OK, its data (10.5: a reply that is not OK carries no data). -/
def mkReply (kind : Byte) (r : CrewResult) (data : List Byte) : Reply :=
  { kind := kind, result := r.code, data := if r = .ok then data else [] }

/-- The bytes of a crew frame after its start mark: length, kind, payload, check (10.5). -/
def crewFrame (kind : Byte) (payload : List Byte) : List Byte :=
  let body := nat16 (payload.length + 1) ++ kind :: payload
  body ++ be16 (crc body)

end Sys2Proof.Machine
end

