-- ==== Sys2Proof/Machine/Sheets.lean ====
section
/-! DEFINITION. The Sheet Streamer (chapter 7): queues, transfers, span buffers, the plan reader and its arbiter, and the
plan memory requests. -/

namespace Sys2Proof.Machine

/-! ### Span buffers (R136) -/

def SheetSlot.buf (x : SheetSlot) : BufId → SpanBuf
  | .bufA => x.bufA
  | .bufB => x.bufB

def SheetSlot.setBuf (x : SheetSlot) (i : BufId) (b : SpanBuf) : SheetSlot :=
  match i with
  | .bufA => { x with bufA := b }
  | .bufB => { x with bufB := b }

/-- Span k is held in buffer A when k is even and in buffer B when k is odd (R136). -/
def bufOf (k : Nat) : BufId := if k % 2 = 0 then .bufA else .bufB

/-- The next span to fill: page count minus pages remaining (R136). -/
def Transfer.fillSpan (t : Transfer) : Nat := t.count - t.remaining

/-- A buffer after an abort of its transfer (R138). -/
def SpanBuf.abort (b : SpanBuf) : SpanBuf :=
  match b.state with
  | .filling | .draining => { b with discarded := true }
  | .empty | .full => SpanBuf.emptied

/-- A buffer after its link's detach (R143). -/
def SpanBuf.detach (b : SpanBuf) : SpanBuf :=
  match b.state with
  | .filling => { b with discarded := true }
  | .draining | .empty | .full => SpanBuf.emptied

/-- A fault entered in the buffer of a span (R147): FULL, no data, final, the cause. -/
def SpanBuf.faulted (span : Nat) (cause : FaultCause) : SpanBuf :=
  { state := .full, span := span, bytes := [], drained := 0, final := true, fault := some cause, discarded := false }

/-- A fault entered in a slot's buffer; the transfer's fault due returns to none and its pages remaining are 0 (R145,
R147). -/
def SheetSlot.enterFault (x : SheetSlot) (i : BufId) (span : Nat) (cause : FaultCause) : SheetSlot :=
  { x.setBuf i (SpanBuf.faulted span cause) with
    transfer := x.transfer.map (fun t => { t with remaining := 0, faultDue := none }) }

/-! ### Availability and transfer start (R133, R137) -/

/-- A sheet is available when its record is defined, its first page is 1 or more and its last page is no greater than plan
pages - 1 (R133). -/
def State.sheetAvailable (s : State) (i : Nat) : Bool :=
  let r := s.sheet i
  r.defined && decide (1 ≤ r.first) && decide (r.first + r.count ≤ s.config.planPages)

/-- The transfer record of a sheet at its start (R137). Of a sheet that is no longer available the rule leaves the next page
to read open: the record's first page is the model's (DESIGN CHOICE, log 35). -/
def State.newTransfer (s : State) (i : Nat) : Transfer :=
  let r := s.sheet i
  if s.sheetAvailable i then
    { sheet := i, first := r.first, count := r.count, lastLen := r.lastLen, nextPage := r.first, remaining := r.count,
      drainSpan := 0, faultDue := none }
  else
    { sheet := i, first := r.first, count := r.count, lastLen := r.lastLen, nextPage := r.first, remaining := 0,
      drainSpan := 0, faultDue := some .range }

/-- A transfer starts for a crew whose slot is empty while its queue holds a sheet (R137). -/
def startTransfer (c : Link) (s : State) : State :=
  let x := s.slot c
  match x.transfer, x.queue with
  | none, i :: rest => s.setSlot c { x with queue := rest, transfer := some (s.newTransfer i) }
  | _, _ => s

/-! ### The plan reader's arbiter (R144, R145) -/

/-- Whether a crew qualifies for a fill grant (R144). -/
def State.qualifies (s : State) (c : Link) : Bool :=
  match (s.slot c).transfer with
  | none => false
  | some t => t.faultDue == none && decide (0 < t.remaining) &&
      ((s.slot c).buf (bufOf t.fillSpan)).state == .empty

/-- The first qualifying crew after the last one granted, in the cyclic order 1, 2, 3, 4, 1 (R144). -/
def State.nextGrant (s : State) : Option Link :=
  let c := s.ss.lastGranted
  [nextLink c, nextLink (nextLink c), nextLink (nextLink (nextLink c)), c].find? s.qualifies

/-- A fill grant to a crew (R145): a read of its next page within the bound, or a RANGE fault beyond it. -/
def grant (c : Link) (s : State) : State :=
  match (s.slot c).transfer with
  | none => s
  | some t =>
    let k := t.fillSpan
    let b := bufOf k
    let s1 := { s with ss := { s.ss with lastGranted := c } }
    if t.nextPage < s.config.planPages then
      let len := if t.remaining = 1 then t.lastLen else 256
      let x := ((s.slot c).setBuf b { SpanBuf.emptied with state := .filling, span := k })
      let s2 := s1.setSlot c
        { x with transfer := some { t with nextPage := t.nextPage + 1, remaining := t.remaining - 1 } }
      { s2 with ss := { s2.ss with reader := some (.fill c b k t.nextPage len) } }
    else s1.setSlot c ((s.slot c).enterFault b k .range)

/-- The reader begins a waiting management operation (R144, R154, R155). -/
def beginWaiting (op : WaitingOp) (s : State) : State :=
  let r := match op with
    | .commit p => .program p (stagedBytes s.ss.staging)
    | .save bytes => .program 0 bytes
    | .read p o n => .read p o n
  { s with ss := { s.ss with reader := some r, waiting := none } }

/-- One choice of the arbiter (R144): nothing while the reader is BUSY; a waiting management operation first; otherwise a
grant. -/
def chooseOnce (s : State) : State :=
  match s.ss.reader with
  | some _ => s
  | none =>
    match s.ss.waiting with
    | some op => beginWaiting op s
    | none =>
      match s.nextGrant with
      | some c => grant c s
      | none => s

/-- A RANGE fault due is entered when the buffer of the transfer's first span is EMPTY (R147). -/
def enterDue (c : Link) (s : State) : State :=
  match (s.slot c).transfer with
  | none => s
  | some t =>
    match t.faultDue with
    | none => s
    | some cause =>
      if ((s.slot c).buf (bufOf t.drainSpan)).state = .empty then
        s.setSlot c ((s.slot c).enterFault (bufOf t.drainSpan) t.drainSpan cause)
      else s

/-- The reader's arbiter at an event: faults due are entered, then it chooses until the reader is BUSY or nothing
qualifies. A grant that enters a RANGE fault leaves the reader IDLE and its crew unqualified, so at most five choices are
made (R145). -/
def readerArbiter (s : State) : State :=
  chooseOnce (chooseOnce (chooseOnce (chooseOnce (chooseOnce (eachLink enterDue s)))))

/-! ### Sheet requests and stops (R139 to R143) -/

/-- A sheet in a crew's queue or in its active transfer (R139 test 3). -/
def SheetSlot.holds (x : SheetSlot) (i : Nat) : Bool :=
  x.queue.contains i || (match x.transfer with
    | some t => t.sheet == i
    | none => false)

/-- Tests 2 to 5 of R139 for a sheet, with what they do. -/
def queueSheet (c : Link) (i : Nat) (s : State) : CrewResult × State :=
  if !s.sheetAvailable i then (.noSheet, s)
  else if (s.slot c).holds i then (.ok, s)
  else if Config.sheetQueueSize ≤ (s.slot c).queue.length then (.queueFull, s)
  else (.ok, startTransfer c (s.setSlot c { s.slot c with queue := (s.slot c).queue ++ [i] }))

/-- A sheet request by id (R139), and the auto-sheet request (R94). -/
def requestSheet (c : Link) (i : Nat) (s : State) : CrewResult × State :=
  if s.config.planPages = 0 then (.noMemory, s) else queueSheet c i s

/-- A sheet field of a zone definition judged by tests 2 to 5 of R139: the number of sheets queued, started or absorbed
(R140). -/
def queueField (c : Link) (f : Option Nat) (s : State) : Nat × State :=
  match f with
  | none => (0, s)
  | some i =>
    let r := queueSheet c i s
    (if r.1 = .ok then 1 else 0, r.2)

/-- A sheet request by zone (R140). -/
def requestByZone (c : Link) (z : Nat) (s : State) : CrewResult × List Byte × State :=
  if ¬ (1 ≤ z ∧ z ≤ 1023) then (.badZone, [], s)
  else if s.config.planPages = 0 then (.noMemory, [], s)
  else
    let p := queueField c (s.zoneDef z).primary s
    let q := queueField c (s.zoneDef z).secondary p.2
    (.ok, [byteOf (p.1 + q.1)], q.2)

/-- The abort of a crew's transfer (R138). -/
def SheetSlot.abort (x : SheetSlot) : SheetSlot :=
  { x with transfer := none, bufA := x.bufA.abort, bufB := x.bufB.abort }

/-- SHEET_STOP naming a sheet (R141). -/
def stopSheet (c : Link) (i : Nat) (s : State) : CrewResult × State :=
  let x := s.slot c
  if x.queue.contains i then (.ok, s.setSlot c { x with queue := without x.queue i })
  else
    match x.transfer with
    | some t => if t.sheet = i then (.ok, startTransfer c (s.setSlot c x.abort)) else (.notFound, s)
    | none => (.notFound, s)

/-- SHEET_STOP of all sheets (R142). -/
def stopAllSheets (c : Link) (s : State) : State :=
  let x := s.slot c
  s.setSlot c (match x.transfer with
    | some _ => { x.abort with queue := [] }
    | none => { x with queue := [] })

/-- The Sheet Streamer at a detach (R143). -/
def sheetDetach (c : Link) (s : State) : State :=
  let x := s.slot c
  s.setSlot c { queue := [], transfer := none, bufA := x.bufA.detach, bufB := x.bufB.detach }

/-! ### Draining (R148, R149) -/

/-- The SHEET frame offered for a crew: its slot holds a transfer and the buffer for the drain span index is FULL (R148). -/
def State.offeredSpan (s : State) (c : Link) : Option (Transfer × SpanBuf) :=
  match (s.slot c).transfer with
  | none => none
  | some t =>
    let b := (s.slot c).buf (bufOf t.drainSpan)
    if b.state = .full ∧ b.span = t.drainSpan then some (t, b) else none

/-- The cause of a fault mark in a SHEET frame: 0 none, 1 MEMORY, 2 RANGE (10.5). -/
def faultCode : Option FaultCause → Nat
  | none => 0
  | some .memory => 1
  | some .range => 2

/-- The three header bytes of a SHEET frame's payload (10.5). -/
def sheetHeader (t : Transfer) (b : SpanBuf) : List Byte :=
  [byteOf (b.final.toNat * 128 + faultCode b.fault * 32 + t.sheet / 256 % 2), byteOf t.sheet, byteOf b.span]

/-- A span's completion (R149). -/
def spanComplete (c : Link) (i : BufId) (s : State) : State :=
  let x := s.slot c
  let b := x.buf i
  let x1 := x.setBuf i SpanBuf.emptied
  if b.discarded then s.setSlot c x1
  else if b.final then startTransfer c (s.setSlot c { x1 with transfer := none })
  else s.setSlot c { x1 with transfer := x1.transfer.map (fun t => { t with drainSpan := t.drainSpan + 1 }) }

/-! ### Completions of fill reads (R146, R147) -/

/-- A fill read completes successfully (R146). -/
def fillComplete (s : State) : State :=
  match s.ss.reader with
  | some (.fill c i k page len) =>
    let x := s.slot c
    let b := x.buf i
    let s1 := { s with ss := { s.ss with reader := none } }
    if b.discarded then s1.setSlot c (x.setBuf i SpanBuf.emptied)
    else
      let final := match x.transfer with
        | some t => k + 1 == t.count
        | none => false
      s1.setSlot c (x.setBuf i
        { state := .full, span := k, bytes := readPlanRange s.planMem (pageBase page) len, drained := 0,
          final := final, fault := none, discarded := false })
  | _ => s

/-- A fill read ends without its bytes (R147): on its second failure, or on any failure while its buffer is discarded. -/
def fillFail (s : State) : State :=
  match s.ss.reader with
  | some (.fill c i k _ _) =>
    let x := s.slot c
    let s1 := { s with ss := { s.ss with reader := none } }
    if (x.buf i).discarded then s1.setSlot c (x.setBuf i SpanBuf.emptied)
    else s1.countPlanFault.setSlot c (x.enterFault i k .memory)
  | _ => s

/-! ### Plan memory requests (R152 to R155) -/

/-- Whether a page lies among some consecutive pages. -/
def pageAmong (p first count : Nat) : Bool := decide (first ≤ p) && decide (p < first + count)

/-- Whether a page is in an active transfer or a queued sheet of a crew (R153 test 2). -/
def State.pageHeldBy (s : State) (p : Nat) (c : Link) : Bool :=
  (match (s.slot c).transfer with
    | some t => pageAmong p t.first t.count
    | none => false) ||
  (s.slot c).queue.any (fun i => pageAmong p (s.sheet i).first (s.sheet i).count)

def State.pageInUse (s : State) (p : Nat) : Bool :=
  s.pageHeldBy p .l1 || s.pageHeldBy p .l2 || s.pageHeldBy p .l3 || s.pageHeldBy p .l4

/-- The tests of a PLAN_COMMIT (R153); OK accepts it. -/
def commitTests (s : State) (p : Nat) : MgmtResult :=
  if p = 0 ∨ s.config.planPages ≤ p then .badIndex
  else if s.pageInUse p then .inUse
  else .ok

/-- The tests of a PLAN_READ (R155); OK accepts it. -/
def readTests (s : State) (p offset count : Nat) : MgmtResult :=
  if p ≠ 0 ∧ s.config.planPages ≤ p then .badIndex
  else if count = 0 ∨ 32 < count ∨ 256 < offset + count then .badValue
  else .ok

/-- A PLAN_STAGE (R152). -/
def planStage (offset : Nat) (bytes : List Byte) (s : State) : MgmtResult × State :=
  if 256 < offset + bytes.length then (.badValue, s)
  else (.ok, { s with ss := { s.ss with staging := stageBytes s.ss.staging offset bytes } })

/-- A management operation becomes the waiting one (R144). -/
def setWaiting (op : WaitingOp) (s : State) : State := { s with ss := { s.ss with waiting := some op } }

/-- The Sheet Streamer's side of a program's completion (R154, R156): the page written, or left as the memory left it and
the failure counted. -/
def finishProgram (ok : Bool) (page : Nat) (bytes : List Byte) (s : State) : MgmtResult × State :=
  let s1 := { s with ss := { s.ss with reader := none } }
  if ok then (.ok, { s1 with planMem := writePlanRange s.planMem (pageBase page) bytes })
  else (.memoryFault, (s1.leavePage page).countPlanFault)

/-- The Sheet Streamer's side of a management read's completion (R155, R156). -/
def finishRead (ok : Bool) (page offset count : Nat) (s : State) : MgmtResult × List Byte × State :=
  let s1 := { s with ss := { s.ss with reader := none } }
  if ok then (.ok, readPlanRange s.planMem (pageBase page + offset) count, s1)
  else (.memoryFault, [], s1.countPlanFault)

/-- A TABLE_WRITE to the sheet directory (R134), without the retention check, which the Management Responder brings up to
date. -/
def writeSheetTests (s : State) (i : Nat) (r : SheetRec) : MgmtResult :=
  if 511 < i then .badIndex
  else if !r.inRange then .badValue
  else if r.defined ∧ ¬ (1 ≤ r.first ∧ r.first + r.count ≤ s.config.planPages) then .badValue
  else .ok

end Sys2Proof.Machine
end

