-- ==== Sys2Proof/Machine/TrunkOut.lean ====
section
/-! DEFINITION. Sending on the trunk: own frames, the transmit arbiter, and the derived trunk state (R13, R14, R16). -/

namespace Sys2Proof.Machine

/-- The transmit arbiter's choice: when the transmitter is free, the oldest frame of the repeat FIFO, otherwise the oldest
own frame (R14). It chooses at each placement and each completion (DEDUCED, log 18). -/
def PortUnit.choose (u : PortUnit) : PortUnit :=
  match u.tx with
  | some _ => u
  | none =>
    if u.repeatOut ≠ [] then { u with tx := some .repeatFifo }
    else if u.ownQueue ≠ [] then { u with tx := some .ownQueue }
    else u

/-- An own frame placed in the port's queue, or counted as dropped when it is full (R13). -/
def PortUnit.placeOwn (f : Frame) (u : PortUnit) : PortUnit :=
  if u.ownQueue.length < Config.trunkQueueSize then { u with ownQueue := u.ownQueue ++ [f] }.choose
  else u.countOwnDrop

/-- A repeat placed in the FIFO that leaves by this port, or counted as dropped when it is full (R9). -/
def PortUnit.placeRepeat (f : Frame) (u : PortUnit) : PortUnit :=
  if u.repeatOut.length < Config.trunkQueueSize then { u with repeatOut := u.repeatOut ++ [f] }.choose
  else u.countRepeatDrop

/-- The last character of the frame being sent has left the line: it is removed and the arbiter chooses again (R14). -/
def PortUnit.sent (u : PortUnit) : PortUnit :=
  match u.tx with
  | none => u
  | some .repeatFifo => { u with tx := none, repeatOut := u.repeatOut.drop 1 }.choose
  | some .ownQueue => { u with tx := none, ownQueue := u.ownQueue.drop 1 }.choose

/-- The own frame the controller would send next with this content: the own node as source, the current own sequence
number (R13). -/
def State.ownFrame (s : State) (dst kind : Byte) (payload : List Byte) : Frame :=
  makeFrame dst (byteOf s.config.own) s.ti.ownSeq kind payload

/-- An own frame taken by the Trunk Interface (R13): the sequence number advances, and the frame is placed in both
own-frame queues. -/
def giveOwn (dst kind : Byte) (payload : List Byte) (s : State) : State :=
  let f := s.ownFrame dst kind payload
  { s with ti := { s.ti with ownSeq := s.ti.ownSeq + 1,
                             ports := ⟨s.ti.ports.va.placeOwn f, s.ti.ports.vb.placeOwn f⟩ } }

/-- The trunk state derived from the port states (R16). -/
def State.trunkState (s : State) : TrunkState :=
  match (s.port .a).up, (s.port .b).up with
  | true, true => .bothUp
  | false, false => .bothDown
  | _, _ => .oneDown

end Sys2Proof.Machine
end

