-- ==== Sys2Proof/Machine/Notices.lean ====
section
/-! DEFINITION. The Notice Resolver (chapter 5): membership, rank, eligibility, the offer step, the crew requests about
zones, the effects of reports, and the choice, contents and completion of notices. -/

namespace Sys2Proof.Machine

/-! ### Reading and writing a crew -/

def State.modCrew (s : State) (c : Link) (f : Crew → Crew) : State := s.setCrew c (f (s.crew c))

def State.profile (s : State) (c : Link) : Profile := s.tables.profiles.get c

/-- The urgency a zone's live record holds; absent reads as 0, which no urgency takes (R69). -/
def State.urgencyOf (s : State) (z : Nat) : Nat := (s.zone z).urgency.getD 0

/-- A crew put into or taken out of a zone's attended-by set (R77). -/
def setAttended (c : Link) (z : Nat) (on : Bool) (s : State) : State :=
  s.setZone z { s.zone z with attendedBy := (s.zone z).attendedBy.set c on }

/-! ### Membership (R81) -/

/-- The membership test of R81. -/
def State.member (s : State) (c : Link) (z : Nat) : Bool :=
  s.zoneActive z && inSectors (s.crew c).live (s.zoneDef z).sector &&
    !(s.crew c).attended.contains z && !(s.crew c).aside.contains z

/-- The membership test applied to a zone: it becomes pending when the test holds (R81). -/
def admitZone (c : Link) (z : Nat) (s : State) : State :=
  if s.member c z then s.modCrew c (fun k => { k with pending := ZSet.place k.pending z }) else s

/-- The membership test applied to every active zone (R79, R100). -/
def admitAll (c : Link) (s : State) : State := s.activeZones.foldl (fun s z => admitZone c z s) s

/-! ### Rank and eligibility (R84, R85) -/

/-- The cyclic distance of a zone from a rotation point (R84). -/
def rotationDistance (rc z : Nat) : Nat := (((z : Int) - rc - 1) % 1023).toNat

/-- Whether zone y ranks before zone z for a crew with rotation point rc: higher urgency first, then smaller distance
(R84). -/
def State.ranksBefore (s : State) (rc y z : Nat) : Bool :=
  decide (s.urgencyOf z < s.urgencyOf y) ||
    (s.urgencyOf y == s.urgencyOf z && decide (rotationDistance rc y < rotationDistance rc z))

/-- A zone put at its place in a ranked list. -/
def State.rankPlace (s : State) (rc : Nat) : List Nat → Nat → List Nat
  | [], z => [z]
  | y :: r, z => if s.ranksBefore rc z y then z :: y :: r else y :: State.rankPlace s rc r z

/-- The rank of a crew: its pending zones in order (R84). -/
def State.rank (s : State) (c : Link) : List Nat :=
  (s.crew c).pending.foldl (s.rankPlace (s.crew c).rc) []

/-- The highest urgency among a crew's attended zones (R85). -/
def State.threshold (s : State) (c : Link) : Nat :=
  (s.crew c).attended.foldl (fun m z => max m (s.urgencyOf z)) 0

/-- Whether a pending zone of a crew is eligible (R85). -/
def State.eligible (s : State) (c : Link) (z : Nat) : Bool :=
  (s.profile c).mode == .openMode || (s.crew c).attended.isEmpty || decide (s.threshold c < s.urgencyOf z)

/-- The top eligible zone of a crew: the first zone of the rank that is eligible (R85). -/
def State.topEligible (s : State) (c : Link) : Option Nat := (s.rank c).find? (s.eligible c)

/-! ### The offer (R87 to R91) -/

/-- The offer step (R88). -/
def offerStep (c : Link) (s : State) : State :=
  let k := s.crew c
  match k.offer with
  | .out _ _ => s
  | _ =>
    if (s.profile c).delivery = .push ∧ k.attended.length < Config.attendedLimit then
      match s.topEligible c with
      | some z => s.setCrew c { k with offer := .due z }
      | none => s.setCrew c { k with offer := .none }
    else s.setCrew c { k with offer := .none }

/-- Whether the offer state names a zone, DUE or OUT. -/
def Offer.names (o : Offer) (z : Nat) : Bool :=
  match o with
  | .none => false
  | .due y => y == z
  | .out y _ => y == z

/-- Whether the offer is OUT naming a zone. -/
def Offer.outNames (o : Offer) (z : Nat) : Bool :=
  match o with
  | .out y _ => y == z
  | _ => false

/-- An offer naming a zone ended. -/
def Crew.endOffer (k : Crew) (z : Nat) : Crew := if k.offer.names z then { k with offer := .none } else k

/-- Whether a crew's offer times out: it is OUT and uptime has reached its deadline (R91; log 7). -/
def State.offerDue (s : State) (c : Link) : Bool :=
  s.attached c && (match (s.crew c).offer with
    | .out _ d => decide (d ≤ s.uptime)
    | _ => false)

/-- An OUT offer times out (R91): the state becomes NONE, and the offer step follows. -/
def offerExpires (c : Link) (s : State) : State := offerStep c (s.modCrew c (fun k => { k with offer := .none }))

/-! ### Attach and detach (R79, R80) -/

/-- A crew's attach: live sectors from the profile, empty collections, Rc 0, pending by membership, SYSTEM due, the offer
step (R79). -/
def crewAttach (c : Link) (s : State) : State :=
  let s1 := s.setCrew c { Crew.empty with live := (s.profile c).sectors }
  offerStep c ((admitAll c s1).modCrew c Crew.setSystemDue)

/-- A crew taken out of the attended-by set of each zone it attends (R80). -/
def unattendAll (c : Link) (s : State) : State :=
  (s.crew c).attended.foldl (fun s z => setAttended c z false s) s

/-- A crew's detach (R80). -/
def crewDetach (c : Link) (s : State) : State := (unattendAll c s).setCrew c Crew.empty

/-! ### Zone requests (R93 to R100) -/

/-- The auto-sheet request of an acceptance and its sheet mark (R94). -/
def autoSheet (c : Link) (z : Nat) (s : State) : Bool × State :=
  if (s.profile c).autoSheet then
    match (s.zoneDef z).primary with
    | some i =>
      let r := requestSheet c i s
      (r.1 == .ok, r.2)
    | none => (false, s)
  else (false, s)

/-- The crew's side of an acceptance: pending to the end of the attended list, the offer naming the zone ended, a WITHDRAWN
mark removed, a CLEAR or ISOLATE mark replaced by an UPDATE (R93). -/
def Crew.accept (k : Crew) (z : Nat) : Crew :=
  let k1 := ({ k with pending := without k.pending z, attended := k.attended ++ [z] } : Crew).endOffer z
  match k.mark z with
  | some .withdrawn => k1.dropMark z
  | some .clear | some .isolate => (k1.dropMark z).setMark z .update
  | _ => k1

/-- A pending zone accepted, with its auto-sheet request (R93, R94). -/
def acceptZone (c : Link) (z : Nat) (s : State) : Bool × State :=
  autoSheet c z (setAttended c z true (s.modCrew c (fun k => k.accept z)))

/-- Whether a number is a zone number. -/
def zoneNumber (z : Nat) : Bool := decide (1 ≤ z) && decide (z ≤ 1023)

/-- The outcome of a request: its result code, its data and the state. -/
abbrev Answer := CrewResult × List Byte × State

/-- The data of an acceptance: the zone and the sheet mark (10.5). -/
def acceptData (z : Nat) (queued : Bool) : List Byte := nat16 z ++ [byteOf queued.toNat]

/-- ACCEPT (R93). -/
def reqAccept (c : Link) (z : Nat) (s : State) : Answer :=
  if !zoneNumber z then (.badZone, [], s)
  else if !(s.crew c).pending.contains z then (.notPending, [], s)
  else if Config.attendedLimit ≤ (s.crew c).attended.length then
    (.full, [], s.modCrew c (fun k => k.endOffer z))
  else
    let r := acceptZone c z s
    (.ok, acceptData z r.1, r.2)

/-- DECLINE (R95). -/
def reqDecline (c : Link) (z : Nat) (s : State) : Answer :=
  if !zoneNumber z then (.badZone, [], s)
  else if !(s.crew c).pending.contains z then (.notPending, [], s)
  else (.ok, [], s.modCrew c (fun k =>
    ({ k with pending := without k.pending z, aside := ZSet.place k.aside z } : Crew).endOffer z))

/-- The crew's side of a release (R96): out of the attended list, set aside when its sector is live, an UPDATE mark
removed, Rc moved under AUTO rotation. -/
def Crew.release (k : Crew) (z sector : Nat) (rot : Rotation) : Crew :=
  let k1 := { k with attended := without k.attended z,
                     aside := if inSectors k.live sector then ZSet.place k.aside z else k.aside,
                     rc := if rot = .auto then z else k.rc }
  if k.mark z = some .update then k1.dropMark z else k1

/-- An attended zone released (R96). -/
def releaseZone (c : Link) (z : Nat) (s : State) : State :=
  setAttended c z false (s.modCrew c (fun k => k.release z (s.zoneDef z).sector (s.profile c).rotation))

/-- RELEASE (R96). -/
def reqRelease (c : Link) (z : Nat) (s : State) : Answer :=
  if !zoneNumber z then (.badZone, [], s)
  else if !(s.crew c).attended.contains z then (.notAttended, [], s)
  else (.ok, [], releaseZone c z s)

/-- The attended zone with the highest urgency, the earliest accepted among equals (R97). -/
def State.topAttended (s : State) (c : Link) : Option Nat :=
  match (s.crew c).attended with
  | [] => none
  | z :: r => some (r.foldl (fun best y => if s.urgencyOf best < s.urgencyOf y then y else best) z)

/-- RELEASE_TOP (R97). -/
def reqReleaseTop (c : Link) (s : State) : Answer :=
  match s.topAttended c with
  | none => (.notAttended, [], s)
  | some z => (.ok, nat16 z, releaseZone c z s)

/-- POLL (R98). -/
def reqPoll (c : Link) (s : State) : Answer :=
  if (s.profile c).delivery = .push then (.wrongMode, [], s)
  else if Config.attendedLimit ≤ (s.crew c).attended.length then (.full, [], s)
  else
    match s.topEligible c with
    | none => (.none, [], s)
    | some z =>
      let r := acceptZone c z s
      (.ok, acceptData z r.1, r.2)

/-- One entry of a LIST reply (10.5): zone, condition, urgency, and flags with the eligible mark in bit 4. -/
def listEntry (s : State) (c : Link) (z : Nat) : List Byte :=
  nat16 z ++ [(s.zone z).cond.code, byteOf (s.urgencyOf z),
    byteOf ((s.eligible c z).toNat * 16 + linkBits (s.zone z).attendedBy)]

/-- LIST (R99). -/
def reqList (c : Link) (s : State) : Answer :=
  let shown := (s.rank c).take 16
  (.ok, nat16 (s.crew c).pending.length ++ byteOf shown.length :: shown.flatMap (listEntry s c), s)

/-- Whether a zone's sector is in a sector set. -/
def State.zoneIn (s : State) (w : Word16) (z : Nat) : Bool := inSectors w (s.zoneDef z).sector

/-- The crew's side of a SECTORS request, steps 1 and 2 of R100: zones outside the new set leave the pending and set-aside
sets, an OUT offer of one is withdrawn with a WITHDRAWN mark, a DUE offer of one becomes NONE. `inside` says which zones
the new set covers. -/
def Crew.newSectors (k : Crew) (w : Word16) (inside : Nat → Bool) : Crew :=
  let k1 := { k with live := w, pending := k.pending.filter inside, aside := k.aside.filter inside }
  match k.offer with
  | .none => k1
  | .due z => if inside z then k1 else { k1 with offer := .none }
  | .out z _ => if inside z then k1 else ({ k1 with offer := .none } : Crew).setMark z .withdrawn

/-- SECTORS (R100). -/
def reqSectors (c : Link) (w : Word16) (s : State) : Answer :=
  (.ok, [], admitAll c (s.modCrew c (fun k => k.newSectors w (s.zoneIn w))))

/-! ### Reports (R83, R101 to R104) -/

/-- A listed zone that became QUIET or ISOLATED, for one crew (R83): it leaves every collection; a crew that attended it or
had its offer OUT is owed a CLEAR or ISOLATE; an offer naming it ends. -/
def Crew.zoneGone (k : Crew) (z : Nat) (isolated : Bool) : Crew :=
  let told := k.attended.contains z || k.offer.outNames z
  let k1 := ({ k with pending := without k.pending z, attended := without k.attended z,
                      aside := without k.aside z } : Crew).endOffer z
  if told then k1.setMark z (if isolated then .isolate else .clear) else k1

def zoneGone (c : Link) (ch : Change) (s : State) : State :=
  setAttended c ch.zone false (s.modCrew c (fun k => k.zoneGone ch.zone (ch.after == .isolated)))

/-- A listed zone that is active after the change, for one crew (R101 step 2; R82). -/
def zoneMoved (c : Link) (z : Nat) (s : State) : State :=
  admitZone c z (s.modCrew c (fun k =>
    let k1 := { k with aside := without k.aside z }
    if k.attended.contains z then k1.setMark z .update else k1))

/-- A carried zone whose urgency alone changed, for one crew (R101 step 3, R102). -/
def urgencyMoved (c : Link) (z : Nat) (s : State) : State :=
  s.modCrew c (fun k => if k.attended.contains z then k.setMark z .update else k)

/-- A carried zone change report for one attached crew (R101). -/
def crewCarried (changes : List Change) (others : List UrgencyChange) (c : Link) (s : State) : State :=
  if s.attached c then
    let s1 := (changes.filter (fun ch => !ch.after.active)).foldl (fun s ch => zoneGone c ch s) s
    let s2 := (changes.filter (fun ch => ch.after.active)).foldl (fun s ch => zoneMoved c ch.zone s) s1
    let s3 := others.foldl (fun s u => urgencyMoved c u.zone s) s2
    offerStep c s3
  else s

/-- A carried zone change report taken by the Notice Resolver (R101). -/
def takeCarried (changes : List Change) (others : List UrgencyChange) (s : State) : State :=
  eachLink (crewCarried changes others) s

/-- An urgency report for one attached crew (R102). -/
def crewUrgency (us : List UrgencyChange) (c : Link) (s : State) : State :=
  if s.attached c then offerStep c (us.foldl (fun s u => urgencyMoved c u.zone s) s) else s

/-- An urgency report taken by the Notice Resolver (R102); an event at which no urgency changed makes none (R75). -/
def takeUrgency (us : List UrgencyChange) (s : State) : State :=
  if us = [] then s else eachLink (crewUrgency us) s

/-- A picture clear report for one attached crew (R103). The notice in flight and the live sectors are kept. -/
def crewCleared (c : Link) (s : State) : State :=
  if s.attached c then
    (unattendAll c s).modCrew c (fun k =>
      ({ k with pending := [], attended := [], aside := [], offer := .none, marks := [], rc := 0 } : Crew).setSystemDue)
  else s

/-- A picture clear report taken by the Notice Resolver (R103). -/
def takeCleared (s : State) : State := eachLink crewCleared s

/-- A profile write taken for an attached crew: the offer step (R78). The profile itself is held by MR. -/
def profileWritten (c : Link) (s : State) : State := if s.attached c then offerStep c s else s

/-- SET_ROTATION taken (R86). -/
def setRotation (c : Link) (v : Nat) (s : State) : State :=
  if s.attached c then offerStep c (s.modCrew c (fun k => { k with rc := v })) else s

/-! ### Due notices (R106 to R110) -/

/-- Whether a mark is one of CLEAR, ISOLATE and WITHDRAWN. -/
def endingMark : Option Mark → Bool
  | some .clear | some .isolate | some .withdrawn => true
  | _ => false

/-- The zone of the UPDATE mark that goes first: highest urgency, then lowest number (R106). The marks are listed in
ascending zone number. -/
def State.firstUpdate (s : State) (k : Crew) : Option Nat :=
  match (k.marks.filter (fun e => e.2 == some .update)).map Prod.fst with
  | [] => none
  | z :: r => some (r.foldl (fun best y => if s.urgencyOf best < s.urgencyOf y then y else best) z)

/-- The first due notice of a crew, by the order of R106: its kind and zone. -/
def State.nextNotice (s : State) (c : Link) : Option (NoticeKind × Nat) :=
  let k := s.crew c
  if k.systemDue then some (.system, 0)
  else
    match k.marks.find? (fun e => endingMark e.2) with
    | some (z, some m) => some (.mark m, z)
    | _ =>
      match s.firstUpdate k with
      | some z => some (.mark .update, z)
      | none =>
        match k.offer with
        | .due z => some (.offer, z)
        | _ => none

/-- Panel time as reported for an uptime: plus the offset when known, otherwise 0 (R188). -/
def State.panelTimeOf (s : State) (t : Nat) : Word32 :=
  if s.tb.known then BitVec.ofNat 32 t + s.tb.offset else 0

/-- The common fields of every notice: picture status and panel time (R108). -/
def State.noticeCommon (s : State) : List Byte :=
  byteOf s.sc.status.code :: be32 (s.panelTimeOf s.uptime)

/-- The latest records of a zone, newest first, at most n (R40). -/
def ZoneLive.latest (l : ZoneLive) (n : Nat) : List PointRec := l.points.reverse.take n

/-- The content of an OFFER or UPDATE notice for its zone (R109, 10.5). -/
def State.zoneContent (s : State) (z : Nat) : List Byte :=
  let l := s.zone z
  let d := s.zoneDef z
  let inAlarm := l.cond == .alarm
  let entry : Word32 := match l.alarmEntry with
    | some t => if inAlarm then s.panelTimeOf t else 0
    | none => 0
  s.noticeCommon ++ nat16 z ++
    [l.cond.code, byteOf (s.urgencyOf z), floorByte d.floor, byteOf d.sector, l.alarms,
     byteOf (inAlarm.toNat * 16 + linkBits l.attendedBy)] ++ be32 entry ++
    l.lapses :: byteOf (l.latest 4).length :: ((l.latest 4).flatMap recordBytes ++ byteOf d.label.length :: d.label)

/-- The kind byte of a notice (10.5). -/
def NoticeKind.code : NoticeKind → Byte
  | .offer => 0x41#8
  | .mark .update => 0x42#8
  | .mark .clear => 0x43#8
  | .mark .isolate => 0x44#8
  | .mark .withdrawn => 0x45#8
  | .system => 0x46#8

/-- The payload of a notice, built from the state as it stands when it is begun (R107 to R110). -/
def State.noticePayload (s : State) (c : Link) (n : NoticeKind) (z : Nat) : List Byte :=
  match n with
  | .system => s.noticeCommon ++ s.trunkState.code :: be16 (s.crew c).live
  | .offer | .mark .update => s.zoneContent z
  | .mark _ => s.noticeCommon ++ nat16 z

/-- An OFFER notice's completion (R89). -/
def offerComplete (c : Link) (z : Nat) (s : State) : State :=
  let k := s.crew c
  if k.pending.contains z then s.setCrew c { k with offer := .out z (s.uptime + s.config.offerTimeout) }
  else if k.attended.contains z || k.aside.contains z then s
  else s.setCrew c (k.setMark z (match (s.zone z).cond with
    | .quiet => .clear
    | .isolated => .isolate
    | _ => .withdrawn))

/-- A mark's notice completed: the mark is removed if it is still the mark sent and was not set again (R107). -/
def Crew.markComplete (k : Crew) (m : Mark) (z : Nat) (renewed : Bool) : Crew :=
  if k.mark z = some m ∧ renewed = false then k.dropMark z else k

/-- A SYSTEM notice completed: the flag is cleared unless set again (R107). -/
def Crew.systemComplete (k : Crew) (renewed : Bool) : Crew := { k with systemDue := k.systemDue && renewed }

/-- A notice's completion taken by the Notice Resolver (R107). -/
def noticeComplete (c : Link) (s : State) : State :=
  match (s.crew c).flight with
  | none => s
  | some f =>
    let s1 := match f.kind with
      | .system => s.modCrew c (fun k => k.systemComplete f.renewed)
      | .mark m => s.modCrew c (fun k => k.markComplete m f.zone f.renewed)
      | .offer => offerComplete c f.zone s
    offerStep c (s1.modCrew c (fun k => { k with flight := none }))

end Sys2Proof.Machine
end

