-- ==== Sys2Proof/Machine/Urgency.lean ====
section
/-! DEFINITION. The Urgency Unit (chapter 4): the five terms, the recomputes, the age schedule and the reports to the
Notice Resolver. -/

namespace Sys2Proof.Machine

/-! ### The terms (R64 to R69) -/

/-- The condition base B (R64); QUIET and ISOLATED have none, written 0. -/
def baseTerm : Cond → Nat
  | .alarm => 120
  | .verifying => 64
  | .supervisory => 40
  | .trouble => 16
  | .quiet | .isolated => 0

/-- The spread S (R66). -/
def spreadTerm (l : ZoneLive) : Nat := if l.cond = .alarm then 4 * min (l.alarms.toNat - 1) 7 else 0

/-- The age G (R67). -/
def ageTerm (e now : Nat) (l : ZoneLive) : Nat :=
  if l.cond = .alarm ∧ e ≠ 0 then 2 * min ((now - l.alarmEntry.getD 0) / e) 15 else 0

/-- The floor-below term F (R68). -/
def State.floorTerm (s : State) (f : Int) : Nat := if -8 < f ∧ 0 < s.floorCount (f - 1) then 12 else 0

/-- The urgency of a zone from its terms as they stand, clamped at 255 (R69). -/
def State.urgencyValue (s : State) (z : Nat) : Nat :=
  let l := s.zone z
  let d := s.zoneDef z
  min 255 (baseTerm l.cond + s.config.bonus d.hazard + spreadTerm l + ageTerm s.config.escalation s.uptime l +
    s.floorTerm d.floor)

/-! ### Recomputes -/

/-- The urgency of a zone's live record written or removed. -/
def setUrgency (z : Nat) (u : Option Nat) (s : State) : State := s.setZone z { s.zone z with urgency := u }

/-- The zones among some whose recompute gives another value than the one held (R75). -/
def State.urgencyChanges (s : State) (zs : List Nat) : List UrgencyChange :=
  zs.filterMap (fun z =>
    if (s.zone z).urgency = some (s.urgencyValue z) then none
    else some ⟨z, (s.zone z).urgency, some (s.urgencyValue z)⟩)

/-- Changed urgencies written into the live records. -/
def writeUrgencies (us : List UrgencyChange) (s : State) : State :=
  us.foldl (fun s u => setUrgency u.zone u.after s) s

/-- The first age step after an uptime for a zone that entered ALARM at `t`: the least t + k × E above `now` with k from 1
to 15, or none (R71). -/
def firstAgeStep (t e now : Nat) : Option Nat :=
  ((List.range 15).map (fun k => t + (k + 1) * e)).find? (fun u => decide (now < u))

/-- A zone listed in a zone change report (R70): its urgency computed or removed; its schedule set when it enters ALARM,
kept while it stays, removed otherwise. -/
def listedZone (ch : Change) (s : State) : State :=
  if ch.after.active then
    let s1 := setUrgency ch.zone (some (s.urgencyValue ch.zone)) s
    if ch.after = .alarm then
      if s.config.escalation ≠ 0 ∧ ch.before ≠ .alarm then
        s1.setAgeStep ch.zone
          (firstAgeStep ((s.zone ch.zone).alarmEntry.getD 0) s.config.escalation s.uptime)
      else s1
    else s1.setAgeStep ch.zone none
  else (setUrgency ch.zone none s).setAgeStep ch.zone none

/-- The active zones, not listed in a report, whose floor below it carries a crossing of (R72). -/
def State.crossedZones (s : State) (r : ZoneReport) : List Nat :=
  s.activeZones.filter (fun z =>
    !(r.changes.any (fun ch => ch.zone == z)) && r.crossings.any (fun x => x.floor == (s.zoneDef z).floor - 1))

/-- A zone change report taken by the Urgency Unit and carried on to the Notice Resolver (R70, R72, R75). A report that
lists no zone is not made (R38). -/
def takeZoneReport (r : ZoneReport) (s : State) : State :=
  if r.changes = [] then s
  else
    let s1 := r.changes.foldl (fun s ch => listedZone ch s) s
    let others := s1.urgencyChanges (s1.crossedZones r)
    takeCarried r.changes others (writeUrgencies others s1)

/-- Zones recomputed at an event that is not a zone change, with the urgency report that follows (R75). -/
def recomputeAndReport (zs : List Nat) (s : State) : State :=
  let us := s.urgencyChanges zs
  takeUrgency us (writeUrgencies us s)

/-- Whether a zone's age step falls: it is in ALARM and uptime has reached its next age step (R71; log 7). -/
def State.ageStepDue (s : State) (z : Nat) : Bool :=
  (s.zone z).cond == .alarm && (s.ageStep z).any (fun t => decide (t ≤ s.uptime))

/-- The age step after one that falls at `t`: none after the fifteenth (R71). -/
def State.nextAgeStep (s : State) (z t : Nat) : Option Nat :=
  if (s.zone z).alarmEntry.getD 0 + 15 * s.config.escalation ≤ t then none else some (t + s.config.escalation)

/-- An age step of a zone falls (R71): the urgency is recomputed and the schedule advances or ends. -/
def ageStepFalls (z : Nat) (s : State) : State :=
  recomputeAndReport [z] (s.setAgeStep z (s.nextAgeStep z ((s.ageStep z).getD 0)))

/-- The active zones of the classes whose bonus differs between two configurations, and, when E differs, the ALARM zones
(R73, R74). -/
def State.configMoved (s : State) (old new : ConfigTable) : List Nat :=
  s.activeZones.filter (fun z =>
    old.bonus (s.zoneDef z).hazard != new.bonus (s.zoneDef z).hazard ||
      (old.escalation != new.escalation && (s.zone z).cond == .alarm))

/-- The age schedules after a change of E (R74). -/
def rescheduleAll (s : State) : State :=
  (s.activeZones.filter (fun z => (s.zone z).cond == .alarm)).foldl (fun s z =>
    s.setAgeStep z (if s.config.escalation = 0 then none
      else firstAgeStep ((s.zone z).alarmEntry.getD 0) s.config.escalation s.uptime)) s

/-- A configuration in force taken by the Urgency Unit in place of `old` (R73, R74): zones recomputed, one urgency report
(R75). -/
def takeConfigChange (old : ConfigTable) (s : State) : State :=
  let zs := s.configMoved old s.config
  recomputeAndReport zs (if old.escalation = s.config.escalation then s else rescheduleAll s)

/-- A picture clear taken by the Urgency Unit and handed on (R76); the live records it clears are already at their start
values (R60). -/
def takePictureClear (s : State) : State := takeCleared { s with ageSteps := [] }

end Sys2Proof.Machine
end

