-- ==== Sys2Proof/Machine/Picture.lean ====
section
/-! DEFINITION. The Point Mapper (chapter 2) and the Zone Picture (chapter 3): resolving a point event and applying it,
verification, isolation, panel reset and picture clear. -/

namespace Sys2Proof.Machine

/-! ### The pool (R39) -/

/-- Records held in all zone lists. -/
def State.heldRecords (s : State) : Nat := (s.zp.live.map (fun e => e.2.points.length)).sum

/-- The pool free count (R39). -/
def State.poolFree (s : State) : Nat := Config.poolSize - s.heldRecords

/-- Whether a record is of a kind for a point. -/
def PointRec.isFor (r : PointRec) (node point : Nat) (k : RecKind) : Bool :=
  r.node == node && r.point == point && r.kind == k

/-- Whether a list holds a record of a kind for a point. -/
def ZoneLive.holdsRec (l : ZoneLive) (node point : Nat) (k : RecKind) : Bool :=
  l.points.any (fun r => r.isFor node point k)

/-- Records of a kind in a list. -/
def ZoneLive.kindCount (l : ZoneLive) (k : RecKind) : Nat := (l.points.filter (fun r => r.kind == k)).length

/-- The outcomes of an attempt to make a record (R41). -/
inductive Attempt where
  | present | made | notMade
deriving DecidableEq, Repr

/-- The largest number of records of a kind a list may hold (R40). -/
def kindMost : RecKind → Nat
  | .prealarm => 1
  | _ => Config.kindLimit

/-- An attempt to make a record of a kind for a point in a zone (R41). -/
def State.attempt (s : State) (l : ZoneLive) (node point : Nat) (k : RecKind) : Attempt :=
  if l.holdsRec node point k then .present
  else if 0 < s.poolFree ∧ l.kindCount k < kindMost k then .made
  else .notMade

/-- A record appended to the end of a list (R40). -/
def ZoneLive.append (l : ZoneLive) (node point : Nat) (k : RecKind) (now : Nat) : ZoneLive :=
  { l with points := l.points ++ [⟨node, point, k, now⟩] }

/-! ### A zone's change and its report (R37, R38, R59) -/

/-- The zone's entry in a zone change report, when its condition or alarm count changed (R38). -/
def changeOf (z : Nat) (old new : ZoneLive) : List Change :=
  if old.cond = new.cond ∧ old.alarms = new.alarms then [] else [⟨z, old.cond, new.cond, old.alarms, new.alarms⟩]

/-- A zone's record after an event has changed it: derived, stored, the floor alarm count kept, and the change reported
(R37, R38, R59). -/
def commitZone (z : Nat) (mid : ZoneLive) (s : State) : State :=
  let old := s.zone z
  let new := settleZone old.cond s.uptime mid
  let f := (s.zoneDef z).floor
  let n := s.floorCount f
  let s1 := s.setZone z new
  if new.cond = .alarm ∧ old.cond ≠ .alarm then
    takeZoneReport ⟨changeOf z old new, if n = 0 then [⟨f, true⟩] else []⟩ (s1.setFloor f (n + 1))
  else if old.cond = .alarm ∧ new.cond ≠ .alarm then
    takeZoneReport ⟨changeOf z old new, if n = 1 then [⟨f, false⟩] else []⟩ (s1.setFloor f (n - 1))
  else takeZoneReport ⟨changeOf z old new, []⟩ s1

/-! ### Point events (R43 to R49) -/

/-- Ordinary alarm (R47). -/
def ordinaryAlarm (s : State) (l : ZoneLive) (e : PointEvent) : ZoneLive :=
  match s.attempt l e.node e.point .alarm with
  | .present => l
  | .made => { l.append e.node e.point .alarm s.uptime with alarms := bump8 l.alarms }
  | .notMade => { l with alarms := bump8 l.alarms, overflow := true }

/-- Verification start (R46): a PREALARM record and a deadline, or an unrecorded alarm when the pool is full. -/
def verificationStart (s : State) (l : ZoneLive) (e : PointEvent) : ZoneLive :=
  match s.attempt l e.node e.point .prealarm with
  | .present => l
  | .made => { l.append e.node e.point .prealarm s.uptime with deadline := some (s.uptime + s.config.verifyWindow) }
  | .notMade => { l with alarms := bump8 l.alarms, overflow := true }

/-- A PREALARM record becomes an ALARM record in its place (R45 step 1). -/
def PointRec.confirmed (r : PointRec) : PointRec := if r.kind = .prealarm then { r with kind := .alarm } else r

/-- Confirmation (R45). -/
def confirmation (s : State) (l : ZoneLive) (e : PointEvent) : ZoneLive :=
  let same := l.holdsRec e.node e.point .prealarm
  let l1 := { l with points := l.points.map PointRec.confirmed, alarms := 1, deadline := none }
  if same then l1
  else
    match s.attempt l1 e.node e.point .alarm with
    | .present => { l1 with alarms := 2 }
    | .made => { l1.append e.node e.point .alarm s.uptime with alarms := 2 }
    | .notMade => { l1 with alarms := 2, overflow := true }

/-- An ALARM event by the first case of R44 that holds. -/
def alarmEvent (s : State) (z : Nat) (l : ZoneLive) (e : PointEvent) : ZoneLive :=
  if l.holdsRec e.node e.point .alarm then l
  else if l.cond = .verifying then confirmation s l e
  else if e.kind = .detector ∧ (s.zoneDef z).verify ∧ l.alarms = 0 ∧ e.resend = false then verificationStart s l e
  else ordinaryAlarm s l e

/-- A SUPERVISORY event (R48). -/
def supervisoryEvent (s : State) (l : ZoneLive) (e : PointEvent) : ZoneLive :=
  match s.attempt l e.node e.point .supervisory with
  | .present => l
  | .made => { l.append e.node e.point .supervisory s.uptime with supervisories := bump8 l.supervisories }
  | .notMade => { l with supervisories := bump8 l.supervisories, overflow := true }

/-- A TROUBLE event (R48). -/
def troubleEvent (s : State) (l : ZoneLive) (e : PointEvent) : ZoneLive :=
  match s.attempt l e.node e.point .trouble with
  | .present => l
  | .made => { l.append e.node e.point .trouble s.uptime with troubles := bump8 l.troubles }
  | .notMade => { l with troubles := bump8 l.troubles, overflow := true }

/-- A NORMAL event (R49). -/
def normalEvent (l : ZoneLive) (e : PointEvent) : ZoneLive :=
  { l with
    points := l.points.filter (fun r =>
      !(r.isFor e.node e.point .supervisory) && !(r.isFor e.node e.point .trouble))
    supervisories := if l.holdsRec e.node e.point .supervisory then drop8 l.supervisories else l.supervisories
    troubles := if l.holdsRec e.node e.point .trouble then drop8 l.troubles else l.troubles }

/-- What a point event makes of the live record of a zone that is not isolated (R44 to R49). -/
def applyEvent (s : State) (z : Nat) (l : ZoneLive) (e : PointEvent) : ZoneLive :=
  match e.cond with
  | .alarm => alarmEvent s z l e
  | .supervisory => supervisoryEvent s l e
  | .trouble => troubleEvent s l e
  | .normal => normalEvent l e

/-- A point event taken by the Zone Picture for a zone (R43 to R49). -/
def zoneEvent (z : Nat) (e : PointEvent) (s : State) : State :=
  let l := s.zone z
  if l.isolated then s.setZone z { l with isolatedEvents := bump8 l.isolatedEvents }
  else commitZone z (applyEvent s z l e) s

/-! ### The Point Mapper (R21, R22) -/

/-- Whether a map entry covers a point of a node (R21). -/
def MapEntry.covers (m : MapEntry) (node point : Nat) : Bool :=
  m.node == node && decide (m.first ≤ point) && decide (point ≤ m.last)

/-- The zone a point resolves to: the covering entry's, otherwise the node's fallback entry (R21). -/
def State.resolve (s : State) (node point : Nat) : Nat :=
  match s.tables.map.find? (fun m => m.covers node point) with
  | some m => m.zone
  | none => Tab.get 0 s.tables.fallback node

/-- A point event taken by the Point Mapper: an orphan counted, or handed to the Zone Picture (R22, R32). -/
def pointEvent (e : PointEvent) (s : State) : State :=
  let z := s.resolve e.node e.point
  if z = 0 ∨ (s.zoneDef z).defined = false then { s with orphans := bump16 s.orphans }
  else zoneEvent z e s

/-! ### Verification windows (R52) -/

/-- A zone's record when its window expires: no PREALARM record, no deadline, one more lapse (R52). -/
def ZoneLive.lapse (l : ZoneLive) : ZoneLive :=
  { l with points := l.points.filter (fun r => r.kind != .prealarm), deadline := none, lapses := bump8 l.lapses }

/-- Whether a zone's window expires: it is VERIFYING and uptime has reached its deadline (R52; log 7). -/
def State.windowDue (s : State) (z : Nat) : Bool :=
  (s.zone z).cond == .verifying && (s.zone z).deadline.any (fun d => decide (d ≤ s.uptime))

/-- The verification window of a zone expires (R52). -/
def windowExpires (z : Nat) (s : State) : State := commitZone z (s.zone z).lapse s

/-! ### Isolation (R54, R55) -/

/-- A zone's record emptied (R42, R54, R56). Lapse and isolated-event counts are kept. -/
def ZoneLive.emptied (l : ZoneLive) : ZoneLive :=
  { l with points := [], alarms := 0, supervisories := 0, troubles := 0, overflow := false, alarmEntry := none,
           deadline := none }

/-- A ZONE_ISOLATE taken by the Zone Picture (R54, R55). -/
def zoneIsolate (z : Nat) (on : Bool) (s : State) : State :=
  let l := s.zone z
  if (s.zoneDef z).defined = false then s
  else if l.isolated = on then s
  else if on then commitZone z { l.emptied with isolated := true } s
  else commitZone z { l with isolated := false } s

/-! ### Panel reset and picture clear (R56, R60) -/

/-- A zone's record after a PANEL_RESET: an isolated zone's as it was, any other QUIET and empty (R56). -/
def ZoneLive.panelReset (l : ZoneLive) : ZoneLive := if l.isolated then l else { l.emptied with cond := .quiet }

/-- The zones a PANEL_RESET's report lists: those active before it (R56). -/
def State.resetChanges (s : State) : List Change :=
  s.activeZones.map (fun z => ⟨z, (s.zone z).cond, .quiet, (s.zone z).alarms, 0⟩)

/-- The floors whose count falls to 0 (R56). -/
def State.resetCrossings (s : State) : List Crossing :=
  (s.zp.floors.filter (fun e => e.2 != 0)).map (fun e => ⟨(e.1 : Int) - 8, false⟩)

/-- A PANEL_RESET taken by the Zone Picture (R56). -/
def panelReset (s : State) : State :=
  takeZoneReport ⟨s.resetChanges, s.resetCrossings⟩
    { s with zp := { live := Tab.mapAll ZoneLive.start ZoneLive.panelReset s.zp.live, floors := [] } }

/-- A picture clear taken by the Zone Picture and handed on (R60, R76, R103). -/
def pictureClear (s : State) : State := takePictureClear { s with zp := { live := [], floors := [] } }

end Sys2Proof.Machine
end

