-- ==== Sys2Proof/Machine/Links.lean ====
section
/-! DEFINITION. The Crew Link Units (chapter 6): frame assembly, hand-off of requests, the reply queue, the frame arbiter,
the writer, attach and detach; and what every event of the controller ends with, the arbiters' tests. -/

namespace Sys2Proof.Machine

def State.modLink (s : State) (c : Link) (f : LinkUnit → LinkUnit) : State := s.setLink c (f (s.link c))

/-! ### The receive FIFO and controller-ready (R117, R122) -/

/-- Bytes the assembler holds for the frame in progress. -/
def Asm.held : Asm → List Byte
  | .hunting => []
  | .collecting buf _ _ => buf

/-- Bytes held in the receive FIFO: the waiting requests, then the frame in progress (R117). -/
def LinkUnit.rxHeld (u : LinkUnit) : Nat := (u.waiting.map List.length).sum + u.asm.held.length

/-- Free places of the receive FIFO. -/
def LinkUnit.rxFree (u : LinkUnit) : Nat := Config.rxFifoSize - u.rxHeld

/-- Controller-ready after an event that changed the free places: low at 16 or fewer while high, high at 32 or more while
low (R122). -/
def LinkUnit.judgeReady (u : LinkUnit) : LinkUnit :=
  match u.ctrlReady with
  | .high => if u.rxFree ≤ 16 then { u with ctrlReady := .low } else u
  | .low => if 32 ≤ u.rxFree then { u with ctrlReady := .high } else u
  | .highZ => u

/-- A frame in progress given up and counted; the assembler goes to `next` (R118 to R121, R124). -/
def LinkUnit.giveUp (u : LinkUnit) (next : Asm) : LinkUnit := ({ u with asm := next } : LinkUnit).countError.judgeReady

/-! ### The character receiver, which a crew link has exactly as a trunk port (R1, R111) -/

/-- A receiver as its filtered line goes from one level to another (R1): from idle, a change from marking to spacing opens a
character; a line back at marking when the receiver looks at the middle of the start bit was noise, and the receiver is
idle again; a return to marking ends the wait after a framing error. -/
def Receiver.follow (r : Receiver) (old new : Level) (atMiddle : Bool) : Receiver :=
  match r, old, new with
  | .idle, .marking, .spacing => .receiving
  | .receiving, _, .marking => if atMiddle then .idle else .receiving
  | .waitMarking, _, .marking => .idle
  | r, _, _ => r

/-- The receiver after a character: idle after a good one; after a framing error it waits for marking (R1). -/
def receiverAfter : LineChar → Receiver
  | .good _ => .idle
  | .framingError => .waitMarking

/-- The level at which a character's stop bit was found (R1). -/
def stopLevel : LineChar → Level
  | .good _ => .marking
  | .framingError => .spacing

/-- A link whose receiver has completed a character (R111). RX has no row of its own, so its level is the stop bit's (log
33). -/
def LinkUnit.heard (u : LinkUnit) (ch : LineChar) : LinkUnit :=
  { u with rx := stopLevel ch, receiver := receiverAfter ch }

/-- RX of an ATTACHED link at marking again before the character that follows, when `back` says so (R111; log 33). -/
def rxBack (c : Link) (back : Bool) (s : State) : State :=
  if back ∧ s.attached c then
    s.modLink c (fun u => { u with rx := .marking, receiver := u.receiver.follow u.rx .marking false })
  else s

/-! ### Frame assembly, as far as the trunk (R2, R3) and the crew links (R117, R118) share it -/

/-- A fresh frame: nothing collected, the escape flag clear, the check register at FFFFh (R2, R117). -/
def Asm.fresh : Asm := .collecting [] false crcInit

/-- What a character does to an assembler. -/
inductive Taken where
  /-- Ignored in HUNTING. -/
  | ignored
  /-- A start mark that opens a frame or repeats the start mark of an empty one; nothing is counted. -/
  | opened
  /-- A start mark after one or more bytes: the frame is discarded and a new one opened (R3, R118). -/
  | reopened
  /-- The escape flag is set. -/
  | escaped
  /-- The frame is discarded: a framing error, an escape after an escape, or an escape of another byte (R3, R118). -/
  | bad
  /-- A decoded byte. -/
  | byte (b : Byte)
deriving DecidableEq, Repr

/-- A character taken by an assembler (R2, R3; R117, R118). -/
def Asm.take (a : Asm) (ch : LineChar) : Taken :=
  match a, ch with
  | .hunting, .good b => if b = startMark then .opened else .ignored
  | .hunting, .framingError => .ignored
  | .collecting _ _ _, .framingError => .bad
  | .collecting buf esc _, .good b =>
    if b = startMark then (if buf = [] then .opened else .reopened)
    else if b = escapeByte then (if esc then .bad else .escaped)
    else if esc then (if needsEscape (b ^^^ escapeMask) then .byte (b ^^^ escapeMask) else .bad)
    else .byte b

/-- The assembler with its escape flag set. -/
def Asm.withEscape : Asm → Asm
  | .hunting => .hunting
  | .collecting buf _ r => .collecting buf true r

/-- The assembler with a decoded byte appended and taken into the check register. -/
def Asm.push (a : Asm) (b : Byte) : Asm :=
  match a with
  | .hunting => .hunting
  | .collecting buf _ r => .collecting (buf ++ [b]) false (crcByte r b)

/-- The check register of an assembler. -/
def Asm.crcReg : Asm → Word16
  | .hunting => crcInit
  | .collecting _ _ r => r

/-! ### Requests taken (R92, R123, R190) -/

/-- A reply placed in the link's reply queue (R125). -/
def placeReply (c : Link) (r : Reply) (s : State) : State := s.modLink c (fun u => { u with replies := u.replies ++ [r] })

/-- An answer of the Notice Resolver: its reply placed, then the offer step (R92). -/
def answerNR (c : Link) (kind : Byte) (a : Answer) : State := offerStep c (placeReply c (mkReply kind a.1 a.2.1) a.2.2)

/-- An answer of the Sheet Streamer: its reply placed (chapter 7, 7.4). -/
def answerSS (c : Link) (kind : Byte) (a : Answer) : State := placeReply c (mkReply kind a.1 a.2.1) a.2.2

/-- A request taken by its block (R123). An unknown or malformed request is answered UNKNOWN, by the Sheet Streamer for its
two kinds and by the Notice Resolver otherwise (R190). -/
def takeRequest (c : Link) (kind : Byte) (r : Request) (s : State) : State :=
  match r with
  | .accept z => answerNR c kind (reqAccept c z s)
  | .decline z => answerNR c kind (reqDecline c z s)
  | .release z => answerNR c kind (reqRelease c z s)
  | .releaseTop => answerNR c kind (reqReleaseTop c s)
  | .poll => answerNR c kind (reqPoll c s)
  | .list => answerNR c kind (reqList c s)
  | .sectors w => answerNR c kind (reqSectors c w s)
  | .sheetById i => answerSS c kind ((requestSheet c i s).1, [], (requestSheet c i s).2)
  | .sheetByZone z => answerSS c kind (requestByZone c z s)
  | .stopNamed i => answerSS c kind ((stopSheet c i s).1, [], (stopSheet c i s).2)
  | .stopAll => answerSS c kind (.ok, [], stopAllSheets c s)
  | .unknown =>
    if kind = rSheetReq ∨ kind = rSheetStop then answerSS c kind (.unknown, [], s)
    else answerNR c kind (.unknown, [], s)

/-- Whether the link unit can hand a request: ATTACHED, and fewer than 4 replies in the queue (R123). -/
def State.canHand (s : State) (c : Link) : Bool :=
  s.attached c && decide ((s.link c).replies.length < Config.replyQueueSize)

/-- The kind and payload of a stored request frame: length, kind, payload, check (6.3). -/
def requestParts : List Byte → Byte × List Byte
  | _ :: _ :: kind :: rest => (kind, rest.take (rest.length - 2))
  | _ => (0x00#8, [])

/-- The oldest waiting request handed, if it can be (R123): its bytes leave the FIFO, controller-ready is judged, and its
block takes it. -/
def handOldest (c : Link) (s : State) : State :=
  match (s.link c).waiting with
  | [] => s
  | w :: rest =>
    if s.canHand c then
      let p := requestParts w
      takeRequest c p.1 (parseRequest p.1 p.2)
        (s.modLink c (fun u => ({ u with waiting := rest } : LinkUnit).judgeReady))
    else s

/-- Requests handed one after another while the reply queue has room; the queue of 4 bounds how many (R123). -/
def handWaiting (c : Link) (s : State) : State := handOldest c (handOldest c (handOldest c (handOldest c s)))

/-! ### The writer (R129) -/

/-- Line characters of some frame bytes, each last character of a byte marked when the bytes are sheet data. -/
def outChars (data : Bool) (bs : List Byte) : List OutChar :=
  bs.flatMap (fun b =>
    if needsEscape b then [⟨escapeByte, false⟩, ⟨b ^^^ escapeMask, data⟩] else [⟨b, data⟩])

/-- The line characters of a crew frame: the start mark, then its bytes escaped (R129). -/
def frameChars (bytes : List Byte) : List OutChar := ⟨startMark, false⟩ :: outChars false bytes

/-- The line characters of a SHEET frame, its data bytes marked (R148). -/
def sheetChars (header data : List Byte) : List OutChar :=
  let payload := header ++ data
  let front := nat16 (payload.length + 1) ++ 0x47#8 :: header
  ⟨startMark, false⟩ :: (outChars false front ++ outChars true data ++ outChars false (be16 (crc (front ++ data))))

/-- How many data bytes some characters complete. -/
def dataCount (cs : List OutChar) : Nat := (cs.filter OutChar.data).length

/-- The drain position of the buffer being written rises with its data bytes (R148). -/
def noteDrained (c : Link) (o : Owner) (n : Nat) (s : State) : State :=
  match o with
  | .sheet i =>
    let x := s.slot c
    s.setSlot c (x.setBuf i { x.buf i with drained := (x.buf i).drained + n })
  | _ => s

/-- The writer writes the frame's characters into the free places of the transmit FIFO, all but the last, whose entry is
the frame's completion, an event of its own (R129; DESIGN CHOICE, log 4). -/
def writerFill (c : Link) (s : State) : State :=
  let u := s.link c
  match u.writing with
  | none => s
  | some w =>
    let n := min (Config.txFifoSize - u.txFifo.length) (w.rest.length - 1)
    noteDrained c w.owner (dataCount (w.rest.take n))
      (s.setLink c { u with writing := some { w with rest := w.rest.drop n },
                            txFifo := u.txFifo ++ (w.rest.take n).map OutChar.ch })

/-- The writer takes a frame from the arbiter (R129). -/
def beginFrame (c : Link) (o : Owner) (cs : List OutChar) (s : State) : State :=
  writerFill c (s.modLink c (fun u => { u with writing := some ⟨o, cs⟩ }))

/-! ### The frame arbiter (R128) -/

/-- A reply begun (R128 step 1). Its content was fixed at its placement (R125). -/
def beginReply (c : Link) (r : Reply) (s : State) : State :=
  beginFrame c .reply (frameChars (crewFrame 0x40#8 (r.kind :: r.result :: r.data))) s

/-- A notice begun (R107): recorded as in flight, its content built now. -/
def beginNotice (c : Link) (n : NoticeKind) (z : Nat) (s : State) : State :=
  beginFrame c .notice (frameChars (crewFrame n.code (s.noticePayload c n z)))
    (s.modCrew c (fun k => { k with flight := some ⟨n, z, false⟩ }))

/-- A SHEET frame begun (R148): its buffer becomes DRAINING. -/
def beginSpan (c : Link) (t : Transfer) (b : SpanBuf) (s : State) : State :=
  beginFrame c (.sheet (bufOf t.drainSpan)) (sheetChars (sheetHeader t b) b.bytes)
    (s.setSlot c ((s.slot c).setBuf (bufOf t.drainSpan) { b with state := .draining }))

/-- Whether the arbiter of a link may begin a frame (R128). -/
def State.mayBegin (s : State) (c : Link) : Bool :=
  s.attached c && (s.link c).writing.isNone && decide ((s.link c).txFifo.length < Config.txFifoSize)

/-- The frame arbiter's test and choice: the oldest reply, a due notice, a SHEET frame (R128). -/
def linkArbiter (c : Link) (s : State) : State :=
  if s.mayBegin c then
    match (s.link c).replies with
    | r :: _ => beginReply c r s
    | [] =>
      match s.nextNotice c with
      | some (n, z) => beginNotice c n z s
      | none =>
        match s.offeredSpan c with
        | some (t, b) => beginSpan c t b s
        | none => s
  else s

/-- What ends an event: the plan reader's arbiter chooses (R144), then every link's frame arbiter tests (R128). -/
def settle (s : State) : State := eachLink linkArbiter (readerArbiter s)

/-! ### Link states (R112 to R116) -/

/-- The receiver at the entry to ATTACHED: idle, or first waiting for marking when RX stands at spacing (R111). -/
def receiverAtAttach : Level → Receiver
  | .marking => .idle
  | .spacing => .waitMarking

/-- A link enters ATTACHED with RX at a level (R114): FIFOs and queue empty, HUNTING, its receiver as R111 gives,
controller-ready high, TX driven by its transmitter and resting at marking (R126); the attach goes to the Notice Resolver
(R79). -/
def attachLink (c : Link) (rx : Level) (s : State) : State :=
  crewAttach c (s.modLink c (fun u =>
    { u with state := .attached, rx := rx, ctrlReady := .high, receiver := receiverAtAttach rx, asm := .hunting,
             waiting := [], replies := [], writing := none, txFifo := [], tx := LinkState.attached.restTx }))

/-- A link leaves ATTACHED (R115) for a state: everything it held is dropped, and the detach goes to the Notice Resolver
(R80) and the Sheet Streamer (R143). On DETACHED controller-ready goes low and the transmitter finishes its character, after
which TX rests at marking; on DISABLED both outputs go to high impedance and the character being sent is cut. -/
def leaveAttached (c : Link) (st : LinkState) (s : State) : State :=
  let s1 := s.modLink c (fun u =>
    { u with state := st, ctrlReady := if st = .disabled then .highZ else .low, receiver := .idle, asm := .hunting,
             waiting := [], replies := [], writing := none, txFifo := [],
             tx := if st = .disabled then st.restTx else u.tx })
  sheetDetach c (crewDetach c s1)

/-- LINK_DISABLE taken by the link unit (R116). -/
def disableLink (c : Link) (s : State) : State :=
  match (s.link c).state with
  | .disabled => s
  | .detached => s.modLink c (fun u => { u with state := .disabled, ctrlReady := .highZ, tx := LinkState.disabled.restTx })
  | .attached => leaveAttached c .disabled s

/-- LINK_ENABLE taken by the link unit (R116). -/
def enableLink (c : Link) (s : State) : State :=
  match (s.link c).state with
  | .disabled => s.modLink c (fun u => { u with state := .detached, ctrlReady := .low, tx := LinkState.detached.restTx })
  | _ => s

/-! ### Characters from a terminal (R117 to R120) -/

/-- The frame size once the two length bytes are stored: the length plus 4 (R117). -/
def crewFrameSize : List Byte → Option Nat
  | h :: l :: _ => some (num16 h l + 4)
  | _ => none

/-- A completed crew frame (R119): a sound one becomes the newest waiting request and requests are handed; a bad check is
discarded and counted. -/
def crewFrameDone (c : Link) (buf : List Byte) (reg : Word16) (s : State) : State :=
  if reg = 0 then
    settle (handWaiting c (s.modLink c (fun u =>
      ({ u with asm := .hunting, waiting := u.waiting ++ [buf] } : LinkUnit).judgeReady)))
  else s.modLink c (fun u => u.giveUp .hunting)

/-- A decoded byte to be stored (R117, R118, R120): lost with its frame when the FIFO is full; otherwise stored, the length
tested when it completes, and the frame completed when it has its full size. -/
def crewByte (c : Link) (b : Byte) (s : State) : State :=
  let u := s.link c
  if u.rxFree = 0 then s.modLink c (fun u => u.giveUp .hunting)
  else
    let a := u.asm.push b
    let stored := s.modLink c (fun u => ({ u with asm := a } : LinkUnit).judgeReady)
    match crewFrameSize a.held with
    | none => stored
    | some n =>
      if n < 5 ∨ 16 < n then stored.modLink c (fun u => u.giveUp .hunting)
      else if a.held.length = n then crewFrameDone c a.held a.crcReg stored
      else stored

/-- A character completed on a link and taken by its frame assembler (R111, R117). Characters are formed only while the link
is ATTACHED and its receiver does not wait for marking. The command stands for the whole character, its start bit included,
so that one that finds the receiver idle is taken as well (DESIGN CHOICE, log 36). -/
def crewChar (c : Link) (ch : LineChar) (s : State) : State :=
  if s.attached c ∧ (s.link c).receiver ≠ .waitMarking then
    let s1 := s.modLink c (fun u => u.heard ch)
    match (s.link c).asm.take ch with
    | .ignored => s1
    | .opened => s1.modLink c (fun u => { u with asm := Asm.fresh })
    | .reopened => s1.modLink c (fun u => u.giveUp Asm.fresh)
    | .escaped => s1.modLink c (fun u => { u with asm := u.asm.withEscape })
    | .bad => s1.modLink c (fun u => u.giveUp .hunting)
    | .byte b => crewByte c b s1
  else s

/-- The partial-frame timer runs: COLLECTING with one or more bytes (R5, R121). -/
def Asm.timed (a : Asm) : Bool := !a.held.isEmpty

/-! ### Completion of a frame (R129) -/

/-- The owner takes a frame's completion (R107, R125, R149). -/
def ownerComplete (c : Link) (o : Owner) (s : State) : State :=
  match o with
  | .reply => handWaiting c (s.modLink c (fun u => { u with replies := u.replies.drop 1 }))
  | .notice => noticeComplete c s
  | .sheet i => spanComplete c i s

/-- The last character of the frame being written enters the transmit FIFO (R129): the writer becomes free, the owner takes
the completion, and the arbiters test again. -/
def frameWritten (c : Link) (s : State) : State :=
  let u := s.link c
  match u.writing with
  | some ⟨o, [ch]⟩ =>
    if u.txFifo.length < Config.txFifoSize then
      let s1 := s.setLink c { u with writing := none, txFifo := u.txFifo ++ [ch.ch] }
      settle (ownerComplete c o (noteDrained c o (dataCount [ch]) s1))
    else s
  | _ => s

/-- The transmitter takes the oldest character (R126): the link is ATTACHED, terminal-ready is high and the FIFO holds one.
The writer writes into the freed place and the arbiter tests again (R128, R129). -/
def takeChar (c : Link) (s : State) : State :=
  let u := s.link c
  if s.attached c ∧ u.termReady then
    match u.txFifo with
    | [] => s
    | ch :: rest => settle (writerFill c (s.setLink c { u with txFifo := rest, tx := .sending ch }))
  else s

end Sys2Proof.Machine
end

