-- ==== Sys2Proof/Machine/Startup.lean ====
section
/-! DEFINITION. Start Control and the Time Base (chapter 9): resync and picture status, trunk state changes, the start, the
retention mark, the configuration page, uptime and panel time. -/

namespace Sys2Proof.Machine

/-! ### Picture status and resync (R184 to R186) -/

/-- The picture status takes a value; a change is reported to the Notice Resolver (R184, R104). -/
def setStatus (st : PictureStatus) (s : State) : State :=
  let s1 := { s with sc := { s.sc with status := st } }
  if s.sc.status = st then s1 else systemDueAll s1

/-- A resync called (R184): RESYNCING, a broadcast RESYNC_CALL, the timeout started. -/
def callResync (s : State) : State :=
  let s1 := giveOwn 0x00#8 kResyncCall [] (setStatus .resyncing s)
  { s1 with sc := { s1.sc with expiry := some (s1.uptime + s1.config.resyncTimeout) } }

/-- A RESYNC_DONE taken (R185). -/
def resyncDone (s : State) : State :=
  if s.sc.status = .resyncing then setStatus .current { s with sc := { s.sc with expiry := none } } else s

/-- Whether the resync expiry is reached (R185; log 7). -/
def State.resyncDue (s : State) : Bool := s.sc.expiry.any (fun t => decide (t ≤ s.uptime))

/-- The resync ends at its timeout (R185): CURRENT, the expiry removed, the timeout counted. -/
def resyncExpires (s : State) : State :=
  setStatus .current { s with sc := { s.sc with expiry := none, resyncTimeouts := bump16 s.sc.resyncTimeouts } }

/-- A trunk state change reported, from one state to another (R16): SYSTEM due for every attached crew (R104), and Start
Control's part (R186). -/
def trunkChanged (old new : TrunkState) (s : State) : State :=
  if old = new then s
  else
    let s1 := systemDueAll s
    if new = .bothDown then setStatus .stale { s1 with sc := { s1.sc with expiry := none } }
    else if old = .bothDown then callResync s1
    else s1

/-- A port goes UP or DOWN, and a change of the derived trunk state is reported (R15, R16). -/
def setUp (p : Port) (up : Bool) (s : State) : State :=
  let s1 := s.setPort p { s.port p with up := up }
  trunkChanged s.trunkState s1.trunkState s1

/-! ### Time (R187, R188) -/

/-- Uptime rises by one; it stops at its highest value (DEDUCED, log 8). -/
def tick (s : State) : State := { s with tb := { s.tb with uptime := min Config.uptimeMax (s.tb.uptime + 1) } }

/-- A TIME_MARK taken (R188). -/
def timeMark (t : Word32) (s : State) : State :=
  { s with tb := { s.tb with offset := t - BitVec.ofNat 32 s.tb.uptime, known := true } }

/-! ### The retention mark (R180, R181) -/

/-- The retained tables replaced at one event, with the check brought up to date at that event (R180). -/
def setTables (r : Retained) (s : State) : State := { s with tables := r, sc := { s.sc with markCheck := r.check } }

/-- Whether a start is warm: the marker word is intact and the computed check equals the stored one (R181). -/
def State.startIsWarm (s : State) : Bool := s.sc.markIntact && s.tables.check == s.sc.markCheck

/-! ### The configuration page (R182) -/

/-- A field that takes its value when in range, otherwise its default (R182 step 4). -/
def orDefault (ok : Nat → Bool) (n d : Nat) : Nat := if ok n then n else d

/-- Each field loaded on its own (R182 step 4). -/
def ConfigTable.loaded (t : ConfigTable) : ConfigTable :=
  let d := ConfigTable.default
  { own := orDefault okNode t.own d.own
    panel := orDefault okNode t.panel d.panel
    maint := orDefault okMaint t.maint d.maint
    verifyWindow := orDefault okVerify t.verifyWindow d.verifyWindow
    escalation := orDefault okEscalation t.escalation d.escalation
    offerTimeout := orDefault okOfferTimeout t.offerTimeout d.offerTimeout
    resyncTimeout := orDefault okResyncTimeout t.resyncTimeout d.resyncTimeout
    bonus0 := orDefault okBonus t.bonus0 d.bonus0
    bonus1 := orDefault okBonus t.bonus1 d.bonus1
    bonus2 := orDefault okBonus t.bonus2 d.bonus2
    bonus3 := orDefault okBonus t.bonus3 d.bonus3
    planPages := orDefault okPlanPages t.planPages d.planPages }

/-- The three node fields take their defaults when the own node equals another (R182 step 5). -/
def ConfigTable.nodesSettled (t : ConfigTable) : ConfigTable :=
  if t.nodesDiffer then t else { t with own := 120, panel := 1, maint := 0 }

/-- The sum of some bytes modulo 256 (00 Conventions, "Checks"). -/
def sumBytes (bs : List Byte) : Byte := bs.foldl (· + ·) 0

/-- The configuration a page's first 16 bytes give, judged by steps 2 to 5 of R182. -/
def judgePage : List Byte → ConfigTable × ConfigSource
  | m1 :: m2 :: rest =>
    if m1 = 0xE7#8 ∧ m2 = 0x40#8 ∧ sumBytes rest = 0 then
      match readConfig (rest.take 13) with
      | some t => (t.loaded.nodesSettled, .page)
      | none => (ConfigTable.default, .default)
    else (ConfigTable.default, .default)
  | _ => (ConfigTable.default, .default)

/-- The configuration loaded at a cold start (R182): the defaults when the read failed on both attempts, otherwise by the
page's offsets 0 to 15 (10.4). -/
def State.loadConfig (s : State) (readOk : Bool) : ConfigTable × ConfigSource :=
  if readOk then judgePage (readPlanRange s.planMem 0 16) else (ConfigTable.default, .default)

/-- The page CONFIG_SAVE programs (R175, 10.4): the marker, the 13 bytes, the sum byte, then FFh. -/
def configPage (t : ConfigTable) : List Byte :=
  [0xE7#8, 0x40#8] ++ t.bytes ++ [0 - sumBytes t.bytes] ++ List.replicate 240 0xFF#8

/-! ### The start (R179, R181, R183) -/

/-- Every port as after a start; the receive level is the line's. -/
def startPorts (q : PerPort PortUnit) : PerPort PortUnit :=
  ⟨PortUnit.start q.va.level, PortUnit.start q.vb.level⟩

/-- Every link as after a start in a given state; the input levels are the lines'. -/
def startLinks (st : LinkState) (out : ReadyOut) (q : PerLink LinkUnit) : PerLink LinkUnit :=
  ⟨LinkUnit.start st out q.v1.presence q.v1.termReady q.v1.rx, LinkUnit.start st out q.v2.presence q.v2.termReady q.v2.rx,
   LinkUnit.start st out q.v3.presence q.v3.termReady q.v3.rx, LinkUnit.start st out q.v4.presence q.v4.termReady q.v4.rx⟩

/-- Every block's working state at its start value (R183), with the relay and the links as given. The retained tables, the
mark, the start kind, the plan memory and the line levels stay. -/
def workingStart (relay : Relay) (st : LinkState) (out : ReadyOut) (s : State) : State :=
  { s with
    ti := { relay := relay, ports := startPorts s.ti.ports, former := none, seqTable := [], ownSeq := 0 }
    orphans := 0
    zp := { live := [], floors := [] }
    ageSteps := []
    nr := ⟨Crew.empty, Crew.empty, Crew.empty, Crew.empty⟩
    cl := startLinks st out s.cl
    ss := Streamer.start
    mr := none
    tb := { uptime := 0, offset := 0, known := false }
    sc := { s.sc with status := .resyncing, expiry := none, resyncTimeouts := 0 } }

/-- A program in flight is cut: its page is left as the memory left it (R159). -/
def cutProgram (s : State) : State :=
  match s.ss.reader with
  | some (.program p _) => s.leavePage p
  | _ => s

/-- Working state lost with the relay CLOSED (R17, R179 step 1): until the start completes the outputs are at high
impedance and the inputs ignored (R116; log 19). -/
def loseWorking (s : State) : State := workingStart .closed .disabled .highZ (cutProgram s)

/-- A start begins (R179 steps 1 to 3): the working state is lost, the start kind is decided from the mark (R181), and on a
cold start the retained tables take their cold values. -/
def beginStart (s : State) : State :=
  let s1 := loseWorking s
  if s1.startIsWarm then { s1 with sc := { s1.sc with mainPower := true, kind := .warm } }
  else { s1 with tables := Retained.cold, sc := { s1.sc with mainPower := true, kind := .cold } }

/-- The tables settled at the end of a start: on a cold start the configuration is loaded and the mark written (R181,
R182); on a warm start they stay. -/
def settleTables (readOk : Bool) (s : State) : State :=
  match s.sc.kind with
  | .warm => s
  | .cold =>
    let l := s.loadConfig readOk
    let s1 := setTables { s.tables with config := l.1, source := l.2 } s
    { s1 with sc := { s1.sc with markIntact := true } }

/-- The start completes (R183): every block takes its start values, the links enter DETACHED, the relay opens, and the
first resync is called. -/
def finishStart (readOk : Bool) (s : State) : State :=
  callResync (workingStart .opened .detached .low (settleTables readOk s))

/-- Whether a start is in progress: main power present and the relay CLOSED (R17, R179). -/
def State.starting (s : State) : Bool := s.sc.mainPower && s.ti.relay == .closed

/-- Main power lost (R17, R180): the relay closes and working state is lost. -/
def losePower (s : State) : State :=
  let s1 := loseWorking s
  { s1 with sc := { s1.sc with mainPower := false } }

end Sys2Proof.Machine
end

