-- ==== Sys2Proof/Machine/Management.lean ====
section
/-! DEFINITION. The Management Responder (chapter 8): intake, the alarm lock, the tables, the commands, the records it
reports, and the completions of its memory operations. -/

namespace Sys2Proof.Machine

/-! ### Replies (R160) -/

/-- A MGMT_REPLY given to the Trunk Interface, addressed to the requester: the id, the result, and with OK the data (R160,
10.2). -/
def reply (src : Byte) (id : Word16) (r : MgmtResult) (data : List Byte) (s : State) : State :=
  giveOwn src kMgmtReply (be16 id ++ r.code :: (if r = .ok then data else [])) s

/-! ### Admission and the lock (R157, R161) -/

/-- A requester is admitted when it is the panel node, or the maintenance node when that is not 0 (R157). -/
def State.admitted (s : State) (src : Byte) : Bool :=
  src.toNat == s.config.panel || (s.config.maint != 0 && src.toNat == s.config.maint)

/-! ### Point map operations (R24 to R28) -/

/-- Fields of a map entry in range (R24 test 1). -/
def MapEntry.inRange (e : MapEntry) : Bool :=
  decide (1 ≤ e.node) && decide (e.node ≤ 120) && decide (e.first ≤ e.last) && decide (e.last ≤ 511) &&
  decide (1 ≤ e.zone) && decide (e.zone ≤ 1023)

/-- Whether two entries share a point of one node (R19). -/
def MapEntry.shares (a b : MapEntry) : Bool :=
  a.node == b.node && decide (a.first ≤ b.last) && decide (b.first ≤ a.last)

/-- Whether an entry sorts before another: by node, then first point (R19). -/
def MapEntry.sortsBefore (a b : MapEntry) : Bool :=
  decide (a.node < b.node) || (a.node == b.node && decide (a.first < b.first))

/-- The number of entries that sort before one: the index at which it is placed (R24). -/
def placeIndex (m : List MapEntry) (e : MapEntry) : Nat := (m.filter (fun x => x.sortsBefore e)).length

/-- The map with an entry inserted at its index (R24). -/
def insertEntry (m : List MapEntry) (e : MapEntry) : List MapEntry :=
  m.take (placeIndex m e) ++ e :: m.drop (placeIndex m e)

/-- The retained tables with another point map. -/
def withMap (s : State) (m : List MapEntry) : State := setTables { s.tables with map := m } s

/-- MAP_INSERT (R24). -/
def mapInsert (e : MapEntry) (s : State) : MgmtResult × List Byte × State :=
  if !e.inRange then (.badValue, [], s)
  else if s.tables.map.any (fun x => x.shares e) then (.overlap, [], s)
  else if Config.mapSize ≤ s.tables.map.length then (.full, [], s)
  else (.ok, nat16 (placeIndex s.tables.map e), withMap s (insertEntry s.tables.map e))

/-- Whether an entry is the one a MAP_DELETE names (R25). -/
def MapEntry.startsAt (e : MapEntry) (node first : Nat) : Bool := e.node == node && e.first == first

/-- MAP_DELETE (R25). -/
def mapDelete (node first : Nat) (s : State) : MgmtResult × State :=
  if node = 0 ∨ 120 < node ∨ 511 < first then (.badValue, s)
  else if s.tables.map.any (fun e => e.startsAt node first) then
    (.ok, withMap s (s.tables.map.filter (fun e => !(e.startsAt node first))))
  else (.notFound, s)

/-- MAP_CLEAR (R27). -/
def mapClear (s : State) : State := withMap s []

/-- Whether an entry may stand after the one before it (R26 test 3). -/
def fitsAfter (below : Option MapEntry) (e : MapEntry) : Bool :=
  match below with
  | none => true
  | some b => b.sortsBefore e && (b.node != e.node || decide (b.last < e.first))

/-- Whether an entry may stand before the one after it (R26 test 3). -/
def fitsBefore (e : MapEntry) (above : Option MapEntry) : Bool :=
  match above with
  | none => true
  | some a => e.sortsBefore a && (a.node != e.node || decide (e.last < a.first))

/-- The entry below an index. -/
def entryBelow (m : List MapEntry) : Nat → Option MapEntry
  | 0 => none
  | i + 1 => m[i]?

/-- TABLE_WRITE to the point map (R26). -/
def writeMap (i : Nat) (e : MapEntry) (s : State) : MgmtResult × State :=
  let m := s.tables.map
  if m.length ≤ i then (.badIndex, s)
  else if !e.inRange then (.badValue, s)
  else if !(fitsAfter (entryBelow m i) e && fitsBefore e m[i + 1]?) then (.overlap, s)
  else (.ok, withMap s (m.set i e))

/-- TABLE_WRITE to the node fallback table (R28). -/
def writeFallback (node z : Nat) (s : State) : MgmtResult × State :=
  if node = 0 ∨ 120 < node then (.badIndex, s)
  else if 1023 < z then (.badValue, s)
  else (.ok, setTables { s.tables with fallback := Tab.put 0 s.tables.fallback node z } s)

/-! ### The other tables (R134, R164, R165, R167, R169) -/

/-- TABLE_WRITE to the zone definitions (R164, R34). -/
def writeZoneDef (z : Nat) (d : ZoneDef) (s : State) : MgmtResult × State :=
  if !zoneNumber z then (.badIndex, s)
  else if !d.inRange then (.badValue, s)
  else if (s.zone z).cond ≠ .quiet then (.inUse, s)
  else (.ok, setTables { s.tables with defs := Tab.put ZoneDef.cold s.tables.defs z d } s)

/-- The configuration replaced, and taken by the Urgency Unit (R73, R74, R169). -/
def setConfig (t : ConfigTable) (s : State) : State :=
  takeConfigChange s.config (setTables { s.tables with config := t } s)

/-- TABLE_WRITE to the hazard bonus table (R165, R73). -/
def writeBonus (cls b : Nat) (s : State) : MgmtResult × State :=
  if 3 < cls then (.badIndex, s)
  else if 80 < b then (.badValue, s)
  else (.ok, setConfig (s.config.withBonus cls b) s)

/-- TABLE_WRITE to the sheet directory (R134). -/
def writeSheet (i : Nat) (r : SheetRec) (s : State) : MgmtResult × State :=
  match writeSheetTests s i r with
  | .ok => (.ok, setTables { s.tables with dir := Tab.put SheetRec.cold s.tables.dir i r } s)
  | code => (code, s)

/-- TABLE_WRITE to a crew profile (R167, R78). -/
def writeProfile (n : Nat) (p : Profile) (s : State) : MgmtResult × State :=
  match linkOfNat n with
  | none => (.badIndex, s)
  | some c => (.ok, profileWritten c (setTables { s.tables with profiles := s.tables.profiles.set c p } s))

/-- The own node moves on: the old address becomes the former own node, and the strip hold starts (R8, R170). -/
def keepFormer (old : Nat) (s : State) : State := { s with ti := { s.ti with former := some old } }

/-- TABLE_WRITE to the configuration table with its reply (R169, R170): when the own node changes, the reply is given under
the old address first. -/
def writeConfig (src : Byte) (id : Word16) (i : Nat) (t : ConfigTable) (s : State) : State :=
  if i ≠ 0 then reply src id .badIndex [] s
  else if !t.inRange then reply src id .badValue [] s
  else if !t.nodesDiffer then reply src id .badValue [] s
  else if t.own = s.config.own then reply src id .ok [] (setConfig t s)
  else keepFormer s.config.own (setConfig t (reply src id .ok [] s))

/-- TABLE_READ (R29, R134, R163): the entry as it stands, or BAD_INDEX. -/
def readTable (t : TableId) (i : Nat) (s : State) : MgmtResult × List Byte :=
  match t with
  | .pointMap => match s.tables.map[i]? with
    | some e => (.ok, e.bytes ++ nat16 s.tables.map.length)
    | none => (.badIndex, [])
  | .nodeFallback => if 1 ≤ i ∧ i ≤ 120 then (.ok, nat16 (Tab.get 0 s.tables.fallback i)) else (.badIndex, [])
  | .zoneDefinition => if zoneNumber i then (.ok, (s.zoneDef i).bytes) else (.badIndex, [])
  | .hazardBonus => if i ≤ 3 then (.ok, [byteOf (s.config.bonus i)]) else (.badIndex, [])
  | .sheetDirectory => if i ≤ 511 then (.ok, (s.sheet i).bytes) else (.badIndex, [])
  | .crewProfile => match linkOfNat i with
    | some c => (.ok, (s.profile c).bytes)
    | none => (.badIndex, [])
  | .configuration => if i = 0 then (.ok, s.config.bytes) else (.badIndex, [])

/-! ### The zone record and the status record (R62, R176 to R178, 10.3) -/

/-- An uptime present or absent in 4 bytes; absent is sent as zero (10.1). -/
def optUptime : Option Nat → List Byte
  | some t => nat32 t
  | none => nat32 0

/-- The zone record of ZONE_READ (10.3). -/
def State.zoneRecord (s : State) (z : Nat) : List Byte :=
  let l := s.zone z
  [l.cond.code,
   byteOf (l.isolated.toNat * 128 + l.overflow.toNat * 64 + l.alarmEntry.isSome.toNat * 32 +
     l.deadline.isSome.toNat * 16 + linkBits l.attendedBy),
   l.alarms, l.supervisories, l.troubles, l.lapses, l.isolatedEvents] ++
  optUptime l.alarmEntry ++ optUptime l.deadline ++ [byteOf (l.urgency.getD 0)] ++ nat16 l.points.length ++
  (l.latest 3).flatMap (fun r => recordBytes r ++ nat32 r.arrival)

/-- The five counters of a port in the order of R18. -/
def PortCounters.bytes (k : PortCounters) : List Byte :=
  be16 k.checkFails ++ be16 k.framingErrors ++ be16 k.repeatDrops ++ be16 k.ownDrops ++ be16 k.foreignControl

/-- The status record of STATUS_READ (10.3, R177). -/
def State.statusRecord (s : State) : List Byte :=
  byteOf ((s.port .a).up.toNat * 128 + (s.port .b).up.toNat * 64 + s.sc.status.code * 16 + s.tb.known.toNat * 8 +
      (s.sc.kind == .cold).toNat * 4 + (s.tables.source == .page).toNat * 2) ::
    (nat32 s.uptime ++ nat16 s.poolFree ++ (s.port .a).counters.bytes ++ (s.port .b).counters.bytes ++
      be16 s.orphans ++ be16 s.ss.planFaults ++
      be16 (s.link .l1).rxErrors ++ be16 (s.link .l2).rxErrors ++ be16 (s.link .l3).rxErrors ++
      be16 (s.link .l4).rxErrors ++ be16 s.sc.resyncTimeouts)

/-- Every counter the status record carries set to zero (R178). -/
def clearCounters (s : State) : State :=
  { s with
    ti := { s.ti with ports := ⟨{ s.ti.ports.va with counters := PortCounters.zero },
                                { s.ti.ports.vb with counters := PortCounters.zero }⟩ }
    orphans := 0
    ss := { s.ss with planFaults := 0 }
    cl := ⟨{ s.cl.v1 with rxErrors := 0 }, { s.cl.v2 with rxErrors := 0 }, { s.cl.v3 with rxErrors := 0 },
           { s.cl.v4 with rxErrors := 0 }⟩
    sc := { s.sc with resyncTimeouts := 0 } }

/-- STATUS_READ with its reply (R177, R178): the record is copied, the counters are cleared when the mark is set, and the
reply is given. A drop of the reply itself comes after the copy and counts from zero (R18; DEDUCED, log 21). -/
def statusRead (src : Byte) (id : Word16) (clear : Bool) (s : State) : State :=
  reply src id .ok s.statusRecord (if clear then clearCounters s else s)

/-! ### Commands (R172 to R175) -/

/-- PICTURE_CLEAR with its reply, in the order of R172. -/
def clearPicture (src : Byte) (id : Word16) (s : State) : State := reply src id .ok [] (callResync (pictureClear s))

/-- A link command with its reply (R174). -/
def linkCommand (f : Link → State → State) (src : Byte) (id : Word16) (n : Nat) (s : State) : State :=
  match linkOfNat n with
  | none => reply src id .badIndex [] s
  | some c => reply src id .ok [] (f c s)

/-- SET_ROTATION with its reply (R173, R86). -/
def rotationCommand (src : Byte) (id : Word16) (n v : Nat) (s : State) : State :=
  match linkOfNat n with
  | none => reply src id .badIndex [] s
  | some c => if 1023 < v then reply src id .badValue [] s else reply src id .ok [] (setRotation c v s)

/-- A request becomes the request in progress, and its memory operation the waiting one (R159, R144). -/
def acceptOp (src : Byte) (id : Word16) (op : Byte) (w : WaitingOp) (s : State) : State :=
  setWaiting w { s with mr := some ⟨src, id, op⟩ }

/-- A request that needs the plan reader: refused by its test, or accepted (R159, R171). -/
def readerRequest (src : Byte) (id : Word16) (op : Byte) (r : MgmtResult) (w : WaitingOp) (s : State) : State :=
  if r = .ok then acceptOp src id op w s else reply src id r [] s

/-- A result with its state, answered (R160). -/
def answer (src : Byte) (id : Word16) (a : MgmtResult × State) : State := reply src id a.1 [] a.2

/-- A request that has passed tests 1 to 7 of R158, carried out by its own rule (test 8). -/
def carryOut (src : Byte) (id : Word16) (r : MgmtReq) (s : State) : State :=
  match r with
  | .tableRead t i => reply src id (readTable t i s).1 (readTable t i s).2 s
  | .writeMap i e => answer src id (writeMap i e s)
  | .writeFallback i z => answer src id (writeFallback i z s)
  | .writeZoneDef i d => answer src id (writeZoneDef i d s)
  | .writeBonus i b => answer src id (writeBonus i b s)
  | .writeSheet i x => answer src id (writeSheet i x s)
  | .writeProfile i p => answer src id (writeProfile i p s)
  | .writeConfig i t => writeConfig src id i t s
  | .mapInsert e => reply src id (mapInsert e s).1 (mapInsert e s).2.1 (mapInsert e s).2.2
  | .mapDelete n f => answer src id (mapDelete n f s)
  | .mapClear => reply src id .ok [] (mapClear s)
  | .planStage o bs => answer src id (planStage o bs s)
  | .planCommit p => readerRequest src id opPlanCommit (commitTests s p) (.commit p) s
  | .planRead p o n => readerRequest src id opPlanRead (readTests s p o n) (.read p o n) s
  | .zoneRead z => if zoneNumber z then reply src id .ok (s.zoneRecord z) s else reply src id .badIndex [] s
  | .statusRead clear => statusRead src id clear s
  | .pictureClear => clearPicture src id s
  | .setRotation n v => rotationCommand src id n v s
  | .linkDisable n => linkCommand disableLink src id n s
  | .linkEnable n => linkCommand enableLink src id n s
  | .configSave => acceptOp src id opConfigSave (.save (configPage s.config)) s

/-! ### Taking a request (R157, R158) -/

/-- A request with a readable header judged by tests 2 to 8 of R158, the first that fails deciding the answer. -/
def takeMgmt (src : Byte) (id : Word16) (op : Byte) (args : List Byte) (s : State) : State :=
  if !s.admitted src then reply src id .notAllowed [] s
  else if s.mr.isSome then reply src id .busy [] s
  else
    match parseMgmt op args with
    | .unknownOp => reply src id .unknownOp [] s
    | .badTable => reply src id .badTable [] s
    | .badValue => reply src id .badValue [] s
    | .ok r => if r.locked && s.lockHolds then reply src id .locked [] s else carryOut src id r s

/-- A MGMT_REQUEST payload handed to MR: too short for an id and an operation, it is discarded (R158 test 1). -/
def takeMgmtPayload (src : Byte) (payload : List Byte) (s : State) : State :=
  match payload with
  | h :: l :: op :: args => takeMgmt src (word16 h l) op args s
  | _ => s

/-- A management row of the command table: the request handed to MR while the controller runs, and the event's end. -/
def mgmtRow (src : Byte) (id : Word16) (op : Byte) (args : List Byte) (s : State) : State :=
  whenRunning s (fun s => settle (takeMgmt src id op args s))

/-! ### Completions (R154, R155, R159, R160) -/

/-- The reply to the request in progress, which then is none (R159). -/
def completeRequest (r : MgmtResult) (data : List Byte) (s : State) : State :=
  match s.mr with
  | none => s
  | some q => reply q.requester q.id r data { s with mr := none }

/-- A page program completes (R154). -/
def programDone (ok : Bool) (s : State) : State :=
  match s.ss.reader with
  | some (.program p bytes) =>
    let r := finishProgram ok p bytes s
    settle (completeRequest r.1 [] r.2)
  | _ => s

/-- A management page read completes (R155). -/
def planReadDone (ok : Bool) (s : State) : State :=
  match s.ss.reader with
  | some (.read p o n) =>
    let r := finishRead ok p o n s
    settle (completeRequest r.1 r.2.1 r.2.2)
  | _ => s

end Sys2Proof.Machine
end

