-- ==== Sys2Proof/Machine/TrunkIn.lean ====
section
/-! DEFINITION. The Trunk Interface's receive side (chapter 1): frame assembly, the check test, dispatch and handing. -/

namespace Sys2Proof.Machine

def State.modPort (s : State) (p : Port) (f : PortUnit → PortUnit) : State := s.setPort p (f (s.port p))

/-! ### Dispatch and handing (R7 to R12) -/

/-- Whether a source is the own node, or the former own node while the strip hold runs (R7, R8). -/
def State.ownSource (s : State) (src : Byte) : Bool :=
  src.toNat == s.config.own || s.ti.former == some src.toNat

/-- A frame's content handed to its block (R12). -/
def hand (f : Frame) (s : State) : State :=
  if f.kind = kPointEvent then
    match readPointEvent f.src.toNat f.payload with
    | some e => pointEvent e s
    | none => s
  else if f.kind = kPanelReset then panelReset s
  else if f.kind = kZoneIsolate then
    match readZoneIsolate f.payload with
    | some (z, on) => zoneIsolate z on s
    | none => s
  else if f.kind = kTimeMark then
    match readTimeMark f.payload with
    | some t => timeMark t s
    | none => s
  else if f.kind = kResyncDone then resyncDone s
  else if f.kind = kMgmtRequest then takeMgmtPayload f.src f.payload s
  else s

/-- The source sequence entry of a source takes a sequence number (R11). -/
def setSeq (f : Frame) (s : State) : State :=
  { s with ti := { s.ti with seqTable := Tab.put none s.ti.seqTable f.src.toNat (some f.seq) } }

/-- The handing tests (R10, R11): a panel-only kind from another source is counted as foreign control; a copy is not
handed; otherwise the entry takes the sequence number and the frame is handed (R12). -/
def handTests (p : Port) (f : Frame) (s : State) : State :=
  if panelOnlyKind f.kind ∧ f.src.toNat ≠ s.config.panel then s.modPort p PortUnit.countForeign
  else if Tab.get none s.ti.seqTable f.src.toNat = some f.seq then s
  else hand f (setSeq f s)

/-- Dispatch of a sound frame that arrived on a port, by the tests of R7 in order. -/
def dispatch (p : Port) (f : Frame) (s : State) : State :=
  if s.ownSource f.src then s
  else if observedKind f.kind ∧ payloadFits f.kind f.payload = false then s.modPort p PortUnit.countFraming
  else if f.dst.toNat = s.config.own then
    if observedKind f.kind ∨ f.kind = kMgmtRequest then handTests p f s else s
  else
    let s1 := s.modPort (otherPort p) (PortUnit.placeRepeat f)
    if observedKind f.kind then handTests p f s1 else s1

/-- A sound frame (R4, R6, R15): the port comes UP, the frame enters the receive stage, is dispatched, and leaves the
stage; the event ends with the arbiters' tests. -/
def soundFrame (p : Port) (f : Frame) (s : State) : State :=
  let s1 := (setUp p true s).modPort p (fun u => { u with stage := some f })
  settle ((dispatch p f s1).modPort p (fun u => { u with stage := none }))

/-- A complete frame's check test (R4). -/
def trunkFrameDone (p : Port) (buf : List Byte) (reg : Word16) (s : State) : State :=
  let s1 := s.modPort p (fun u => { u with asm := .hunting })
  if reg = 0 then
    match readFrame buf with
    | some f => soundFrame p f s1
    | none => s1
  else s1.modPort p PortUnit.countCheckFail

/-! ### Frame assembly (R2, R3) -/

/-- A frame being collected given up and counted as a framing error; the assembler goes to `next` (R3, R5). -/
def PortUnit.giveUp (u : PortUnit) (next : Asm) : PortUnit := ({ u with asm := next } : PortUnit).countFraming

/-- Whether the byte just appended breaks a header test (R3): a destination above 127, a source of 0 or above 120, a payload
length above 48. -/
def badHeader (buf : List Byte) : Bool :=
  match buf with
  | [d] => decide (127 < d.toNat)
  | [_, sr] => decide (sr.toNat = 0) || decide (120 < sr.toNat)
  | [_, _, _, _, n] => decide (48 < n.toNat)
  | _ => false

/-- The frame's length after its start mark once the fifth byte is appended (R2). -/
def trunkFrameSize : List Byte → Option Nat
  | _ :: _ :: _ :: _ :: n :: _ => some (5 + n.toNat + 2)
  | _ => none

/-- A decoded byte appended on a trunk port (R2, R3, R4). -/
def trunkByte (p : Port) (b : Byte) (s : State) : State :=
  let a := (s.port p).asm.push b
  if badHeader a.held then s.modPort p (fun u => u.giveUp .hunting)
  else if trunkFrameSize a.held = some a.held.length then trunkFrameDone p a.held a.crcReg s
  else s.modPort p (fun u => { u with asm := a })

/-- A character completed on a trunk port and taken by its assembler (R1, R2, R3). A receiver that waits for the line to
return to marking forms no character. The command stands for the whole character, its start bit included: one that finds the
receiver idle, with no change to spacing seen or after a noise start, is taken as well, and the port's level stays (DESIGN
CHOICE, log 36). -/
def trunkChar (p : Port) (ch : LineChar) (s : State) : State :=
  if (s.port p).receiver = .waitMarking then s
  else
    let s1 := s.modPort p (fun u => { u with receiver := receiverAfter ch })
    match (s.port p).asm.take ch with
    | .ignored => s1
    | .opened => s1.modPort p (fun u => { u with asm := Asm.fresh })
    | .reopened => s1.modPort p (fun u => u.giveUp Asm.fresh)
    | .escaped => s1.modPort p (fun u => { u with asm := u.asm.withEscape })
    | .bad => s1.modPort p (fun u => u.giveUp .hunting)
    | .byte b => trunkByte p b s1

/-- The level a line changes to. -/
def lineTo : LineChange → Level
  | .spacing => .spacing
  | .marking _ => .marking

/-- Whether a change is a line back at marking at the middle of the start bit (R1). -/
def noiseStart : LineChange → Bool
  | .spacing => false
  | .marking atMiddle => atMiddle

/-- The filtered receive line takes a level, which the character receiver follows (R1, R15). -/
def PortUnit.lineLevel (u : PortUnit) (l : LineChange) : PortUnit :=
  { u with level := lineTo l, receiver := u.receiver.follow u.level (lineTo l) (noiseStart l) }

end Sys2Proof.Machine
end

