-- ==== Sys2Proof/Machine/TrunkCommands.lean ====
section
/-! DEFINITION. The commands of the trunk ports (chapter 1). -/

namespace Sys2Proof.Machine

/-- What every meaning answers. -/
abbrev Result := Host.Outcome State Fault Refusal

/-- TRUNK_FRAME_COMPLETE (R4): the good character that completes a frame is taken, the check tested, and a sound frame
dispatched. The assembler decides what a character does (log 3). -/
def execTrunkFrameComplete (p : Port) (b : Byte) (s : State) : Result := .next (whenRunning s (trunkChar p (.good b)))

/-- TRUNK_FRAME_DISCARD (R3): the character at which a frame being collected is discarded and counted (log 3). -/
def execTrunkFrameDiscard (p : Port) (ch : LineChar) (s : State) : Result := .next (whenRunning s (trunkChar p ch))

/-- TRUNK_CHARACTER_RECEIVED (R2): a good character opens a frame, sets the escape flag or appends a byte (log 3). -/
def execTrunkCharacterReceived (p : Port) (b : Byte) (s : State) : Result :=
  .next (whenRunning s (trunkChar p (.good b)))

/-- TRUNK_PARTIAL_FRAME_TIMEOUT (R5): while the partial-frame timer runs, the frame is discarded and counted. -/
def execTrunkPartialFrameTimeout (p : Port) (s : State) : Result :=
  .next (whenRunning s (fun s => if (s.port p).asm.timed then s.modPort p (fun u => u.giveUp .hunting) else s))

/-- Whether the break timer of a port runs: the port is UP and its line is at spacing (R15). -/
def PortUnit.breakRuns (u : PortUnit) : Bool := u.up && u.level == .spacing

/-- BREAK_TIMER_EXPIRY (R15): while the break timer runs, the port goes DOWN. -/
def execBreakTimerExpiry (p : Port) (s : State) : Result :=
  .next (whenRunning s (fun s => if (s.port p).breakRuns then settle (setUp p false s) else s))

/-- SILENCE_TIMER_EXPIRY (R15): the silence timer runs while the port is UP, and the port goes DOWN. -/
def execSilenceTimerExpiry (p : Port) (s : State) : Result :=
  .next (whenRunning s (fun s => if (s.port p).up then settle (setUp p false s) else s))

/-- STRIP_HOLD_EXPIRY (R8): the former own node is cleared. -/
def execStripHoldExpiry (s : State) : Result :=
  .next (whenRunning s (fun s => { s with ti := { s.ti with former := none } }))

/-- TRUNK_TRANSMIT_COMPLETE (R14): the frame being sent leaves its FIFO or queue, and the arbiter chooses the next. -/
def execTrunkTransmitComplete (p : Port) (s : State) : Result :=
  .next (whenRunning s (fun s => s.modPort p PortUnit.sent))

/-- TRUNK_RECEIVE_LEVEL_CHANGE (R1, R15): the line takes a level; the receiver follows while the controller runs. A change to
marking says whether it is found at the middle of the start bit (log 33). -/
def execTrunkReceiveLevelChange (p : Port) (l : LineChange) (s : State) : Result :=
  .next (s.modPort p (fun u => if s.running then u.lineLevel l else { u with level := lineTo l }))

end Sys2Proof.Machine
end

