-- ==== Sys2Proof/Machine/TimeCommands.lean ====
section
/-! DEFINITION. The commands of the deadlines kept in uptime, and of uptime itself (R52, R71, R91, R185, R187). -/

namespace Sys2Proof.Machine

/-- VERIFY_WINDOW_EXPIRY (R52). -/
def execVerifyWindowExpiry (z : Nat) (s : State) : Result :=
  .next (whenRunning s (fun s => if s.windowDue z then settle (windowExpires z s) else s))

/-- AGE_STEP (R71). -/
def execAgeStep (z : Nat) (s : State) : Result :=
  .next (whenRunning s (fun s => if s.ageStepDue z then settle (ageStepFalls z s) else s))

/-- OFFER_TIMEOUT (R91). -/
def execOfferTimeout (c : Link) (s : State) : Result :=
  .next (whenRunning s (fun s => if s.offerDue c then settle (offerExpires c s) else s))

/-- RESYNC_TIMEOUT (R185). -/
def execResyncTimeout (s : State) : Result :=
  .next (whenRunning s (fun s => if s.resyncDue then settle (resyncExpires s) else s))

/-- UPTIME_TICK (R187). -/
def execUptimeTick (s : State) : Result := .next (whenRunning s tick)

end Sys2Proof.Machine
end

