-- ==== Sys2Proof/Machine/LinkCommands.lean ====
section
/-! DEFINITION. The commands of the crew link lines, receivers and transmitters (chapter 6). -/

namespace Sys2Proof.Machine

/-- PRESENCE_CHANGE (R113): the presence level takes a value. The presence timer's restart is timing (log 9). -/
def execPresenceChange (c : Link) (high : Bool) (s : State) : Result :=
  .next (s.modLink c (fun u => { u with presence := high }))

/-- LINK_ATTACH (R113, R114): presence has been high for 200 ms on a DETACHED link, whose RX stands at a level. -/
def execLinkAttach (a : Attach) (s : State) : Result :=
  .next (whenRunning s (fun s =>
    if (s.link a.link).state = .detached ∧ (s.link a.link).presence = true then settle (attachLink a.link a.rx s)
    else s))

/-- LINK_DETACH (R113, R115): presence has been low for 200 ms on an ATTACHED link. -/
def execLinkDetach (c : Link) (s : State) : Result :=
  .next (whenRunning s (fun s =>
    if (s.link c).state = .attached ∧ (s.link c).presence = false then leaveAttached c .detached s else s))

/-- CREW_CHARACTER_RECEIVED (R111, R117): a good character opens a frame, sets the escape flag or stores a byte (log 3).
The operand says whether RX has returned to marking before it (log 33). -/
def execCrewCharacterReceived (c : Link) (b : CrewByte) (s : State) : Result :=
  .next (whenRunning s (fun s => crewChar c (.good b.byte) (rxBack c b.back s)))

/-- CREW_FRAME_COMPLETE (R119): the good character that completes a request frame; a sound one waits and is handed (log
3). -/
def execCrewFrameComplete (c : Link) (b : Byte) (s : State) : Result := .next (whenRunning s (crewChar c (.good b)))

/-- CREW_FRAME_DISCARD (R118): the character at which the frame in progress is discarded and counted (log 3). -/
def execCrewFrameDiscard (c : Link) (ch : LineChar) (s : State) : Result := .next (whenRunning s (crewChar c ch))

/-- RECEIVE_OVERRUN (R120): a byte that would be stored arrives with the receive FIFO full (log 3). -/
def execReceiveOverrun (c : Link) (b : Byte) (s : State) : Result := .next (whenRunning s (crewChar c (.good b)))

/-- CREW_PARTIAL_FRAME_TIMEOUT (R121): while the partial-frame timer runs, the frame is discarded and counted. -/
def execCrewPartialFrameTimeout (c : Link) (s : State) : Result :=
  .next (whenRunning s (fun s =>
    if s.attached c ∧ (s.link c).asm.timed then s.modLink c (fun u => u.giveUp .hunting) else s))

/-- TERMINAL_READY_CHANGE (R127): the terminal-ready level takes a value, which holds or releases the transmitter. -/
def execTerminalReadyChange (c : Link) (high : Bool) (s : State) : Result :=
  .next (s.modLink c (fun u => { u with termReady := high }))

/-- CREW_CHARACTER_TAKEN (R126). -/
def execCrewCharacterTaken (c : Link) (s : State) : Result := .next (whenRunning s (takeChar c))

/-- CREW_FRAME_WRITTEN (R129): the last character of the frame being written enters the transmit FIFO. -/
def execCrewFrameWritten (c : Link) (s : State) : Result := .next (whenRunning s (frameWritten c))

end Sys2Proof.Machine
end

