-- ==== Sys2Proof/Machine/CrewCommands.lean ====
section
/-! DEFINITION. The crew requests as commands (R92 to R100, R139 to R142, R190): each is the hand-off of one request by its
link unit. -/

namespace Sys2Proof.Machine

/-- A request handed by a link unit (R123): while the controller runs, the link is ATTACHED and its reply queue has room,
its block takes it; the event ends with the arbiters' tests (log 5). -/
def crewRow (c : Link) (kind : Byte) (r : Request) (s : State) : State :=
  whenRunning s (fun s => if s.canHand c then settle (takeRequest c kind r s) else s)

/-- ACCEPT (R93). -/
def execAccept (c : Link) (z : Word16) (s : State) : Result := .next (crewRow c rAccept (.accept z.toNat) s)

/-- DECLINE (R95). -/
def execDecline (c : Link) (z : Word16) (s : State) : Result := .next (crewRow c rDecline (.decline z.toNat) s)

/-- RELEASE (R96). -/
def execRelease (c : Link) (z : Word16) (s : State) : Result := .next (crewRow c rRelease (.release z.toNat) s)

/-- RELEASE_TOP (R97). -/
def execReleaseTop (c : Link) (s : State) : Result := .next (crewRow c rReleaseTop .releaseTop s)

/-- POLL (R98). -/
def execPoll (c : Link) (s : State) : Result := .next (crewRow c rPoll .poll s)

/-- LIST (R99). -/
def execList (c : Link) (s : State) : Result := .next (crewRow c rList .list s)

/-- SECTORS (R100). -/
def execSectors (c : Link) (w : Word16) (s : State) : Result := .next (crewRow c rSectors (.sectors w) s)

/-- UNKNOWN_REQUEST (R190): the kind byte and payload decide what the request is; one that is unknown or malformed is
answered UNKNOWN. -/
def execUnknownRequest (c : Link) (kind : Byte) (payload : List Byte) (s : State) : Result :=
  .next (crewRow c kind (parseRequest kind payload) s)

/-- SHEET_REQ by sheet id (R139); an id of 512 or more is malformed (R190). -/
def execSheetReqById (c : Link) (i : Word16) (s : State) : Result :=
  .next (crewRow c rSheetReq (sheetIdRequest i.toNat .sheetById) s)

/-- SHEET_REQ by zone (R140). -/
def execSheetReqByZone (c : Link) (z : Word16) (s : State) : Result :=
  .next (crewRow c rSheetReq (.sheetByZone z.toNat) s)

/-- SHEET_STOP naming a sheet (R141); an id of 512 or more is malformed (R190). -/
def execSheetStopNamed (c : Link) (i : Word16) (s : State) : Result :=
  .next (crewRow c rSheetStop (sheetIdRequest i.toNat .stopNamed) s)

/-- SHEET_STOP of all sheets (R142). -/
def execSheetStopAll (c : Link) (s : State) : Result := .next (crewRow c rSheetStop .stopAll s)

end Sys2Proof.Machine
end

