-- ==== Sys2Proof/Machine/PlanCommands.lean ====
section
/-! DEFINITION. The completions of the plan reader as commands (R146, R147, R154, R155). -/

namespace Sys2Proof.Machine

/-- Whether the reader is BUSY with a fill read. -/
def State.filling (s : State) : Bool :=
  match s.ss.reader with
  | some (.fill ..) => true
  | _ => false

/-- FILL_READ_COMPLETE (R146). -/
def execFillReadComplete (s : State) : Result :=
  .next (whenRunning s (fun s => if s.filling then settle (fillComplete s) else s))

/-- FILL_READ_FAIL (R147). -/
def execFillReadFail (s : State) : Result :=
  .next (whenRunning s (fun s => if s.filling then settle (fillFail s) else s))

/-- PROGRAM_COMPLETE (R154), OK or MEMORY_FAULT. -/
def execProgramComplete (ok : Bool) (s : State) : Result := .next (whenRunning s (programDone ok))

/-- PLAN_READ_COMPLETE (R155), OK or MEMORY_FAULT. -/
def execPlanReadComplete (ok : Bool) (s : State) : Result := .next (whenRunning s (planReadDone ok))

end Sys2Proof.Machine
end

