-- ==== Sys2Proof/Machine/MgmtCommands.lean ====
section
/-! DEFINITION. The management requests as commands (R157 to R178): each is the hand-off of one request to the Management
Responder. -/

namespace Sys2Proof.Machine

/-- UNKNOWN_OP (R158 test 4): the operation byte decides; one not of the manual is answered UNKNOWN_OP. -/
def execUnknownOp (src : Byte) (id : Word16) (op : Byte) (args : List Byte) (s : State) : Result :=
  .next (mgmtRow src id op args s)

/-- TABLE_READ (R163). -/
def execTableRead (src : Byte) (id : Word16) (args : List Byte) (s : State) : Result :=
  .next (mgmtRow src id opTableRead args s)

/-- TABLE_WRITE to the point map (R26). -/
def execTableWritePointMap (src : Byte) (id : Word16) (args : List Byte) (s : State) : Result :=
  .next (mgmtRow src id opTableWrite (tPointMap :: args) s)

/-- TABLE_WRITE to the node fallback table (R28). -/
def execTableWriteNodeFallback (src : Byte) (id : Word16) (args : List Byte) (s : State) : Result :=
  .next (mgmtRow src id opTableWrite (tNodeFallback :: args) s)

/-- TABLE_WRITE to the zone definitions (R164). -/
def execTableWriteZoneDefinition (src : Byte) (id : Word16) (args : List Byte) (s : State) : Result :=
  .next (mgmtRow src id opTableWrite (tZoneDefinition :: args) s)

/-- TABLE_WRITE to the hazard bonus table (R165). -/
def execTableWriteHazardBonus (src : Byte) (id : Word16) (args : List Byte) (s : State) : Result :=
  .next (mgmtRow src id opTableWrite (tHazardBonus :: args) s)

/-- TABLE_WRITE to the sheet directory (R134). -/
def execTableWriteSheetDirectory (src : Byte) (id : Word16) (args : List Byte) (s : State) : Result :=
  .next (mgmtRow src id opTableWrite (tSheetDirectory :: args) s)

/-- TABLE_WRITE to a crew profile (R167). -/
def execTableWriteCrewProfile (src : Byte) (id : Word16) (args : List Byte) (s : State) : Result :=
  .next (mgmtRow src id opTableWrite (tCrewProfile :: args) s)

/-- TABLE_WRITE to the configuration table (R169). -/
def execTableWriteConfiguration (src : Byte) (id : Word16) (args : List Byte) (s : State) : Result :=
  .next (mgmtRow src id opTableWrite (tConfiguration :: args) s)

/-- MAP_INSERT (R24). -/
def execMapInsert (src : Byte) (id : Word16) (args : List Byte) (s : State) : Result :=
  .next (mgmtRow src id opMapInsert args s)

/-- MAP_DELETE (R25). -/
def execMapDelete (src : Byte) (id : Word16) (args : List Byte) (s : State) : Result :=
  .next (mgmtRow src id opMapDelete args s)

/-- MAP_CLEAR (R27). -/
def execMapClear (src : Byte) (id : Word16) (args : List Byte) (s : State) : Result :=
  .next (mgmtRow src id opMapClear args s)

/-- PLAN_STAGE (R152). -/
def execPlanStage (src : Byte) (id : Word16) (args : List Byte) (s : State) : Result :=
  .next (mgmtRow src id opPlanStage args s)

/-- PLAN_COMMIT (R153). -/
def execPlanCommit (src : Byte) (id : Word16) (args : List Byte) (s : State) : Result :=
  .next (mgmtRow src id opPlanCommit args s)

/-- PLAN_READ (R155). -/
def execPlanRead (src : Byte) (id : Word16) (args : List Byte) (s : State) : Result :=
  .next (mgmtRow src id opPlanRead args s)

/-- ZONE_READ (R176). -/
def execZoneRead (src : Byte) (id : Word16) (args : List Byte) (s : State) : Result :=
  .next (mgmtRow src id opZoneRead args s)

/-- STATUS_READ (R177). -/
def execStatusRead (src : Byte) (id : Word16) (args : List Byte) (s : State) : Result :=
  .next (mgmtRow src id opStatusRead args s)

/-- PICTURE_CLEAR (R172). -/
def execPictureClear (src : Byte) (id : Word16) (args : List Byte) (s : State) : Result :=
  .next (mgmtRow src id opPictureClear args s)

/-- SET_ROTATION (R173). -/
def execSetRotation (src : Byte) (id : Word16) (args : List Byte) (s : State) : Result :=
  .next (mgmtRow src id opSetRotation args s)

/-- LINK_DISABLE (R116, R174). -/
def execLinkDisable (src : Byte) (id : Word16) (args : List Byte) (s : State) : Result :=
  .next (mgmtRow src id opLinkDisable args s)

/-- LINK_ENABLE (R116, R174). -/
def execLinkEnable (src : Byte) (id : Word16) (args : List Byte) (s : State) : Result :=
  .next (mgmtRow src id opLinkEnable args s)

/-- CONFIG_SAVE (R175). -/
def execConfigSave (src : Byte) (id : Word16) (args : List Byte) (s : State) : Result :=
  .next (mgmtRow src id opConfigSave args s)

end Sys2Proof.Machine
end

