-- ==== Sys2Proof/Machine/PowerCommands.lean ====
section
/-! DEFINITION. The commands of power and start (R17, R179 to R183). -/

namespace Sys2Proof.Machine

/-- START (R179): power is applied or the reset input is asserted, whatever the controller was doing. -/
def execStart (s : State) : Result := .next (beginStart s)

/-- START_COMPLETE (R183): a start in progress completes. `readOk` says whether the configuration page read of a cold start
succeeded (R182). -/
def execStartComplete (readOk : Bool) (s : State) : Result := .next (if s.starting then finishStart readOk s else s)

/-- HOLDOVER_LOW (R180): with main power absent the monitor destroys the marker word; with it present it takes no action. -/
def execHoldoverLow (s : State) : Result :=
  .next (if s.sc.mainPower then s else { s with sc := { s.sc with markIntact := false } })

/-- MAIN_POWER_LOSS (R17, R180): main power present is lost. -/
def execMainPowerLoss (s : State) : Result := .next (if s.sc.mainPower then losePower s else s)

end Sys2Proof.Machine
end

