-- ==== Sys2Proof/Machine/Dispatch.lean ====
section
/-! DEFINITION. Each command's meaning: one arm for each row of spec/opcode_table.json. -/

namespace Sys2Proof.Machine

def exec (i : Instr) (s : State) : Host.Outcome State Fault Refusal :=
  match i with
  | .trunkFrameComplete p b => Sys2Proof.Machine.execTrunkFrameComplete p b s
  | .trunkFrameDiscard p ch => Sys2Proof.Machine.execTrunkFrameDiscard p ch s
  | .trunkPartialFrameTimeout p => Sys2Proof.Machine.execTrunkPartialFrameTimeout p s
  | .breakTimerExpiry p => Sys2Proof.Machine.execBreakTimerExpiry p s
  | .silenceTimerExpiry p => Sys2Proof.Machine.execSilenceTimerExpiry p s
  | .stripHoldExpiry => Sys2Proof.Machine.execStripHoldExpiry s
  | .trunkTransmitComplete p => Sys2Proof.Machine.execTrunkTransmitComplete p s
  | .verifyWindowExpiry zone => Sys2Proof.Machine.execVerifyWindowExpiry zone s
  | .ageStep zone => Sys2Proof.Machine.execAgeStep zone s
  | .offerTimeout c => Sys2Proof.Machine.execOfferTimeout c s
  | .presenceChange c high => Sys2Proof.Machine.execPresenceChange c high s
  | .linkAttach a => Sys2Proof.Machine.execLinkAttach a s
  | .linkDetach c => Sys2Proof.Machine.execLinkDetach c s
  | .crewFrameComplete c b => Sys2Proof.Machine.execCrewFrameComplete c b s
  | .crewFrameDiscard c ch => Sys2Proof.Machine.execCrewFrameDiscard c ch s
  | .receiveOverrun c b => Sys2Proof.Machine.execReceiveOverrun c b s
  | .crewPartialFrameTimeout c => Sys2Proof.Machine.execCrewPartialFrameTimeout c s
  | .terminalReadyChange c high => Sys2Proof.Machine.execTerminalReadyChange c high s
  | .crewFrameWritten c => Sys2Proof.Machine.execCrewFrameWritten c s
  | .accept c zone => Sys2Proof.Machine.execAccept c zone s
  | .decline c zone => Sys2Proof.Machine.execDecline c zone s
  | .release c zone => Sys2Proof.Machine.execRelease c zone s
  | .releaseTop c => Sys2Proof.Machine.execReleaseTop c s
  | .poll c => Sys2Proof.Machine.execPoll c s
  | .list c => Sys2Proof.Machine.execList c s
  | .sectors c w => Sys2Proof.Machine.execSectors c w s
  | .unknownRequest c kind payload => Sys2Proof.Machine.execUnknownRequest c kind payload s
  | .sheetReqById c sheet => Sys2Proof.Machine.execSheetReqById c sheet s
  | .sheetReqByZone c zone => Sys2Proof.Machine.execSheetReqByZone c zone s
  | .sheetStopNamed c sheet => Sys2Proof.Machine.execSheetStopNamed c sheet s
  | .sheetStopAll c => Sys2Proof.Machine.execSheetStopAll c s
  | .fillReadComplete => Sys2Proof.Machine.execFillReadComplete s
  | .fillReadFail => Sys2Proof.Machine.execFillReadFail s
  | .programComplete ok => Sys2Proof.Machine.execProgramComplete ok s
  | .planReadComplete ok => Sys2Proof.Machine.execPlanReadComplete ok s
  | .unknownOp src id op args => Sys2Proof.Machine.execUnknownOp src id op args s
  | .tableRead src id args => Sys2Proof.Machine.execTableRead src id args s
  | .tableWritePointMap src id args => Sys2Proof.Machine.execTableWritePointMap src id args s
  | .tableWriteNodeFallback src id args => Sys2Proof.Machine.execTableWriteNodeFallback src id args s
  | .tableWriteZoneDefinition src id args => Sys2Proof.Machine.execTableWriteZoneDefinition src id args s
  | .tableWriteHazardBonus src id args => Sys2Proof.Machine.execTableWriteHazardBonus src id args s
  | .tableWriteSheetDirectory src id args => Sys2Proof.Machine.execTableWriteSheetDirectory src id args s
  | .tableWriteCrewProfile src id args => Sys2Proof.Machine.execTableWriteCrewProfile src id args s
  | .tableWriteConfiguration src id args => Sys2Proof.Machine.execTableWriteConfiguration src id args s
  | .mapInsert src id args => Sys2Proof.Machine.execMapInsert src id args s
  | .mapDelete src id args => Sys2Proof.Machine.execMapDelete src id args s
  | .mapClear src id args => Sys2Proof.Machine.execMapClear src id args s
  | .planStage src id args => Sys2Proof.Machine.execPlanStage src id args s
  | .planCommit src id args => Sys2Proof.Machine.execPlanCommit src id args s
  | .planRead src id args => Sys2Proof.Machine.execPlanRead src id args s
  | .zoneRead src id args => Sys2Proof.Machine.execZoneRead src id args s
  | .statusRead src id args => Sys2Proof.Machine.execStatusRead src id args s
  | .pictureClear src id args => Sys2Proof.Machine.execPictureClear src id args s
  | .setRotation src id args => Sys2Proof.Machine.execSetRotation src id args s
  | .linkDisable src id args => Sys2Proof.Machine.execLinkDisable src id args s
  | .linkEnable src id args => Sys2Proof.Machine.execLinkEnable src id args s
  | .configSave src id args => Sys2Proof.Machine.execConfigSave src id args s
  | .start => Sys2Proof.Machine.execStart s
  | .startComplete pageReadOk => Sys2Proof.Machine.execStartComplete pageReadOk s
  | .holdoverLow => Sys2Proof.Machine.execHoldoverLow s
  | .resyncTimeout => Sys2Proof.Machine.execResyncTimeout s
  | .uptimeTick => Sys2Proof.Machine.execUptimeTick s
  | .trunkCharacterReceived p b => Sys2Proof.Machine.execTrunkCharacterReceived p b s
  | .trunkReceiveLevelChange p level => Sys2Proof.Machine.execTrunkReceiveLevelChange p level s
  | .crewCharacterReceived c b => Sys2Proof.Machine.execCrewCharacterReceived c b s
  | .crewCharacterTaken c => Sys2Proof.Machine.execCrewCharacterTaken c s
  | .mainPowerLoss => Sys2Proof.Machine.execMainPowerLoss s

end Sys2Proof.Machine
end

