-- ==== Sys2Proof/Safety.lean ====
section
/-! DEFINITION. The terms the claims use: what the arbiters may add at the end of an event and what they choose, when a
request is served, when a frame arrives, and the invariants a safe run keeps. -/

namespace Sys2Proof.Machine

/-! ### What ends an event -/

/-- `t` is `s` but for what the arbiters may begin at the end of an event: the notice in flight (R107), the frame being
written and the transmit FIFO (R128, R129), the plan reader, its grants and the span buffers (R144 to R148). The sheet
queues, the sheet in transfer and its drain span index stay. -/
def ArbitersOnly (s t : State) : Prop :=
  t = { s with nr := t.nr, cl := t.cl, ss := t.ss } ∧
  (∀ c, t.crew c = { s.crew c with flight := (t.crew c).flight }) ∧
  (∀ c, t.link c = { s.link c with writing := (t.link c).writing, txFifo := (t.link c).txFifo }) ∧
  t.ss = { s.ss with slots := t.ss.slots, reader := t.ss.reader, waiting := t.ss.waiting,
                     lastGranted := t.ss.lastGranted } ∧
  (∀ c, (t.slot c).queue = (s.slot c).queue) ∧
  (∀ c, (t.slot c).transfer.map Transfer.sheet = (s.slot c).transfer.map Transfer.sheet) ∧
  (∀ c, (t.slot c).transfer.map Transfer.drainSpan = (s.slot c).transfer.map Transfer.drainSpan)

/-! ### What a command needs -/

/-- A management request of a source is judged by its operation: the controller runs, the source is admitted (R157) and no
request is in progress (R159). -/
def Serves (s : State) (src : Byte) : Prop := s.running = true ∧ s.admitted src = true ∧ s.mr = none

/-- A crew request can be handed on a link: the controller runs, the link is ATTACHED and its reply queue holds fewer than
4 replies (R123). -/
def Hands (s : State) (c : Link) : Prop :=
  s.running = true ∧ (s.link c).state = .attached ∧ (s.link c).replies.length < 4

/-- The good character `b` completes the sound frame `f` on a port (R2, R4): the assembler holds all of the frame but its
last byte, and the check closes with it. The receiver may be idle (log 36). -/
def ArrivesSound (s : State) (p : Port) (b : Byte) (f : Frame) : Prop :=
  s.running = true ∧ (s.port p).receiver ≠ .waitMarking ∧ f.payload.length ≤ 48 ∧
  ∃ buf esc r d, (s.port p).asm = .collecting buf esc r ∧ (s.port p).asm.take (.good b) = .byte d ∧
    buf ++ [d] = f.bytes ∧ crcByte r d = 0

/-- The sound frame `f` arrives on an UP port and passes the tests that stand before handing: its source is neither the own
node nor the former own node (R7, R8), a panel-only kind comes from the panel node (R10), and it is no copy (R11). -/
def ArrivesNew (s : State) (p : Port) (b : Byte) (f : Frame) : Prop :=
  ArrivesSound s p b f ∧ (s.port p).up = true ∧ f.src.toNat ≠ s.config.own ∧ s.ti.former ≠ some f.src.toNat ∧
  (panelOnlyKind f.kind = true → f.src.toNat = s.config.panel) ∧ Tab.get none s.ti.seqTable f.src.toNat ≠ some f.seq

/-- A port that has taken a sound frame while UP: the receiver idle, the assembler HUNTING, the receive stage EMPTY (R1, R4,
R6). -/
def PortUnit.received (u : PortUnit) : PortUnit := { u with receiver := .idle, asm := .hunting, stage := none }

/-- A port's repeat FIFO holds the frame at its end, or, when it held 4, the drop is counted (R9); of the rest only the
transmitter's choice (R14) may have moved. -/
def RepeatPlaced (u v : PortUnit) (f : Frame) : Prop :=
  v = { u with repeatOut := v.repeatOut, tx := v.tx, counters := v.counters } ∧
  v.repeatOut = (if u.repeatOut.length < 4 then u.repeatOut ++ [f] else u.repeatOut) ∧
  v.counters = (if u.repeatOut.length < 4 then u.counters
    else { u.counters with repeatDrops := bump16 u.counters.repeatDrops })

/-- `u` is `s` once the Trunk Interface has passed the frame `f` on for handing (R6, R7, R9, R11): the arrival port has taken
it, it is repeated unless it is addressed to the own node, and its source's entry takes its sequence number. -/
def PassedOn (s u : State) (p : Port) (f : Frame) : Prop :=
  u = { s with ti := { s.ti with ports := u.ti.ports, seqTable := u.ti.seqTable } } ∧
  (∀ n, Tab.get none u.ti.seqTable n = if n = f.src.toNat then some f.seq else Tab.get none s.ti.seqTable n) ∧
  u.port p = (s.port p).received ∧
  (f.dst.toNat = s.config.own → u.port (otherPort p) = s.port (otherPort p)) ∧
  (f.dst.toNat ≠ s.config.own → RepeatPlaced (s.port (otherPort p)) (u.port (otherPort p)) f)

/-- The request that a management row carries, as R157 hands it to the Management Responder: source node, request id,
operation byte and argument bytes (10.3). -/
def requestOf : Instr → Option (Byte × Word16 × Byte × List Byte)
  | .unknownOp src id op args => some (src, id, op, args)
  | .tableRead src id args => some (src, id, 0x01#8, args)
  | .tableWritePointMap src id args => some (src, id, 0x02#8, 0x01#8 :: args)
  | .tableWriteNodeFallback src id args => some (src, id, 0x02#8, 0x02#8 :: args)
  | .tableWriteZoneDefinition src id args => some (src, id, 0x02#8, 0x03#8 :: args)
  | .tableWriteHazardBonus src id args => some (src, id, 0x02#8, 0x04#8 :: args)
  | .tableWriteSheetDirectory src id args => some (src, id, 0x02#8, 0x05#8 :: args)
  | .tableWriteCrewProfile src id args => some (src, id, 0x02#8, 0x06#8 :: args)
  | .tableWriteConfiguration src id args => some (src, id, 0x02#8, 0x07#8 :: args)
  | .mapInsert src id args => some (src, id, 0x03#8, args)
  | .mapDelete src id args => some (src, id, 0x04#8, args)
  | .mapClear src id args => some (src, id, 0x05#8, args)
  | .planStage src id args => some (src, id, 0x06#8, args)
  | .planCommit src id args => some (src, id, 0x07#8, args)
  | .planRead src id args => some (src, id, 0x08#8, args)
  | .zoneRead src id args => some (src, id, 0x09#8, args)
  | .statusRead src id args => some (src, id, 0x0A#8, args)
  | .pictureClear src id args => some (src, id, 0x0B#8, args)
  | .setRotation src id args => some (src, id, 0x0C#8, args)
  | .linkDisable src id args => some (src, id, 0x0D#8, args)
  | .linkEnable src id args => some (src, id, 0x0E#8, args)
  | .configSave src id args => some (src, id, 0x0F#8, args)
  | _ => none

/-! ### What an event does to the crews and to the sheet queues -/

/-- An event has left a zone with another condition or alarm count (R38). -/
def ZoneChanged (s t : State) (z : Nat) : Prop :=
  (s.zone z).cond ≠ (t.zone z).cond ∨ (s.zone z).alarms ≠ (t.zone z).alarms

/-- What a change of zone z does to one attached crew, `k` before and `k'` after. A zone that is active after it leaves the
set-aside set, becomes pending when its sector is live and the crew does not attend it, and owes an UPDATE to a crew that
does, unless a CLEAR or ISOLATE is owed (R81, R82, R101). A zone that is not leaves every collection and the offer, and
owes a CLEAR or ISOLATE to a crew that attended it or had its offer OUT (R83). No other zone moves between collections. -/
def CrewTold (s t : State) (z : Nat) (k k' : Crew) : Prop :=
  ((t.zone z).cond.active = true → z ∉ k'.aside ∧ k'.attended = k.attended ∧
    (z ∈ k'.pending ↔ z ∈ k.pending ∨ inSectors k.live (s.zoneDef z).sector = true ∧ z ∉ k.attended) ∧
    (z ∈ k.attended → k'.mark z =
      if k.mark z = some .clear ∨ k.mark z = some .isolate then k.mark z else some .update)) ∧
  ((t.zone z).cond.active = false → z ∉ k'.pending ∧ z ∉ k'.attended ∧ z ∉ k'.aside ∧ k'.offer.names z = false ∧
    (z ∈ k.attended ∨ k.offer.outNames z = true →
      k'.mark z = some (if (t.zone z).cond = .isolated then .isolate else .clear))) ∧
  (∀ y, y ≠ z → (y ∈ k'.pending ↔ y ∈ k.pending) ∧ (y ∈ k'.attended ↔ y ∈ k.attended) ∧
    (y ∈ k'.aside ↔ y ∈ k.aside)) ∧
  k'.live = k.live ∧ k'.rc = k.rc ∧ k'.systemDue = k.systemDue

/-- A change of zone z told to every attached crew; a crew that is not attached is not touched, nor is any crew when the
event changed neither condition nor alarm count (R38, R101). -/
def CrewsTold (s t : State) (z : Nat) : Prop :=
  (ZoneChanged s t z → ∀ c, s.attached c = true → CrewTold s t z (s.crew c) (t.crew c)) ∧
  (∀ c, s.attached c = false ∨ ¬ ZoneChanged s t z → t.crew c = s.crew c)

/-- What one zone's event leaves in the picture and in the Urgency Unit. Of the other zones only the urgency may move. The
zone, if it changed, has its urgency recomputed or removed (R70); its first age step is one step after it enters ALARM, and
goes with ALARM (R71). Its floor's count follows it into and out of ALARM (R59), and a count that leaves or reaches 0
recomputes the active zones one floor up (R72). -/
def PictureFollows (s t : State) (z : Nat) : Prop :=
  t = { s with zp := t.zp, ageSteps := t.ageSteps, nr := t.nr } ∧
  (∀ y, y ≠ z → t.zone y = { s.zone y with urgency := (t.zone y).urgency }) ∧
  (ZoneChanged s t z → (t.zone z).urgency = if (t.zone z).cond.active then some (t.urgencyValue z) else none) ∧
  ∀ was is : Prop, (was ↔ (s.zone z).cond = .alarm) → (is ↔ (t.zone z).cond = .alarm) →
  ∀ n, n = s.floorCount (s.zoneDef z).floor →
    (¬ was → is → s.config.escalation ≠ 0 → t.ageStep z = some (s.uptime + s.config.escalation)) ∧
    (was → is → t.ageStep z = s.ageStep z) ∧ (was → ¬ is → t.ageStep z = none) ∧
    (¬ was → is → t.floorCount (s.zoneDef z).floor = n + 1) ∧
    (was → ¬ is → t.floorCount (s.zoneDef z).floor = n - 1) ∧
    ((was ↔ is) → t.zp.floors = s.zp.floors) ∧
    (¬ was ∧ is ∧ n = 0 ∨ was ∧ ¬ is ∧ n = 1 → ∀ y, y ≠ z → s.zoneActive y = true →
      (s.zoneDef y).floor = (s.zoneDef z).floor + 1 → (t.zone y).urgency = some (t.urgencyValue y))

/-- Tests 2 to 5 of R139 for sheet j and crew c: `ok` says whether it was queued, started or absorbed, and `t` is the state
after. A sheet that starts has the transfer record of R137. -/
def SheetJudged (c : Link) (j : Nat) (s t : State) (ok : Bool) : Prop :=
  (s.sheetAvailable j = false → ok = false ∧ t = s) ∧
  (s.sheetAvailable j = true → (s.slot c).holds j = true → ok = true ∧ t = s) ∧
  (s.sheetAvailable j = true → (s.slot c).holds j = false → 4 ≤ (s.slot c).queue.length → ok = false ∧ t = s) ∧
  (s.sheetAvailable j = true → (s.slot c).holds j = false → (s.slot c).queue.length < 4 → ok = true ∧
    ((s.slot c).transfer ≠ none → t = s.setSlot c { s.slot c with queue := (s.slot c).queue ++ [j] }) ∧
    ((s.slot c).transfer = none → (s.slot c).queue = [] → t = s.setSlot c { s.slot c with
      transfer := some { sheet := j, first := (s.sheet j).first, count := (s.sheet j).count,
                         lastLen := (s.sheet j).lastLen, nextPage := (s.sheet j).first, remaining := (s.sheet j).count,
                         drainSpan := 0, faultDue := none } }))

/-- A sheet field of a zone definition judged (R140): a field of none is passed over; `n` counts a sheet queued, started or
absorbed. -/
def FieldJudged (c : Link) (field : Option Nat) (s t : State) (n : Nat) : Prop :=
  (field = none → n = 0 ∧ t = s) ∧ (∀ j, field = some j → ∃ ok, SheetJudged c j s t ok ∧ n = ok.toNat)

/-- What a completed start leaves, whatever its kind (R183): the relay OPEN and every block at its start values, the links
DETACHED with TX at marking and controller-ready low (R112, R116), the ports DOWN with the first RESYNC_CALL in their queues, the first resync running (R184). That an EMPTY buffer
of `SheetSlot.empty` holds nothing more is the model's (log 34). -/
def Started (u : State) : Prop :=
  u.running = true ∧
  (∀ z, u.zone z = ZoneLive.start ∧ u.ageStep z = none) ∧ (∀ f : Int, u.floorCount f = 0) ∧
  (∀ c, u.crew c = Crew.empty ∧ (u.link c).state = .detached ∧ u.slot c = SheetSlot.empty ∧ (u.link c).rxErrors = 0 ∧
    (u.link c).tx = .marking ∧ (u.link c).ctrlReady = .low) ∧
  (∀ p, (u.port p).up = false ∧ (u.port p).repeatOut = [] ∧ (u.port p).counters = PortCounters.zero ∧
    ∃ f : Frame, f.kind = 0x14#8 ∧ f.dst = 0 ∧ f.seq = 0 ∧ (u.port p).ownQueue = [f]) ∧
  (∀ n, Tab.get none u.ti.seqTable n = none) ∧ u.ti.former = none ∧ u.ti.ownSeq = 1 ∧
  u.tb = { uptime := 0, offset := 0, known := false } ∧ u.mr = none ∧ u.orphans = 0 ∧
  u.ss.reader = none ∧ u.ss.waiting = none ∧ u.ss.planFaults = 0 ∧
  (∀ o, Tab.get 0xFF#8 u.ss.staging o = 0xFF#8) ∧
  u.sc.status = .resyncing ∧ u.sc.expiry = some u.config.resyncTimeout ∧ u.sc.resyncTimeouts = 0

/-- The working state of every block at its start value, with everything the links, the ports and the streamer held lost
(R17, R61, R77, R112, R179), and both outputs of every link at high impedance (R116). What an EMPTY buffer of `SheetSlot.empty` holds is the model's (log 34). -/
def WorkingLost (t : State) : Prop :=
  (∀ z, t.zone z = ZoneLive.start ∧ t.ageStep z = none) ∧ (∀ f : Int, t.floorCount f = 0) ∧
  (∀ c, t.crew c = Crew.empty ∧ t.slot c = SheetSlot.empty ∧ (t.link c).asm = .hunting ∧ (t.link c).waiting = [] ∧
    (t.link c).replies = [] ∧ (t.link c).writing = none ∧ (t.link c).txFifo = [] ∧ (t.link c).rxErrors = 0 ∧
    (t.link c).tx = .highZ ∧ (t.link c).ctrlReady = .highZ) ∧
  (∀ p, (t.port p).up = false ∧ (t.port p).asm = .hunting ∧ (t.port p).repeatOut = [] ∧ (t.port p).ownQueue = [] ∧
    (t.port p).tx = none ∧ (t.port p).counters = PortCounters.zero) ∧
  (∀ n, Tab.get none t.ti.seqTable n = none) ∧ t.ti.former = none ∧
  t.tb = { uptime := 0, offset := 0, known := false } ∧ t.mr = none ∧ t.orphans = 0 ∧
  t.ss.reader = none ∧ t.ss.waiting = none ∧ t.ss.planFaults = 0 ∧ t.sc.expiry = none

/-- A plan byte that no program in flight can have left half written: cutting the program leaves every other byte (R132,
R159). -/
def OutsideProgram (s : State) (a : Nat) : Prop :=
  ∀ pg bytes, s.ss.reader = some (.program pg bytes) → ¬ (pg * 256 ≤ a ∧ a < pg * 256 + 256)

/-- The commands that act while the bypass relay is CLOSED (log 1): those of power and start, and the pin levels. -/
def ActsWhileClosed (i : Instr) : Prop :=
  i = .start ∨ (∃ ok, i = .startComplete ok) ∨ i = .holdoverLow ∨ i = .mainPowerLoss ∨
  (∃ c high, i = .presenceChange c high) ∨ (∃ c high, i = .terminalReadyChange c high) ∨
  (∃ p l, i = .trunkReceiveLevelChange p l)

/-- A good character other than a start mark and an escape byte stands for the decoded byte `d`: itself, or, with the escape
flag set, the byte with 20h exclusive-ored in, which is then 7Eh or 7Dh (R2, R3; R117, R118). -/
def Decodes (esc : Bool) (b d : Byte) : Prop :=
  b ≠ 0x7E#8 ∧ b ≠ 0x7D#8 ∧
    ((esc = false ∧ d = b) ∨ (esc = true ∧ d = b ^^^ 0x20#8 ∧ (d = 0x7E#8 ∨ d = 0x7D#8)))

/-- The decoded byte `d` after the bytes `buf` breaks a header test (R3): the destination above 127, the source 0 or above
120, the payload length above 48. -/
def HeaderBroken (buf : List Byte) (d : Byte) : Prop :=
  (buf.length = 0 ∧ 127 < d.toNat) ∨ (buf.length = 1 ∧ (d.toNat = 0 ∨ 120 < d.toNat)) ∨ (buf.length = 4 ∧ 48 < d.toNat)

/-- Some bytes of a trunk frame are all of it: 5 header bytes, the payload the fifth names, and 2 check bytes (R2). -/
def TrunkWhole (bytes : List Byte) : Prop := ∃ n, bytes[4]? = some n ∧ bytes.length = 5 + n.toNat + 2

/-- A port with one more framing error counted (R18). -/
def PortUnit.withFramingError (u : PortUnit) : PortUnit :=
  { u with counters := { u.counters with framingErrors := bump16 u.counters.framingErrors } }

/-- The character `b` completes a crew request frame on a link (R117, R119): the assembler holds all but the last byte,
the receiver does not wait for marking (R111), that byte finds a free place, and with it the frame has its full size. The receiver may be idle (log 36). -/
def CrewCompletes (s : State) (c : Link) (b : Byte) (frame : List Byte) (reg : Word16) : Prop :=
  s.running = true ∧ (s.link c).state = .attached ∧ (s.link c).receiver ≠ .waitMarking ∧ (s.link c).rxHeld < 64 ∧
  ∃ buf esc r d, (s.link c).asm = .collecting buf esc r ∧ (s.link c).asm.take (.good b) = .byte d ∧
    frame = buf ++ [d] ∧ reg = crcByte r d ∧ 5 ≤ frame.length ∧ frame.length ≤ 16 ∧
    crewFrameSize frame = some frame.length

/-- The request that a crew request row carries, as R123 hands it: its link, kind byte and payload (10.5, R190). -/
def crewRequestOf : Instr → Option (Link × Byte × List Byte)
  | .accept c z => some (c, 0x01#8, be16 z)
  | .decline c z => some (c, 0x02#8, be16 z)
  | .release c z => some (c, 0x03#8, be16 z)
  | .releaseTop c => some (c, 0x04#8, [])
  | .poll c => some (c, 0x05#8, [])
  | .list c => some (c, 0x06#8, [])
  | .sectors c w => some (c, 0x07#8, be16 w)
  | .sheetReqById c i => some (c, 0x08#8, 0x00#8 :: be16 i)
  | .sheetReqByZone c z => some (c, 0x08#8, 0x01#8 :: be16 z)
  | .sheetStopNamed c i => some (c, 0x09#8, 0x00#8 :: be16 i)
  | .sheetStopAll c => some (c, 0x09#8, [0x01#8, 0x00#8, 0x00#8])
  | .unknownRequest c kind payload => some (c, kind, payload)
  | _ => none

/-- Some requests are handed from a link that holds `waiting` in its receive FIFO, in order, each answered by one reply that
echoes its kind byte: those that the reply queue has room for, and the rest wait on (R123, R125). -/
def HandedInOrder (replies : List Reply) (waiting : List (List Byte)) (v : LinkUnit) : Prop :=
  ∃ (n : Nat) (placed : List Reply), n = min (4 - replies.length) waiting.length ∧ v.waiting = waiting.drop n ∧
    v.replies = replies ++ placed ∧ placed.map Reply.kind = (waiting.take n).map (fun w => w.getD 2 0)

/-! ### What the plan reader's arbiter chooses -/

/-- A crew qualifies for a fill grant (R144). -/
def Qualifies (s : State) (c : Link) : Prop :=
  ∃ tr, (s.slot c).transfer = some tr ∧ tr.faultDue = none ∧ 0 < tr.remaining ∧
    ((s.slot c).buf (bufOf (tr.count - tr.remaining))).state = .empty

/-- The crews after the last one granted, in the cyclic order 1, 2, 3, 4, 1 (R144). -/
def grantOrder : Link → List Link
  | .l1 => [.l2, .l3, .l4, .l1]
  | .l2 => [.l3, .l4, .l1, .l2]
  | .l3 => [.l4, .l1, .l2, .l3]
  | .l4 => [.l1, .l2, .l3, .l4]

/-- The first crew that qualifies after the last one granted (R144). -/
def GrantedNext (s : State) (c : Link) : Prop :=
  Qualifies s c ∧ ∃ before after, grantOrder s.ss.lastGranted = before ++ c :: after ∧ ∀ d ∈ before, ¬ Qualifies s d

/-- A crew's transfer has a fault due that can be entered: the buffer of its drain span is EMPTY (R147). -/
def FaultEnters (s : State) (c : Link) (tr : Transfer) (cause : FaultCause) : Prop :=
  (s.slot c).transfer = some tr ∧ tr.faultDue = some cause ∧ ((s.slot c).buf (bufOf tr.drainSpan)).state = .empty

/-- A fault entered for span k of a crew's transfer, in buffer i: the buffer FULL with no data, final, and the cause; no page
remaining, no fault due (R145, R147). -/
def withFault (c : Link) (tr : Transfer) (i : BufId) (k : Nat) (cause : FaultCause) (s : State) : State :=
  s.setSlot c { (s.slot c).setBuf i { state := .full, span := k, bytes := [], drained := 0, final := true,
                                      fault := some cause, discarded := false } with
    transfer := some { tr with remaining := 0, faultDue := none } }

/-! ### What a link's frame arbiter chooses -/

/-- The arbiter of a link may begin a frame when one of the sources has one (R128). -/
def MayBegin (s : State) (c : Link) : Prop :=
  (s.link c).state = .attached ∧ (s.link c).writing = none ∧ (s.link c).txFifo.length < 64

/-- The first due notice of a crew, by the order of R106: SYSTEM; the CLEAR, ISOLATE or WITHDRAWN mark of the lowest zone;
the UPDATE mark of the zone of highest urgency, the lowest among equals; the OFFER that is DUE. -/
def FirstDue (s : State) (c : Link) (n : NoticeKind) (z : Nat) : Prop :=
  (n = .system ∧ z = 0 ∧ (s.crew c).systemDue = true) ∨
  ((s.crew c).systemDue = false ∧ ∃ m, m ≠ .update ∧ n = .mark m ∧ (s.crew c).mark z = some m ∧
    ∀ y, y < z → (s.crew c).mark y = none ∨ (s.crew c).mark y = some .update) ∨
  ((s.crew c).systemDue = false ∧ (∀ y, (s.crew c).mark y = none ∨ (s.crew c).mark y = some .update) ∧
    n = .mark .update ∧ (s.crew c).mark z = some .update ∧
    ∀ y, (s.crew c).mark y = some .update →
      s.urgencyOf y < s.urgencyOf z ∨ s.urgencyOf y = s.urgencyOf z ∧ z ≤ y) ∨
  ((s.crew c).systemDue = false ∧ (∀ y, (s.crew c).mark y = none) ∧ n = .offer ∧ (s.crew c).offer = .due z)

/-- No notice of a crew is due (R106). -/
def NothingDue (s : State) (c : Link) : Prop :=
  (s.crew c).systemDue = false ∧ (∀ y, (s.crew c).mark y = none) ∧ ∀ z, (s.crew c).offer ≠ .due z

/-- The kind byte and payload of a notice begun for a zone (R108 to R110; layouts of 10.5): the picture status and panel
time of every notice; the trunk state and live sectors of a SYSTEM; the zone of a CLEAR, ISOLATE or WITHDRAWN; and, for an
OFFER or UPDATE, the zone's record, with its alarm entry time in ALARM only and the latest 4 point records. -/
def NoticeSays (s : State) (c : Link) (n : NoticeKind) (z : Nat) (kind : Byte) (payload : List Byte) : Prop :=
  ∃ common, common = (match s.sc.status with
      | .current => 0x00#8
      | .resyncing => 0x01#8
      | .stale => 0x02#8) :: be32 (if s.tb.known then BitVec.ofNat 32 s.uptime + s.tb.offset else 0) ∧
    (n = .system → kind = 0x46#8 ∧ payload = common ++ s.trunkState.code :: be16 (s.crew c).live) ∧
    (n = .mark .clear → kind = 0x43#8 ∧ payload = common ++ nat16 z) ∧
    (n = .mark .isolate → kind = 0x44#8 ∧ payload = common ++ nat16 z) ∧
    (n = .mark .withdrawn → kind = 0x45#8 ∧ payload = common ++ nat16 z) ∧
    (n = .offer ∨ n = .mark .update → kind = (if n = .offer then 0x41#8 else 0x42#8) ∧
      ∃ (entry : Word32) (records : List PointRec), records = (s.zone z).points.reverse.take 4 ∧
        ((s.zone z).cond ≠ .alarm → entry = 0) ∧
        (∀ u, (s.zone z).cond = .alarm → (s.zone z).alarmEntry = some u →
          entry = if s.tb.known then BitVec.ofNat 32 u + s.tb.offset else 0) ∧
        payload = common ++ nat16 z ++
          [(s.zone z).cond.code, byteOf (s.urgencyOf z), floorByte (s.zoneDef z).floor, byteOf (s.zoneDef z).sector,
           (s.zone z).alarms,
           byteOf ((if (s.zone z).cond = .alarm then 16 else 0) + linkBits (s.zone z).attendedBy)] ++ be32 entry ++
          (s.zone z).lapses :: byteOf records.length :: (records.flatMap recordBytes ++
            byteOf (s.zoneDef z).label.length :: (s.zoneDef z).label))

/-- The bytes of a crew frame before its check: the length of kind and payload, the kind, the payload (10.5). -/
def frameBody (kind : Byte) (payload : List Byte) : List Byte := nat16 (payload.length + 1) ++ kind :: payload

/-- The line characters of a crew frame: the start mark, then its bytes with their check, escaped (R129). -/
def frameLine (kind : Byte) (payload : List Byte) : List Byte :=
  0x7E#8 :: escape (frameBody kind payload ++ be16 (crc (frameBody kind payload)))

/-- A frame has been begun on the link of `u`, which is then `v`: the writer has written its characters into the free
places of the transmit FIFO, `n` of them, all but the last at most (R128, R129; the last is log 4). -/
def FrameBegun (u v : LinkUnit) (o : Owner) (line : List Byte) (n : Nat) : Prop :=
  n = min (64 - u.txFifo.length) (line.length - 1) ∧
  ∃ rest, v = { u with writing := some ⟨o, rest⟩, txFifo := u.txFifo ++ line.take n } ∧
    rest.map OutChar.ch = line.drop n

/-- What a SHEET frame says of a transfer and its span: the final mark, the fault mark, the sheet id, the span index (R148,
10.5). -/
def SheetSays (tr : Transfer) (b : SpanBuf) (header : List Byte) : Prop :=
  header = [byteOf ((if b.final then 128 else 0) +
      (match b.fault with
        | none => 0
        | some .memory => 32
        | some .range => 64) + tr.sheet / 256 % 2), byteOf tr.sheet, byteOf tr.drainSpan]

/-- When `n` characters of a SHEET frame have been written, `d` of its data bytes have: those that stand, with the 6 bytes
before them, in the `n` characters (R148). -/
def DataWritten (header data : List Byte) (n d : Nat) : Prop :=
  d ≤ data.length ∧
  (d = 0 ∨ 1 + (escape ((frameBody 0x47#8 (header ++ data)).take (6 + d))).length ≤ n) ∧
  (d < data.length → n < 1 + (escape ((frameBody 0x47#8 (header ++ data)).take (6 + d + 1))).length)

/-! ### Invariants -/

/-- The point map in order, without shared points and within its ranges and size (R19). -/
def MapOrdered (m : List MapEntry) : Prop :=
  m.length ≤ 2048 ∧ (∀ e ∈ m, e.inRange = true) ∧
  m.Pairwise (fun a b => a.node < b.node ∨ (a.node = b.node ∧ a.last < b.first))

/-- The retained tables within their ranges (R19, R20, R33, R133, R168, R169). -/
def TablesInv (s : State) : Prop :=
  MapOrdered s.tables.map ∧
  (∀ e ∈ s.tables.fallback, 1 ≤ e.1 ∧ e.1 ≤ 120 ∧ e.2 ≤ 1023) ∧
  (∀ e ∈ s.tables.defs, 1 ≤ e.1 ∧ e.1 ≤ 1023 ∧ e.2.inRange = true) ∧
  (∀ e ∈ s.tables.dir, e.1 ≤ 511 ∧ e.2.inRange = true) ∧
  s.tables.config.inRange = true ∧ s.tables.config.nodesDiffer = true

/-- The retention check agrees with the tables between events (R180): while the controller runs, and after a start found
warm. -/
def MarkInv (s : State) : Prop :=
  (s.running = true ∨ s.sc.kind = .warm) → s.sc.markCheck = s.tables.check

/-- The transmit side of a port (R9, R13, R14): each queue holds at most 4 frames, the transmitter sends from a queue that
holds a frame, and it is free only while neither queue holds one. -/
def PortInv (u : PortUnit) : Prop :=
  u.repeatOut.length ≤ 4 ∧ u.ownQueue.length ≤ 4 ∧
  (u.tx = none → u.repeatOut = [] ∧ u.ownQueue = []) ∧
  (u.tx = some .repeatFifo → u.repeatOut ≠ []) ∧ (u.tx = some .ownQueue → u.ownQueue ≠ [])

/-- Both ports keep their transmit side (R9, R13, R14). -/
def PortsInv (s : State) : Prop := ∀ p, PortInv (s.port p)

/-- The links within their sizes (R117, R125, R126), a receiver that waits for marking with no frame in progress (R111), and
everything of a link that is not ATTACHED empty (R77, R112, R135); its outputs at high impedance exactly while it is
DISABLED, and controller-ready low while it is DETACHED (R112). -/
def LinksInv (s : State) : Prop :=
  ∀ c, (s.link c).rxHeld ≤ 64 ∧ (s.link c).replies.length ≤ 4 ∧ (s.link c).txFifo.length ≤ 64 ∧
    ((s.link c).receiver = .waitMarking → (s.link c).asm = .hunting) ∧
    ((s.link c).tx = .highZ ↔ (s.link c).state = .disabled) ∧
    ((s.link c).ctrlReady = .highZ ↔ (s.link c).state = .disabled) ∧
    ((s.link c).state = .detached → (s.link c).ctrlReady = .low) ∧
    ((s.link c).state ≠ .attached → (s.link c).receiver = .idle ∧
      (s.link c).asm = .hunting ∧ (s.link c).waiting = [] ∧ (s.link c).replies = [] ∧ (s.link c).writing = none ∧
      (s.link c).txFifo = [] ∧ s.crew c = Crew.empty ∧ (s.slot c).queue = [] ∧ (s.slot c).transfer = none)

/-- Each crew's collections (R77): the attended list holds at most 8 zones, none twice, and no zone is in two of the three
collections. -/
def CollectionsInv (s : State) : Prop :=
  ∀ c, (s.crew c).attended.length ≤ 8 ∧ (s.crew c).attended.Nodup ∧
    (∀ z ∈ (s.crew c).pending, z ∉ (s.crew c).attended ∧ z ∉ (s.crew c).aside) ∧
    (∀ z ∈ (s.crew c).attended, z ∉ (s.crew c).aside)

/-- What the crews hold agrees with the picture: a zone's attended-by set holds exactly the crews that attend it (R77); a
pending zone is active and of a live sector (R81); an attended or set-aside zone is active (R83); and an offer names a
pending zone (R87). -/
def CrewsInv (s : State) : Prop :=
  ∀ c z, ((s.zone z).attendedBy.get c = true ↔ z ∈ (s.crew c).attended) ∧
    (z ∈ (s.crew c).pending → s.zoneActive z = true ∧ inSectors (s.crew c).live (s.zoneDef z).sector = true) ∧
    (z ∈ (s.crew c).attended ∨ z ∈ (s.crew c).aside → s.zoneActive z = true) ∧
    ((s.crew c).offer.names z = true → z ∈ (s.crew c).pending)

/-- Each crew's sheet queue (R135): at most 4 sheets, none twice, none the active transfer's, and a transfer in the slot
whenever the queue holds a sheet. -/
def SheetQueueInv (s : State) : Prop :=
  ∀ c, (s.slot c).queue.length ≤ 4 ∧ (s.slot c).queue.Nodup ∧
    (∀ t, (s.slot c).transfer = some t → t.sheet ∉ (s.slot c).queue) ∧
    ((s.slot c).queue ≠ [] → (s.slot c).transfer ≠ none)

/-- A live record whose condition is the derived one, whose alarm entry, deadline and urgency are present exactly where R36
and R37 say, and which is empty while the zone is isolated (R54). -/
def ZoneInv (l : ZoneLive) : Prop :=
  l.cond = deriveCond l ∧ (l.alarmEntry.isSome ↔ l.cond = .alarm) ∧ (l.deadline.isSome ↔ l.cond = .verifying) ∧
  (l.urgency.isSome ↔ l.cond.active = true) ∧
  (l.isolated = true → l.points = [] ∧ l.alarms = 0 ∧ l.supervisories = 0 ∧ l.troubles = 0)

/-- The picture in canonical form, every live record as R36 and R37 say. -/
def PictureInv (s : State) : Prop := Tab.wf ZoneLive.start s.zp.live = true ∧ ∀ z, ZoneInv (s.zone z)

/-- The zones in ALARM on a floor. -/
def State.alarmsOn (s : State) (f : Int) : Nat :=
  ((s.zp.live.map Prod.fst).filter (fun z => (s.zone z).cond == .alarm && (s.zoneDef z).floor == f)).length

/-- Every floor alarm count equals the number of zones in ALARM on the floor (R59). -/
def FloorInv (s : State) : Prop := ∀ f : Int, -8 ≤ f → f ≤ 127 → s.floorCount f = s.alarmsOn f

/-- Every table and memory in its canonical form: keys strictly rising, no entry at the value an unlisted key reads as. -/
def CanonInv (s : State) : Prop :=
  Tab.wf 0 s.tables.fallback = true ∧ Tab.wf ZoneDef.cold s.tables.defs = true ∧
  Tab.wf SheetRec.cold s.tables.dir = true ∧ Tab.wf ZoneLive.start s.zp.live = true ∧ Tab.wf 0 s.zp.floors = true ∧
  Tab.wf none s.ageSteps = true ∧ Tab.wf none s.ti.seqTable = true ∧ Tab.wf Config.planErased s.planMem = true ∧
  Tab.wf Config.stagingStart s.ss.staging = true ∧
  ∀ c, Tab.wf none (s.crew c).marks = true ∧ (s.crew c).pending.Pairwise (· < ·) ∧ (s.crew c).aside.Pairwise (· < ·)

end Sys2Proof.Machine
end

