-- ==== Sys2Proof/Certificates/Slice0/Obligations.lean ====
section
/-! DEFINITION. The statements for the provers, from the numbered rules of spec/. -/

open Sys2Proof Sys2Proof.Machine

/-! ### The machine -/

/-- A step takes the command at the front of the queue and runs it with the queue's rest. The queue is the model's
own (log 2). -/
def Obligations.StepRunsFrontCommand : Prop :=
  ∀ (c : Instr) (rest : List Instr) (s : State), s.pending = c :: rest → step s = exec c (s.withPending rest)

/-- Every command, in every state, answers a next state, and leaves the queue of waiting commands, which is the
model's own, to the step. 00 Conventions, "Refusal and degradation", gives it for an event that occurs. For a
command whose event cannot occur in the state it finds, the relay CLOSED included, it is the model's choice (log
1). -/
def Obligations.EveryCommandGoesOn : Prop :=
  ∀ (i : Instr) (s : State), ∃ t, exec i s = .next t ∧ t.pending = s.pending

/-! ### Chapter 1: the trunk -/

/-- R2: what the assembler of a port does with a good character that neither completes nor discards a frame. That a
character command is taken from an idle receiver as from one that is receiving is the model's choice (log 36). -/
def Obligations.TrunkCharacterAssembles : Prop :=
  ∀ (s : State) (p : Port) (b : Byte), s.running = true → (s.port p).receiver ≠ .waitMarking →
    ((s.port p).asm = .hunting →
      exec (.trunkCharacterReceived p b) s = .next (s.setPort p { s.port p with
        receiver := .idle, asm := if b = 0x7E#8 then .collecting [] false 0xFFFF#16 else .hunting })) ∧
    (∀ esc r, (s.port p).asm = .collecting [] esc r → b = 0x7E#8 →
      exec (.trunkCharacterReceived p b) s = .next (s.setPort p { s.port p with
        receiver := .idle, asm := .collecting [] false 0xFFFF#16 })) ∧
    (∀ buf r, (s.port p).asm = .collecting buf false r → b = 0x7D#8 →
      exec (.trunkCharacterReceived p b) s = .next (s.setPort p { s.port p with
        receiver := .idle, asm := .collecting buf true r })) ∧
    (∀ buf esc r d, (s.port p).asm = .collecting buf esc r → Decodes esc b d → ¬ HeaderBroken buf d →
      ¬ TrunkWhole (buf ++ [d]) →
      exec (.trunkCharacterReceived p b) s = .next (s.setPort p { s.port p with
        receiver := .idle, asm := .collecting (buf ++ [d]) false (crcByte r d) }))

/-- R3: the six causes for which a frame being collected is discarded and counted as a framing error. That a
character command is taken from an idle receiver as from one that is receiving is the model's choice (log 36). -/
def Obligations.TrunkFrameDiscarded : Prop :=
  ∀ (s : State) (p : Port) (ch : LineChar) (buf : List Byte) (esc : Bool) (r : Word16), s.running = true →
    (s.port p).receiver ≠ .waitMarking → (s.port p).asm = .collecting buf esc r →
    (ch = .framingError →
      exec (.trunkFrameDiscard p ch) s = .next (s.setPort p { (s.port p).withFramingError with
        receiver := .waitMarking, asm := .hunting })) ∧
    (ch = .good 0x7E#8 → buf ≠ [] →
      exec (.trunkFrameDiscard p ch) s = .next (s.setPort p { (s.port p).withFramingError with
        receiver := .idle, asm := .collecting [] false 0xFFFF#16 })) ∧
    (ch = .good 0x7D#8 → esc = true →
      exec (.trunkFrameDiscard p ch) s = .next (s.setPort p { (s.port p).withFramingError with
        receiver := .idle, asm := .hunting })) ∧
    (∀ b, ch = .good b → esc = true → b ≠ 0x7E#8 → b ≠ 0x7D#8 → b ^^^ 0x20#8 ≠ 0x7E#8 → b ^^^ 0x20#8 ≠ 0x7D#8 →
      exec (.trunkFrameDiscard p ch) s = .next (s.setPort p { (s.port p).withFramingError with
        receiver := .idle, asm := .hunting })) ∧
    (∀ b d, ch = .good b → Decodes esc b d → HeaderBroken buf d →
      exec (.trunkFrameDiscard p ch) s = .next (s.setPort p { (s.port p).withFramingError with
        receiver := .idle, asm := .hunting }))

/-- R4: a complete frame whose check does not close is discarded and counted as a check fail of its port. R7 and R8:
a sound frame on an UP port that is stripped, that does not fit its kind, or that is taken and of a kind that is not
handed. That a character command is taken from an idle receiver as from one that is receiving is the model's choice
(log 36). -/
def Obligations.CompleteFrameKept : Prop :=
  (∀ (s : State) (p : Port) (b : Byte) (buf : List Byte) (esc : Bool) (r : Word16) (d : Byte), s.running = true →
    (s.port p).receiver ≠ .waitMarking → (s.port p).asm = .collecting buf esc r → Decodes esc b d →
    TrunkWhole (buf ++ [d]) → crcByte r d ≠ 0 →
    exec (.trunkFrameComplete p b) s = .next (s.setPort p { s.port p with
      receiver := .idle, asm := .hunting,
      counters := { (s.port p).counters with checkFails := bump16 (s.port p).counters.checkFails } })) ∧
  (∀ (s : State) (p : Port) (b : Byte) (f : Frame), ArrivesSound s p b f → (s.port p).up = true →
    ((f.src.toNat = s.config.own ∨ s.ti.former = some f.src.toNat) →
      ∃ t, exec (.trunkFrameComplete p b) s = .next t ∧ ArbitersOnly (s.setPort p (s.port p).received) t) ∧
    (f.src.toNat ≠ s.config.own → s.ti.former ≠ some f.src.toNat → observedKind f.kind = true →
      payloadFits f.kind f.payload = false →
      ∃ t, exec (.trunkFrameComplete p b) s = .next t ∧
        ArbitersOnly (s.setPort p (s.port p).received.withFramingError) t) ∧
    (f.src.toNat ≠ s.config.own → s.ti.former ≠ some f.src.toNat → f.dst.toNat = s.config.own →
      observedKind f.kind = false → f.kind ≠ 0x20#8 →
      ∃ t, exec (.trunkFrameComplete p b) s = .next t ∧ ArbitersOnly (s.setPort p (s.port p).received) t))

/-- R7, R9, R10 and R11: a sound frame for another node, on an UP port, is placed in the FIFO of the opposite port or
counted there as dropped. One that is not of the five observed kinds, a copy, and a panel-only kind from another
source are handed to no block; the last is counted as foreign control on its arrival port. -/
def Obligations.SoundFrameRepeated : Prop :=
  ∀ (s : State) (p : Port) (b : Byte) (f : Frame), ArrivesSound s p b f → (s.port p).up = true →
    f.src.toNat ≠ s.config.own → s.ti.former ≠ some f.src.toNat → f.dst.toNat ≠ s.config.own →
    (observedKind f.kind = false ∨ payloadFits f.kind f.payload = true ∧
      (panelOnlyKind f.kind = true ∧ f.src.toNat ≠ s.config.panel ∨
        Tab.get none s.ti.seqTable f.src.toNat = some f.seq)) →
    ∃ t, exec (.trunkFrameComplete p b) s = .next t ∧
      (t.port (otherPort p)).repeatOut =
        (if (s.port (otherPort p)).repeatOut.length < 4 then (s.port (otherPort p)).repeatOut ++ [f]
         else (s.port (otherPort p)).repeatOut) ∧
      (t.port (otherPort p)).counters =
        (if (s.port (otherPort p)).repeatOut.length < 4 then (s.port (otherPort p)).counters
         else { (s.port (otherPort p)).counters with
           repeatDrops := bump16 (s.port (otherPort p)).counters.repeatDrops }) ∧
      (t.port (otherPort p)).ownQueue = (s.port (otherPort p)).ownQueue ∧
      t.port p = (if panelOnlyKind f.kind = true ∧ f.src.toNat ≠ s.config.panel then
          { (s.port p).received with
            counters := { (s.port p).counters with foreignControl := bump16 (s.port p).counters.foreignControl } }
        else (s.port p).received) ∧
      ArbitersOnly { s with ti := t.ti } t ∧ t.ti = { s.ti with ports := t.ti.ports }

/-- R11, R12, R21, R22, R32, R43 and R44: a point event that is no copy, from another source, for any destination,
on an UP port, enters its sequence number, is repeated unless it is for the own node, and is resolved. An orphan is
counted and changes no zone. An event for a defined, isolated zone raises that zone's isolated-event count and
nothing else of the picture. An event for a defined zone that is not isolated is applied to that zone
(AlarmEventByCase and SupervisoryTroubleNormal say how). -/
def Obligations.PointEventTaken : Prop :=
  ∀ (s : State) (p : Port) (b : Byte) (f : Frame) (e : PointEvent) (z : Nat), ArrivesNew s p b f → f.kind = 0x10#8 →
    readPointEvent f.src.toNat f.payload = some e → z = s.resolve e.node e.point →
    ∃ u t, exec (.trunkFrameComplete p b) s = .next t ∧ PassedOn s u p f ∧
      ((z = 0 ∨ (s.zoneDef z).defined = false) → ArbitersOnly { u with orphans := bump16 s.orphans } t) ∧
      (z ≠ 0 → (s.zoneDef z).defined = true → (s.zone z).isolated = true →
        (∀ y, t.zone y = if y = z then { s.zone z with isolatedEvents := bump8 (s.zone z).isolatedEvents }
          else s.zone y) ∧
        ArbitersOnly { u with zp := { s.zp with live := t.zp.live } } t) ∧
      (z ≠ 0 → (s.zoneDef z).defined = true → (s.zone z).isolated = false → ArbitersOnly (zoneEvent z e u) t)

/-- R21: an entry of the node that covers the point decides the zone; otherwise the node's fallback entry does. -/
def Obligations.ResolutionIsUnique : Prop :=
  ∀ (s : State) (n q : Nat), MapOrdered s.tables.map →
    (∀ m ∈ s.tables.map, m.node = n → m.first ≤ q → q ≤ m.last → s.resolve n q = m.zone) ∧
    ((∀ m ∈ s.tables.map, m.node = n → ¬ (m.first ≤ q ∧ q ≤ m.last)) →
      s.resolve n q = Tab.get 0 s.tables.fallback n)

/-- R13: an own frame takes the own node and the current own sequence number, which then advances from 255 to 0; each
port's queue takes it, or counts a drop when it holds 4 frames. R160: a management reply is such a frame, and carries
data only with OK. R14: when a frame's last character has left the line, the frame leaves its FIFO or queue and the
arbiter takes the oldest repeat, otherwise the oldest own frame. -/
def Obligations.OwnFramesPlacedAndSent : Prop :=
  (∀ (s : State) (src : Byte) (id : Word16) (res : MgmtResult) (data : List Byte),
    (reply src id res data s).ti.ownSeq.toNat = (s.ti.ownSeq.toNat + 1) % 256 ∧
    ∃ f : Frame, f.src = byteOf s.config.own ∧ f.seq = s.ti.ownSeq ∧ f.dst = src ∧ f.kind = 0x21#8 ∧
      f.payload = be16 id ++ res.code :: (if res = .ok then data else []) ∧
      ∀ p,
        ((reply src id res data s).port p).ownQueue =
          (if (s.port p).ownQueue.length < 4 then (s.port p).ownQueue ++ [f] else (s.port p).ownQueue) ∧
        ((reply src id res data s).port p).counters =
          (if (s.port p).ownQueue.length < 4 then (s.port p).counters
           else { (s.port p).counters with ownDrops := bump16 (s.port p).counters.ownDrops }) ∧
        ((reply src id res data s).port p).repeatOut = (s.port p).repeatOut) ∧
  (∀ (s : State) (p : Port), s.running = true →
    ((s.port p).tx = some .repeatFifo →
      exec (.trunkTransmitComplete p) s = .next (s.setPort p { s.port p with
        repeatOut := (s.port p).repeatOut.drop 1
        tx := if (s.port p).repeatOut.drop 1 ≠ [] then some .repeatFifo
              else if (s.port p).ownQueue ≠ [] then some .ownQueue else none })) ∧
    ((s.port p).tx = some .ownQueue →
      exec (.trunkTransmitComplete p) s = .next (s.setPort p { s.port p with
        ownQueue := (s.port p).ownQueue.drop 1
        tx := if (s.port p).repeatOut ≠ [] then some .repeatFifo
              else if (s.port p).ownQueue.drop 1 ≠ [] then some .ownQueue else none })))

/-- R15, R16, R104 and R186: a break of 100 ms or 10 s of silence takes an UP port DOWN. Every attached crew is then
owed a SYSTEM notice; when the other port is DOWN too the picture status becomes STALE and no expiry runs, otherwise
both stay. R15, R16, R184 and R186: a sound frame on a DOWN port first brings the port UP; every attached crew is
owed a SYSTEM notice, and when the trunk leaves BOTH_DOWN a resync is called, whose RESYNC_CALL goes to both ports,
or is dropped and counted at a full queue (R13). The frame is then taken as on a port that is UP (R4, R6), so that
the statements about frames on an UP port say what it does; of the controller's own, which is stripped, it is said
here. -/
def Obligations.PortGoesDownAndUp : Prop :=
  (∀ (s : State) (p : Port) (i : Instr), s.running = true → (s.port p).up = true →
    (i = .silenceTimerExpiry p ∨ i = .breakTimerExpiry p ∧ (s.port p).level = .spacing) →
    ∃ t, exec i s = .next t ∧
      t.ti = (s.setPort p { s.port p with up := false }).ti ∧
      t.sc = (if (s.port (otherPort p)).up then s.sc else { s.sc with status := .stale, expiry := none }) ∧
      (∀ c, (t.crew c).systemDue = ((s.crew c).systemDue || s.attached c)) ∧
      ArbitersOnly { s with ti := t.ti, sc := t.sc, nr := t.nr } t) ∧
  (∀ (s : State) (p : Port) (b : Byte) (f : Frame), ArrivesSound s p b f → (s.port p).up = false →
    ∃ u, exec (.trunkFrameComplete p b) s = exec (.trunkFrameComplete p b) u ∧ ArrivesSound u p b f ∧
      (u.port p).up = true ∧ (u.port (otherPort p)).up = (s.port (otherPort p)).up ∧
      (∀ c, u.crew c = { s.crew c with systemDue := (s.crew c).systemDue || s.attached c,
                                       flight := (u.crew c).flight }) ∧
      (∀ q, u.port q = { s.port q with up := (u.port q).up, ownQueue := (u.port q).ownQueue, tx := (u.port q).tx,
                                       counters := (u.port q).counters }) ∧
      ((s.port (otherPort p)).up = true →
        u.ti = (s.setPort p { s.port p with up := true }).ti ∧ u.sc = s.sc) ∧
      ((s.port (otherPort p)).up = false →
        u.sc = { s.sc with status := .resyncing, expiry := some (s.uptime + s.config.resyncTimeout) } ∧
        ∃ g : Frame, g.dst = 0 ∧ g.src = byteOf s.config.own ∧ g.seq = s.ti.ownSeq ∧ g.kind = 0x14#8 ∧ g.payload = [] ∧
          ∀ q, (u.port q).ownQueue =
              (if (s.port q).ownQueue.length < 4 then (s.port q).ownQueue ++ [g] else (s.port q).ownQueue) ∧
            (u.port q).counters = (if (s.port q).ownQueue.length < 4 then (s.port q).counters
              else { (s.port q).counters with ownDrops := bump16 (s.port q).counters.ownDrops })) ∧
      u = { s with sc := u.sc, nr := u.nr, ti := { s.ti with
        ports := u.ti.ports, ownSeq := if (s.port (otherPort p)).up then s.ti.ownSeq else s.ti.ownSeq + 1 } }) ∧
  (∀ (s : State) (p : Port) (b : Byte) (f : Frame), ArrivesSound s p b f → (s.port p).up = false →
    f.src.toNat = s.config.own →
    ∃ t, exec (.trunkFrameComplete p b) s = .next t ∧
      (t.port p).up = true ∧ (t.port (otherPort p)).up = (s.port (otherPort p)).up ∧
      (∀ c, (t.crew c).systemDue = ((s.crew c).systemDue || s.attached c)) ∧
      ((s.port (otherPort p)).up = true → t.sc = s.sc ∧ t.ti.ownSeq = s.ti.ownSeq) ∧
      ((s.port (otherPort p)).up = false →
        t.sc = { s.sc with status := .resyncing, expiry := some (s.uptime + s.config.resyncTimeout) } ∧
        t.ti.ownSeq = s.ti.ownSeq + 1 ∧
        ∀ q, (s.port q).ownQueue.length < 4 → ∃ g : Frame, g.dst = 0 ∧ g.kind = 0x14#8 ∧ g.seq = s.ti.ownSeq ∧
          g.payload = [] ∧ (t.port q).ownQueue = (s.port q).ownQueue ++ [g]) ∧
      ArbitersOnly { s with ti := t.ti, sc := t.sc, nr := t.nr } t)

/-- R5: the expiry of a port's partial-frame timer discards a frame with one byte or more; with none collected the
timer does not run and nothing changes. R1: a change from marking to spacing opens a character when the receiver is
idle; a line back at marking at the middle of the start bit was noise and the receiver is idle again, and at any
other moment the character goes on; a wait after a framing error ends at marking. R8: when the strip hold expires
the former own node is cleared. That an expiry with no byte collected changes nothing is the model's choice (log 1),
and so is that a spacing level on a line at spacing opens no character, that the row itself says whether the middle
of the start bit has come (log 33), and that a character changes nothing while the receiver waits for marking (log
29). -/
def Obligations.TrunkTimersAndLevels : Prop :=
  (∀ (s : State) (p : Port), s.running = true →
    (∀ buf esc r, (s.port p).asm = .collecting buf esc r → buf ≠ [] →
      exec (.trunkPartialFrameTimeout p) s = .next (s.setPort p { (s.port p).withFramingError with asm := .hunting })) ∧
    ((s.port p).asm.held = [] → exec (.trunkPartialFrameTimeout p) s = .next s)) ∧
  (∀ (s : State) (p : Port) (m : Bool), s.running = true →
    ((s.port p).receiver = .idle → (s.port p).level = .marking →
      exec (.trunkReceiveLevelChange p .spacing) s =
        .next (s.setPort p { s.port p with level := .spacing, receiver := .receiving })) ∧
    ((s.port p).receiver = .idle → (s.port p).level = .spacing →
      exec (.trunkReceiveLevelChange p .spacing) s = .next s) ∧
    ((s.port p).receiver = .receiving →
      exec (.trunkReceiveLevelChange p (.marking m)) s =
        .next (s.setPort p { s.port p with level := .marking, receiver := if m then .idle else .receiving })) ∧
    ((s.port p).receiver = .waitMarking →
      exec (.trunkReceiveLevelChange p (.marking m)) s =
          .next (s.setPort p { s.port p with level := .marking, receiver := .idle }) ∧
      (∀ ch, exec (.trunkFrameDiscard p ch) s = .next s) ∧ ∀ b, exec (.trunkCharacterReceived p b) s = .next s) ∧
    exec .stripHoldExpiry s = .next { s with ti := { s.ti with former := none } })

/-- 00 Conventions ("Escapes", "Checks"), R2, R4 and R14: a frame sent as line characters is read back. From a port
that is HUNTING, the characters of a frame with a valid header and check, all but the last, run as commands and
leave the assembler one character short of exactly that frame. That a character command is taken from an idle
receiver as from one that is receiving is the model's choice (log 36). -/
def Obligations.FramesSurviveTheLine : Prop :=
  ∀ (f : Frame), f.dst.toNat ≤ 127 → 1 ≤ f.src.toNat → f.src.toNat ≤ 120 → f.payload.length ≤ 48 →
    f.check = crc (frameHead f.dst f.src f.seq f.kind f.payload) →
    ∀ (s : State) (p : Port), s.running = true → (s.port p).asm = .hunting → (s.port p).receiver ≠ .waitMarking →
      ∃ cs b u, f.lineChars = cs ++ [b] ∧
        Sys2Proof.core.run cs.length (s.withPending (cs.map (Instr.trunkCharacterReceived p))) = .next u ∧
        ArrivesSound u p b f ∧ u = ({ s with pending := [] } : State).setPort p
          { s.port p with receiver := .idle, asm := (u.port p).asm }

/-! ### Chapter 3: the zone picture -/

/-- R41, R42, R44, R45, R46 and R47: an ALARM event by the case that holds. With a record to be had it is made. With
the pool empty, or 255 ALARM records in the list, it is not: the overflow mark is set, the count is raised all the
same, and a verification that cannot be recorded is an ordinary alarm. A point whose ALARM record the list holds
changes nothing. Then R38, R59, R70 to R72, R81, R82 and R101: the urgencies, the age schedule, the floor count and
the crews follow the change. -/
def Obligations.AlarmEventByCase : Prop :=
  ∀ (s t : State) (z : Nat) (e : PointEvent), e.cond = .alarm → (s.zone z).isolated = false → t = zoneEvent z e s →
    ∀ Starts : Prop, (Starts ↔ e.kind = .detector ∧ (s.zoneDef z).verify = true ∧ (s.zone z).alarms = 0 ∧
      e.resend = false) →
    PictureFollows s t z ∧ CrewsTold s t z ∧
    ((s.zone z).holdsRec e.node e.point .alarm = true → ZoneInv (s.zone z) → (s.zone z).cond ≠ .quiet →
      ∀ y, t.zone y = s.zone y) ∧
    ((s.zone z).holdsRec e.node e.point .alarm = false → (s.zone z).cond ≠ .verifying → ¬ Starts →
      (t.zone z).alarms = bump8 (s.zone z).alarms ∧ (t.zone z).cond = .alarm ∧
      (t.zone z).alarmEntry = (if (s.zone z).cond = .alarm then (s.zone z).alarmEntry else some s.uptime) ∧
      (0 < s.poolFree → (s.zone z).kindCount .alarm < 255 →
        (t.zone z).points = (s.zone z).points ++ [⟨e.node, e.point, .alarm, s.uptime⟩] ∧
        (t.zone z).overflow = (s.zone z).overflow) ∧
      (s.poolFree = 0 ∨ 255 ≤ (s.zone z).kindCount .alarm →
        (t.zone z).points = (s.zone z).points ∧ (t.zone z).overflow = true)) ∧
    ((s.zone z).holdsRec e.node e.point .alarm = false → (s.zone z).cond ≠ .verifying → Starts →
      (s.zone z).kindCount .prealarm = 0 →
      (0 < s.poolFree →
        (t.zone z).points = (s.zone z).points ++ [⟨e.node, e.point, .prealarm, s.uptime⟩] ∧
        (t.zone z).alarms = 0 ∧ (t.zone z).cond = .verifying ∧
        (t.zone z).deadline = some (s.uptime + s.config.verifyWindow)) ∧
      (s.poolFree = 0 →
        (t.zone z).points = (s.zone z).points ∧ (t.zone z).alarms = 1 ∧ (t.zone z).overflow = true ∧
        (t.zone z).cond = .alarm ∧ (t.zone z).deadline = none ∧
        (t.zone z).alarmEntry = (if (s.zone z).cond = .alarm then (s.zone z).alarmEntry else some s.uptime))) ∧
    ((s.zone z).holdsRec e.node e.point .alarm = false → (s.zone z).cond = .verifying →
      (t.zone z).cond = .alarm ∧ (t.zone z).deadline = none ∧ (t.zone z).alarmEntry = some s.uptime ∧
      ((s.zone z).holdsRec e.node e.point .prealarm = true →
        (t.zone z).points = (s.zone z).points.map PointRec.confirmed ∧ (t.zone z).alarms = 1) ∧
      ((s.zone z).holdsRec e.node e.point .prealarm = false → (t.zone z).alarms = 2 ∧
        (0 < s.poolFree → (s.zone z).kindCount .prealarm = 1 → (s.zone z).kindCount .alarm = 0 →
          (t.zone z).points =
            (s.zone z).points.map PointRec.confirmed ++ [⟨e.node, e.point, .alarm, s.uptime⟩]) ∧
        (s.poolFree = 0 →
          (t.zone z).points = (s.zone z).points.map PointRec.confirmed ∧ (t.zone z).overflow = true)))

/-- R41, R42, R48 and R49: a SUPERVISORY or TROUBLE event raises the count of its kind, with its record made, or,
with the pool empty or 255 records of the kind in the list, with the overflow mark set instead; a point whose record
the list holds changes nothing. A NORMAL removes the point's records of the two kinds and lowers their counts. The
alarm count is not touched. Then R37, R38, R81, R82, R83 and R101: the condition is the one the counts give, and the
urgency and the crews follow the change. -/
def Obligations.SupervisoryTroubleNormal : Prop :=
  ∀ (s t : State) (z : Nat) (e : PointEvent), e.cond ≠ .alarm → (s.zone z).isolated = false → t = zoneEvent z e s →
    PictureFollows s t z ∧ CrewsTold s t z ∧ (t.zone z).alarms = (s.zone z).alarms ∧
    (t.zone z).cond = (if (t.zone z).alarms ≠ 0 then .alarm
      else if ∃ r ∈ (t.zone z).points, r.kind = .prealarm then .verifying
      else if (t.zone z).supervisories ≠ 0 then .supervisory
      else if (t.zone z).troubles ≠ 0 then .trouble else .quiet) ∧
    (∀ k n n' m m', (e.cond = .supervisory ∧ k = .supervisory ∧ n = (s.zone z).supervisories ∧
          n' = (t.zone z).supervisories ∧ m = (s.zone z).troubles ∧ m' = (t.zone z).troubles ∨
        e.cond = .trouble ∧ k = .trouble ∧ n = (s.zone z).troubles ∧ n' = (t.zone z).troubles ∧
          m = (s.zone z).supervisories ∧ m' = (t.zone z).supervisories) →
      ((s.zone z).holdsRec e.node e.point k = true → ZoneInv (s.zone z) → (s.zone z).cond ≠ .quiet →
        ∀ y, t.zone y = s.zone y) ∧
      ((s.zone z).holdsRec e.node e.point k = false → n' = bump8 n ∧ m' = m ∧
        (0 < s.poolFree → (s.zone z).kindCount k < 255 →
          (t.zone z).points = (s.zone z).points ++ [⟨e.node, e.point, k, s.uptime⟩] ∧
          (t.zone z).overflow = (s.zone z).overflow) ∧
        (s.poolFree = 0 ∨ 255 ≤ (s.zone z).kindCount k →
          (t.zone z).points = (s.zone z).points ∧ (t.zone z).overflow = true))) ∧
    (e.cond = .normal →
      (∀ r, r ∈ (t.zone z).points ↔ r ∈ (s.zone z).points ∧
        ¬ (r.node = e.node ∧ r.point = e.point ∧ (r.kind = .supervisory ∨ r.kind = .trouble))) ∧
      (t.zone z).supervisories =
        (if (s.zone z).holdsRec e.node e.point .supervisory then drop8 (s.zone z).supervisories
         else (s.zone z).supervisories) ∧
      (t.zone z).troubles =
        (if (s.zone z).holdsRec e.node e.point .trouble then drop8 (s.zone z).troubles else (s.zone z).troubles))

/-- R52: at its deadline a verification window expires: no PREALARM record, no deadline, one more lapse, and the
condition by the records the zone still holds. Every other zone keeps all but its urgency. That a deadline is due
when uptime has reached it is log 7; what the arbiters begin at once is log 6. -/
def Obligations.VerifyWindowExpires : Prop :=
  ∀ (s : State) (z d : Nat), s.running = true → (s.zone z).cond = .verifying → (s.zone z).isolated = false →
    (s.zone z).alarms = 0 → (s.zone z).deadline = some d → d ≤ s.uptime →
    ∃ t, exec (.verifyWindowExpiry z) s = .next t ∧
      (t.zone z).points = (s.zone z).points.filter (fun r => r.kind != .prealarm) ∧
      (t.zone z).deadline = none ∧ (t.zone z).lapses = bump8 (s.zone z).lapses ∧
      (t.zone z).alarms = (s.zone z).alarms ∧ (t.zone z).supervisories = (s.zone z).supervisories ∧
      (t.zone z).troubles = (s.zone z).troubles ∧
      (t.zone z).cond = (if (s.zone z).supervisories ≠ 0 then .supervisory
        else if (s.zone z).troubles ≠ 0 then .trouble else .quiet) ∧
      (∀ y, y ≠ z → t.zone y = s.zone y) ∧ t.zp.floors = s.zp.floors ∧
      ArbitersOnly { s with zp := t.zp, ageSteps := t.ageSteps, nr := t.nr } t

/-- R54 and R55: isolation on empties a defined zone and makes it ISOLATED, its lapse and isolated-event counts
kept. Isolation off makes it QUIET. A setting it already has, or a zone not defined, changes nothing. R83: every
attached crew drops the zone, and one that attended it or had its offer OUT is owed an ISOLATE. R12: a ZONE_ISOLATE
frame of the panel node, no copy, on an UP port does this. -/
def Obligations.ZoneIsolated : Prop :=
  (∀ (s : State) (p : Port) (b : Byte) (f : Frame) (z : Nat) (on : Bool), ArrivesNew s p b f → f.kind = 0x12#8 →
    readZoneIsolate f.payload = some (z, on) →
    ∃ u t, exec (.trunkFrameComplete p b) s = .next t ∧ PassedOn s u p f ∧ ArbitersOnly (zoneIsolate z on u) t) ∧
  (∀ (s : State) (z : Nat) (on : Bool), PictureFollows s (zoneIsolate z on s) z ∧ CrewsTold s (zoneIsolate z on s) z) ∧
  ∀ (s : State) (z : Nat), ZoneInv (s.zone z) →
    ((s.zoneDef z).defined = true → (s.zone z).isolated = false →
      (((zoneIsolate z true s).zone z).isolated = true ∧ ((zoneIsolate z true s).zone z).cond = .isolated ∧
       ((zoneIsolate z true s).zone z).points = [] ∧ ((zoneIsolate z true s).zone z).alarms = 0 ∧
       ((zoneIsolate z true s).zone z).supervisories = 0 ∧ ((zoneIsolate z true s).zone z).troubles = 0 ∧
       ((zoneIsolate z true s).zone z).overflow = false ∧ ((zoneIsolate z true s).zone z).alarmEntry = none ∧
       ((zoneIsolate z true s).zone z).deadline = none ∧ ((zoneIsolate z true s).zone z).urgency = none ∧
       ((zoneIsolate z true s).zone z).lapses = (s.zone z).lapses ∧
       ((zoneIsolate z true s).zone z).isolatedEvents = (s.zone z).isolatedEvents) ∧
      ∀ c, s.attached c = true →
        z ∉ ((zoneIsolate z true s).crew c).pending ∧ z ∉ ((zoneIsolate z true s).crew c).attended ∧
        z ∉ ((zoneIsolate z true s).crew c).aside ∧
        ((zoneIsolate z true s).crew c).offer.names z = false ∧
        (z ∈ (s.crew c).attended ∨ (s.crew c).offer.outNames z = true →
          ((zoneIsolate z true s).crew c).mark z = some .isolate)) ∧
    ((s.zoneDef z).defined = true → (s.zone z).isolated = true →
      ((zoneIsolate z false s).zone z).isolated = false ∧ ((zoneIsolate z false s).zone z).cond = .quiet ∧
      ((zoneIsolate z false s).zone z).isolatedEvents = (s.zone z).isolatedEvents) ∧
    (∀ on, (s.zoneDef z).defined = false ∨ (s.zone z).isolated = on → zoneIsolate z on s = s)

/-- R56 and R83: a PANEL_RESET makes every zone that is not isolated QUIET and empty, keeping its lapse and
isolated-event counts, leaves isolated zones, and zeroes every floor alarm count; no zone that was active stays in
a collection or an offer of an attached crew, and one that attended it or had its offer OUT is owed a CLEAR. R12: a
PANEL_RESET frame of the panel node, no copy, on an UP port does this. -/
def Obligations.PanelResetClears : Prop :=
  (∀ (s : State) (p : Port) (b : Byte) (f : Frame), ArrivesNew s p b f → f.kind = 0x11#8 → f.payload = [] →
    ∃ u t, exec (.trunkFrameComplete p b) s = .next t ∧ PassedOn s u p f ∧ ArbitersOnly (panelReset u) t) ∧
  ∀ (s : State), PictureInv s →
    (∀ z, (s.zone z).isolated = false →
      ((panelReset s).zone z).cond = .quiet ∧ ((panelReset s).zone z).points = [] ∧
      ((panelReset s).zone z).alarms = 0 ∧ ((panelReset s).zone z).supervisories = 0 ∧
      ((panelReset s).zone z).troubles = 0 ∧ ((panelReset s).zone z).overflow = false ∧
      ((panelReset s).zone z).alarmEntry = none ∧ ((panelReset s).zone z).deadline = none ∧
      ((panelReset s).zone z).urgency = none ∧ ((panelReset s).zone z).lapses = (s.zone z).lapses ∧
      ((panelReset s).zone z).isolatedEvents = (s.zone z).isolatedEvents) ∧
    (∀ z, (s.zone z).isolated = true → (panelReset s).zone z = s.zone z) ∧
    (∀ f : Int, (panelReset s).floorCount f = 0) ∧
    (∀ c z, s.attached c = true → s.zoneActive z = true →
      z ∉ ((panelReset s).crew c).pending ∧ z ∉ ((panelReset s).crew c).attended ∧
      z ∉ ((panelReset s).crew c).aside ∧ ((panelReset s).crew c).offer.names z = false ∧
      (z ∈ (s.crew c).attended ∨ (s.crew c).offer.outNames z = true →
        ((panelReset s).crew c).mark z = some .clear)) ∧
    (∀ c, s.attached c = false → (panelReset s).crew c = s.crew c) ∧
    (panelReset s).tables = s.tables ∧ (panelReset s).ss = s.ss

/-- R60, R76, R103 and R172: PICTURE_CLEAR sets every live record to its start state, removes every floor count and
age step, empties every attached crew but its live sectors, calls a resync, and gives the RESYNC_CALL before the
reply. -/
def Obligations.PictureCleared : Prop :=
  ∀ (s : State) (src : Byte) (id : Word16), Serves s src →
    ∃ t, exec (.pictureClear src id []) s = .next t ∧
      (∀ z, t.zone z = ZoneLive.start ∧ t.ageStep z = none) ∧ (∀ f : Int, t.floorCount f = 0) ∧
      (∀ c, s.attached c = true →
        (t.crew c).pending = [] ∧ (t.crew c).attended = [] ∧ (t.crew c).aside = [] ∧ (t.crew c).offer = .none ∧
        (∀ z, (t.crew c).mark z = none) ∧ (t.crew c).rc = 0 ∧ (t.crew c).systemDue = true ∧
        (t.crew c).live = (s.crew c).live) ∧
      t.sc = { s.sc with status := .resyncing, expiry := some (s.uptime + s.config.resyncTimeout) } ∧
      t.ti.ownSeq = s.ti.ownSeq + 2 ∧
      (∀ p, (s.port p).ownQueue.length ≤ 2 → ∃ call rep : Frame,
        call.kind = 0x14#8 ∧ call.dst = 0 ∧ call.seq = s.ti.ownSeq ∧ rep.kind = 0x21#8 ∧ rep.dst = src ∧
        rep.payload = be16 id ++ [0x00#8] ∧ rep.seq = s.ti.ownSeq + 1 ∧
        (t.port p).ownQueue = (s.port p).ownQueue ++ [call, rep]) ∧
      t.tables = s.tables ∧ t.mr = none ∧ t.tb = s.tb ∧ t.planMem = s.planMem ∧ t.orphans = s.orphans

/-! ### Chapter 4: urgency -/

/-- R64 to R69 (R65, R66, R68): the urgency of an active zone is the sum of the five terms, at most 255 and at least
16. R67, R71 and R102: an age step recomputes its zone and sets the following step, or none after the fifteenth; a
crew that attends the zone is owed an UPDATE when the urgency changed, unless it is owed a CLEAR or ISOLATE. That a
step is due when uptime has reached it is log 7. -/
def Obligations.AgeStepFalls : Prop :=
  (∀ (s : State) (z H : Nat), s.zoneActive z = true →
    [s.config.bonus0, s.config.bonus1, s.config.bonus2, s.config.bonus3][(s.zoneDef z).hazard]? = some H →
    s.urgencyValue z = min 255
      ((if (s.zone z).cond = .alarm then 120 else if (s.zone z).cond = .verifying then 64
        else if (s.zone z).cond = .supervisory then 40 else 16) + H +
      (if (s.zone z).cond = .alarm then 4 * min ((s.zone z).alarms.toNat - 1) 7 else 0) +
      (if (s.zone z).cond = .alarm ∧ s.config.escalation ≠ 0 then
        2 * min ((s.uptime - (s.zone z).alarmEntry.getD 0) / s.config.escalation) 15 else 0) +
      (if -8 < (s.zoneDef z).floor ∧ 0 < s.floorCount ((s.zoneDef z).floor - 1) then 12 else 0)) ∧
    16 ≤ s.urgencyValue z ∧ s.urgencyValue z ≤ 255) ∧
  ∀ (s : State) (z u entry : Nat), s.running = true → (s.zone z).cond = .alarm →
    (s.zone z).alarmEntry = some entry → s.ageStep z = some u → u ≤ s.uptime →
    ∃ t, exec (.ageStep z) s = .next t ∧
      (∀ y, t.zone y = if y = z then { s.zone z with urgency := some (s.urgencyValue z) } else s.zone y) ∧
      (∀ y, t.ageStep y = if y = z then
          (if entry + 15 * s.config.escalation ≤ u then none else some (u + s.config.escalation)) else s.ageStep y) ∧
      (∀ c, s.attached c = true → z ∈ (s.crew c).attended → (s.zone z).urgency ≠ some (s.urgencyValue z) →
        (s.crew c).mark z ≠ some .clear → (s.crew c).mark z ≠ some .isolate → (t.crew c).mark z = some .update) ∧
      t.zp.floors = s.zp.floors ∧ ArbitersOnly { s with zp := t.zp, ageSteps := t.ageSteps, nr := t.nr } t

/-- R165 and R73: a hazard bonus write by its tests; the class's entry takes the bonus, and every active zone of the
class is recomputed. Both tables read it back. -/
def Obligations.HazardBonusWritten : Prop :=
  ∀ (s : State) (src : Byte) (id : Word16) (h l b : Byte), Serves s src → s.lockHolds = false →
    (3 < num16 h l → ∃ t, exec (.tableWriteHazardBonus src id [h, l, b]) s = .next t ∧
      ArbitersOnly (reply src id .badIndex [] s) t) ∧
    (num16 h l ≤ 3 → 80 < b.toNat → ∃ t, exec (.tableWriteHazardBonus src id [h, l, b]) s = .next t ∧
      ArbitersOnly (reply src id .badValue [] s) t) ∧
    (num16 h l ≤ 3 → b.toNat ≤ 80 → ∃ t, exec (.tableWriteHazardBonus src id [h, l, b]) s = .next t ∧
      t.config.bonus (num16 h l) = b.toNat ∧ (∀ k, k ≤ 3 → k ≠ num16 h l → t.config.bonus k = s.config.bonus k) ∧
      (s.config.bonus (num16 h l) ≠ b.toNat → ∀ z, s.zoneActive z = true → (s.zoneDef z).hazard = num16 h l →
        (t.zone z).urgency = some (t.urgencyValue z)) ∧
      t.ti = (reply src id .ok [] s).ti ∧ t.sc.markCheck = t.tables.check ∧
      readTable .hazardBonus (num16 h l) t = (.ok, [b]) ∧
      (readTable .configuration 0 t).2[7 + num16 h l]? = some b ∧
      ArbitersOnly { s with ti := t.ti, tables := { s.tables with config := t.config },
                            sc := { s.sc with markCheck := t.sc.markCheck }, zp := t.zp, ageSteps := t.ageSteps,
                            nr := t.nr } t)

/-! ### Chapter 5: notices -/

/-- R84 and R85: the rank of a crew is its pending zones, by urgency from the highest and among equals by the cyclic
distance from the rotation point. A pending zone is eligible in OPEN mode, and in NESTED mode when its urgency is
above that of every attended zone; the eligible zones are the head of the rank. -/
def Obligations.RankOrdersPending : Prop :=
  ∀ (s : State) (c : Link), (s.crew c).pending.Pairwise (· < ·) → (∀ z ∈ (s.crew c).pending, 1 ≤ z ∧ z ≤ 1023) →
    (s.rank c).Perm (s.crew c).pending ∧
    (s.rank c).Pairwise (fun y z => s.urgencyOf z < s.urgencyOf y ∨ s.urgencyOf y = s.urgencyOf z ∧
      ((y : Int) - (s.crew c).rc - 1) % 1023 < ((z : Int) - (s.crew c).rc - 1) % 1023) ∧
    (∀ z ∈ (s.crew c).pending, s.eligible c z = true ↔
      (s.profile c).mode = .openMode ∨ ∀ y ∈ (s.crew c).attended, s.urgencyOf y < s.urgencyOf z) ∧
    ∃ k, ∀ (i : Nat) (z : Nat), (s.rank c)[i]? = some z → (s.eligible c z = true ↔ i < k)

/-- R93 and R94: ACCEPT by its cases. R95: DECLINE moves a pending zone to the set-aside set and ends an offer that
names it; otherwise it is answered BAD_ZONE or NOT_PENDING. The row is the hand-off of the request (log 5). -/
def Obligations.AcceptAndDeclineAnswered : Prop :=
  (∀ (s : State) (c : Link) (zone : Word16), Hands s c →
    ((zone.toNat = 0 ∨ 1023 < zone.toNat) → ∃ t, exec (.accept c zone) s = .next t ∧
      ArbitersOnly (offerStep c (placeReply c ⟨0x01#8, 0x04#8, []⟩ s)) t) ∧
    (1 ≤ zone.toNat → zone.toNat ≤ 1023 → zone.toNat ∉ (s.crew c).pending → ∃ t, exec (.accept c zone) s = .next t ∧
      ArbitersOnly (offerStep c (placeReply c ⟨0x01#8, 0x02#8, []⟩ s)) t) ∧
    (1 ≤ zone.toNat → zone.toNat ≤ 1023 → zone.toNat ∈ (s.crew c).pending → 8 ≤ (s.crew c).attended.length →
      ∃ t, exec (.accept c zone) s = .next t ∧
        ArbitersOnly (offerStep c (placeReply c ⟨0x01#8, 0x01#8, []⟩ (s.setCrew c { s.crew c with
          offer := if (s.crew c).offer.names zone.toNat then .none else (s.crew c).offer }))) t) ∧
    (1 ≤ zone.toNat → zone.toNat ≤ 1023 → zone.toNat ∈ (s.crew c).pending → (s.crew c).attended.length < 8 →
      ∃ t queued, exec (.accept c zone) s = .next t ∧
        (queued = 1#8 ↔ (s.profile c).autoSheet = true ∧
          ∃ i, (s.zoneDef zone.toNat).primary = some i ∧ (requestSheet c i s).1 = .ok) ∧
        (queued = 0#8 ∨ queued = 1#8) ∧
        (t.link c).replies = (s.link c).replies ++ [⟨0x01#8, 0x00#8, be16 zone ++ [queued]⟩] ∧
        (∀ y, y ∈ (t.crew c).pending ↔ y ∈ (s.crew c).pending ∧ y ≠ zone.toNat) ∧
        (t.crew c).attended = (s.crew c).attended ++ [zone.toNat] ∧ (t.crew c).aside = (s.crew c).aside ∧
        (t.crew c).rc = (s.crew c).rc ∧ (t.crew c).live = (s.crew c).live ∧
        (t.crew c).offer.names zone.toNat = false ∧
        (∀ y, (t.crew c).mark y = if y = zone.toNat then
            (match (s.crew c).mark y with
              | some .withdrawn => none
              | some .clear => some .update
              | some .isolate => some .update
              | m => m) else (s.crew c).mark y) ∧
        (∀ y, t.zone y = if y = zone.toNat then { s.zone y with attendedBy := (s.zone y).attendedBy.set c true }
          else s.zone y) ∧
        (∀ d, d ≠ c → t.crew d = { s.crew d with flight := (t.crew d).flight }) ∧
        t = { s with zp := { s.zp with live := t.zp.live }, nr := t.nr, cl := t.cl, ss := t.ss })) ∧
  (∀ (s : State) (c : Link) (zone : Word16), Hands s c →
    ((zone.toNat = 0 ∨ 1023 < zone.toNat) → ∃ t, exec (.decline c zone) s = .next t ∧
      ArbitersOnly (offerStep c (placeReply c ⟨0x02#8, 0x04#8, []⟩ s)) t) ∧
    (1 ≤ zone.toNat → zone.toNat ≤ 1023 → zone.toNat ∉ (s.crew c).pending → ∃ t, exec (.decline c zone) s = .next t ∧
      ArbitersOnly (offerStep c (placeReply c ⟨0x02#8, 0x02#8, []⟩ s)) t) ∧
    (1 ≤ zone.toNat → zone.toNat ≤ 1023 → zone.toNat ∈ (s.crew c).pending →
      ∃ t, exec (.decline c zone) s = .next t ∧
        (t.link c).replies = (s.link c).replies ++ [⟨0x02#8, 0x00#8, []⟩] ∧
        (∀ y, y ∈ (t.crew c).pending ↔ y ∈ (s.crew c).pending ∧ y ≠ zone.toNat) ∧
        (∀ y, y ∈ (t.crew c).aside ↔ y ∈ (s.crew c).aside ∨ y = zone.toNat) ∧
        (t.crew c).attended = (s.crew c).attended ∧ (t.crew c).marks = (s.crew c).marks ∧
        (t.crew c).offer.names zone.toNat = false ∧
        (∀ d, d ≠ c → t.crew d = { s.crew d with flight := (t.crew d).flight }) ∧
        t = { s with nr := t.nr, cl := t.cl, ss := t.ss }))

/-- R96, R97 and R86: RELEASE of an attended zone, and RELEASE_TOP of the attended zone of highest urgency, the
earliest accepted among equals. -/
def Obligations.ReleaseAnswered : Prop :=
  ∀ (s : State) (c : Link), Hands s c →
    (∀ zone : Word16, zone.toNat = 0 ∨ 1023 < zone.toNat → ∃ t, exec (.release c zone) s = .next t ∧
      ArbitersOnly (offerStep c (placeReply c ⟨0x03#8, 0x04#8, []⟩ s)) t) ∧
    (∀ zone : Word16, 1 ≤ zone.toNat → zone.toNat ≤ 1023 → zone.toNat ∉ (s.crew c).attended →
      ∃ t, exec (.release c zone) s = .next t ∧
        ArbitersOnly (offerStep c (placeReply c ⟨0x03#8, 0x03#8, []⟩ s)) t) ∧
    ((s.crew c).attended = [] → ∃ t, exec (.releaseTop c) s = .next t ∧
      ArbitersOnly (offerStep c (placeReply c ⟨0x04#8, 0x03#8, []⟩ s)) t) ∧
    (∀ (i : Instr) (z : Nat) (r : Reply),
      (∃ zone : Word16, i = .release c zone ∧ zone.toNat = z ∧ 1 ≤ z ∧ z ≤ 1023 ∧ z ∈ (s.crew c).attended ∧
        r = ⟨0x03#8, 0x00#8, []⟩) ∨
      (i = .releaseTop c ∧ r = ⟨0x04#8, 0x00#8, nat16 z⟩ ∧ ∃ before after,
        (s.crew c).attended = before ++ z :: after ∧ (∀ y ∈ before, s.urgencyOf y < s.urgencyOf z) ∧
        ∀ y ∈ after, s.urgencyOf y ≤ s.urgencyOf z) →
      ∃ t, exec i s = .next t ∧
        (t.link c).replies = (s.link c).replies ++ [r] ∧
        (t.crew c).attended = (s.crew c).attended.filter (fun y => y != z) ∧
        (t.crew c).pending = (s.crew c).pending ∧
        (∀ y, y ∈ (t.crew c).aside ↔ y ∈ (s.crew c).aside ∨
          y = z ∧ inSectors (s.crew c).live (s.zoneDef z).sector = true) ∧
        (t.crew c).rc = (if (s.profile c).rotation = .auto then z else (s.crew c).rc) ∧
        (∀ y, (t.crew c).mark y = if y = z ∧ (s.crew c).mark z = some .update then none else (s.crew c).mark y) ∧
        (∀ y, t.zone y = if y = z then { s.zone y with attendedBy := (s.zone y).attendedBy.set c false }
          else s.zone y) ∧
        (∀ d, d ≠ c → t.crew d = { s.crew d with flight := (t.crew d).flight }) ∧
        t = { s with zp := { s.zp with live := t.zp.live }, nr := t.nr, cl := t.cl, ss := t.ss })

/-- R88 and R91: an OUT offer that reaches its deadline ends without a mark, its zone stays where it was, and the
offer step follows: the top eligible zone is DUE when the delivery is PUSH and the attended list has room. R98:
POLL by the first case that holds. R91 speaks of the uptime that takes the deadline's value: that a deadline
already passed is due as well is the model's choice (log 7), and so is that the row is the hand-off of the request
(log 5). -/
def Obligations.OfferTimesOutAndPollAnswered : Prop :=
  (∀ (s : State) (c : Link) (z d : Nat), s.running = true → s.attached c = true → (s.crew c).offer = .out z d →
    d ≤ s.uptime →
    ∃ t, exec (.offerTimeout c) s = .next t ∧
      ArbitersOnly (s.setCrew c { s.crew c with
        offer := if (s.profile c).delivery = .push ∧ (s.crew c).attended.length < 8 then
          (match (s.rank c).find? (s.eligible c) with
            | some y => .due y
            | none => .none) else .none }) t) ∧
  (∀ (s : State) (c : Link), Hands s c →
    ((s.profile c).delivery = .push → ∃ t, exec (.poll c) s = .next t ∧
      ArbitersOnly (offerStep c (placeReply c ⟨0x05#8, 0x05#8, []⟩ s)) t) ∧
    ((s.profile c).delivery = .poll → 8 ≤ (s.crew c).attended.length → ∃ t, exec (.poll c) s = .next t ∧
      ArbitersOnly (offerStep c (placeReply c ⟨0x05#8, 0x01#8, []⟩ s)) t) ∧
    ((s.profile c).delivery = .poll → (s.crew c).attended.length < 8 → (s.rank c).find? (s.eligible c) = none →
      ∃ t, exec (.poll c) s = .next t ∧
        ArbitersOnly (offerStep c (placeReply c ⟨0x05#8, 0x06#8, []⟩ s)) t) ∧
    (∀ z, (s.profile c).delivery = .poll → (s.crew c).attended.length < 8 →
      (s.rank c).find? (s.eligible c) = some z →
      ∃ t queued, exec (.poll c) s = .next t ∧ (queued = 0#8 ∨ queued = 1#8) ∧
        (queued = 1#8 ↔ (s.profile c).autoSheet = true ∧
          ∃ i, (s.zoneDef z).primary = some i ∧ (requestSheet c i s).1 = .ok) ∧
        (t.link c).replies = (s.link c).replies ++ [⟨0x05#8, 0x00#8, nat16 z ++ [queued]⟩] ∧
        (∀ y, y ∈ (t.crew c).pending ↔ y ∈ (s.crew c).pending ∧ y ≠ z) ∧
        (t.crew c).attended = (s.crew c).attended ++ [z] ∧ (t.crew c).aside = (s.crew c).aside ∧
        (∀ y, t.zone y = if y = z then { s.zone y with attendedBy := (s.zone y).attendedBy.set c true }
          else s.zone y) ∧
        t = { s with zp := { s.zp with live := t.zp.live }, nr := t.nr, cl := t.cl, ss := t.ss }))

/-- R99, R92 and R190: LIST carries the number of pending zones and the first 16 in rank; a kind the controller does
not know, and a zone request of another payload length than its kind requires, are answered UNKNOWN with the kind
echoed. None changes more than the offer step that follows every request. R100 and R90: SECTORS replaces the live
sector set. The pending and set-aside sets keep the zones inside it, and every active zone inside it that is neither
attended nor set aside is pending; an OUT offer of a zone outside is withdrawn; the SYSTEM due flag is not set. -/
def Obligations.ListSectorsUnknownAnswered : Prop :=
  (∀ (s : State) (c : Link), Hands s c →
    (∃ t, exec (.list c) s = .next t ∧
      ArbitersOnly (offerStep c (placeReply c ⟨0x06#8, 0x00#8,
        nat16 (s.crew c).pending.length ++ byteOf ((s.rank c).take 16).length :: ((s.rank c).take 16).flatMap (fun z =>
          nat16 z ++ [(s.zone z).cond.code, byteOf (s.urgencyOf z),
            byteOf ((s.eligible c z).toNat * 16 + linkBits (s.zone z).attendedBy)])⟩ s)) t) ∧
    (∀ kind payload, kind.toNat = 0 ∨ 10 ≤ kind.toNat → ∃ t, exec (.unknownRequest c kind payload) s = .next t ∧
      ArbitersOnly (offerStep c (placeReply c ⟨kind, 0x07#8, []⟩ s)) t) ∧
    (∀ (kind : Byte) (payload : List Byte),
      (kind = 0x01#8 ∨ kind = 0x02#8 ∨ kind = 0x03#8 ∨ kind = 0x07#8) ∧ payload.length ≠ 2 ∨
        (kind = 0x04#8 ∨ kind = 0x05#8 ∨ kind = 0x06#8) ∧ payload ≠ [] →
      ∃ t, exec (.unknownRequest c kind payload) s = .next t ∧
        ArbitersOnly (offerStep c (placeReply c ⟨kind, 0x07#8, []⟩ s)) t)) ∧
  (∀ (s : State) (c : Link) (w : Word16), Hands s c →
    ∃ t, exec (.sectors c w) s = .next t ∧
      (t.link c).replies = (s.link c).replies ++ [⟨0x07#8, 0x00#8, []⟩] ∧
      (t.crew c).live = w ∧ (t.crew c).attended = (s.crew c).attended ∧
      (∀ z, z ∈ (t.crew c).pending ↔ inSectors w (s.zoneDef z).sector = true ∧
        (z ∈ (s.crew c).pending ∨ s.zoneActive z = true ∧ z ∉ (s.crew c).attended ∧ z ∉ (s.crew c).aside)) ∧
      (∀ z, z ∈ (t.crew c).aside ↔ z ∈ (s.crew c).aside ∧ inSectors w (s.zoneDef z).sector = true) ∧
      (∀ z d, (s.crew c).offer = .out z d → inSectors w (s.zoneDef z).sector = false →
        (t.crew c).offer.names z = false ∧
        ((s.crew c).mark z ≠ some .clear → (s.crew c).mark z ≠ some .isolate →
          (t.crew c).mark z = some .withdrawn)) ∧
      (t.crew c).systemDue = (s.crew c).systemDue ∧ (t.crew c).rc = (s.crew c).rc ∧
      (∀ d, d ≠ c → t.crew d = { s.crew d with flight := (t.crew d).flight }) ∧
      t = { s with nr := t.nr, cl := t.cl, ss := t.ss })

/-! ### Chapter 6: crew links -/

/-- R79, R106, R111, R112 and R114: a DETACHED link whose presence has been high enters ATTACHED: empty FIFOs,
HUNTING, controller-ready high, TX driven and resting at marking (R126), the receiver idle or, with RX at spacing,
waiting for marking; the crew takes its profile's sectors, empty collections and Rc 0, every active zone of its
sectors is pending, and its first notice, begun at once, is SYSTEM. That the row carries the level of RX is log 33;
that a character sent before an earlier detach has left TX is the model's reading (log 23). -/
def Obligations.LinkAttaches : Prop :=
  ∀ (s : State) (c : Link) (rx : Level), s.running = true → (s.link c).state = .detached → (s.link c).presence = true →
    ∃ t, exec (.linkAttach ⟨c, rx⟩) s = .next t ∧
      (t.link c).state = .attached ∧ (t.link c).ctrlReady = .high ∧ (t.link c).tx = .marking ∧
      (t.link c).asm = .hunting ∧
      (t.link c).rx = rx ∧ (t.link c).receiver = (if rx = .spacing then .waitMarking else .idle) ∧
      (t.link c).waiting = [] ∧ (t.link c).replies = [] ∧ (t.link c).rxErrors = (s.link c).rxErrors ∧
      (t.link c).writing.map Writing.owner = some .notice ∧
      (t.crew c).flight = some ⟨.system, 0, false⟩ ∧ (t.crew c).systemDue = true ∧
      (t.crew c).live = (s.profile c).sectors ∧ (t.crew c).attended = [] ∧ (t.crew c).aside = [] ∧
      (t.crew c).rc = 0 ∧ (t.crew c).marks = [] ∧
      (∀ z, z ∈ (t.crew c).pending ↔
        s.zoneActive z = true ∧ inSectors (s.profile c).sectors (s.zoneDef z).sector = true) ∧
      (∀ d, d ≠ c → t.crew d = { s.crew d with flight := (t.crew d).flight }) ∧
      t = { s with nr := t.nr, cl := t.cl, ss := t.ss }

/-- R80, R112, R115 and R143: an ATTACHED link whose presence has been low enters DETACHED: everything it held is
dropped without a count, controller-ready goes low, TX is still driven, finishing its character and then at marking,
the crew is empty and leaves every attended-by set, and its sheet queue and transfer are cleared; a buffer that is
FILLING stays so, discarded. That TX then holds the character last taken is the model's (log 23). -/
def Obligations.LinkDetaches : Prop :=
  ∀ (s : State) (c : Link), s.running = true → (s.link c).state = .attached → (s.link c).presence = false →
    ∃ t, exec (.linkDetach c) s = .next t ∧
      t.link c = { s.link c with state := .detached, ctrlReady := .low, receiver := .idle, asm := .hunting,
                                 waiting := [], replies := [], writing := none, txFifo := [] } ∧
      t.crew c = Crew.empty ∧ (t.slot c).queue = [] ∧ (t.slot c).transfer = none ∧
      (∀ i, ((s.slot c).buf i).state = .filling → ((t.slot c).buf i) = { (s.slot c).buf i with discarded := true }) ∧
      (∀ i, ((s.slot c).buf i).state ≠ .filling →
        ((t.slot c).buf i).state = .empty ∧ ((t.slot c).buf i).discarded = false) ∧
      (∀ z, t.zone z = if z ∈ (s.crew c).attended then
          { s.zone z with attendedBy := (s.zone z).attendedBy.set c false } else s.zone z) ∧
      (∀ d, d ≠ c → t.link d = s.link d ∧ t.crew d = s.crew d ∧ t.slot d = s.slot d) ∧
      t = { s with zp := { s.zp with live := t.zp.live }, nr := t.nr, cl := t.cl,
                   ss := { s.ss with slots := t.ss.slots } }

/-- R113, R126 and R127: the presence and terminal-ready inputs take their levels; that they do so on a DISABLED
link and with the relay CLOSED as well, where R112 and R116 ignore them, is the model's choice (log 11). While
terminal-ready is high the transmitter of an ATTACHED link takes the oldest character, which TX then carries, and
its place is filled in order; while it is low it takes none. R129: the freed place takes the next characters of the
frame being written, all but its last (log 4), whose data bytes move the drain position (R148); with no frame being
written the arbiters choose (R128; log 6). That the transmitter takes a character at a command of its own is the
model's choice (log 23), and so is that the command changes nothing where nothing can be taken (log 1). -/
def Obligations.TransmitterTakesOldest : Prop :=
  ∀ (s : State) (c : Link) (high : Bool),
    exec (.presenceChange c high) s = .next (s.setLink c { s.link c with presence := high }) ∧
    exec (.terminalReadyChange c high) s = .next (s.setLink c { s.link c with termReady := high }) ∧
    ((s.link c).termReady = false → exec (.crewCharacterTaken c) s = .next s) ∧
    (∀ ch rest, s.running = true → (s.link c).state = .attached → (s.link c).termReady = true →
      (s.link c).txFifo = ch :: rest → rest.length < 64 →
      ∃ t more, exec (.crewCharacterTaken c) s = .next t ∧ (t.link c).tx = .sending ch ∧
        (t.link c).txFifo = rest ++ more ∧ (t.link c).txFifo.length ≤ 64 ∧
        (t.link c).replies = (s.link c).replies ∧ (t.link c).waiting = (s.link c).waiting ∧
        ((s.link c).writing = none →
          t = settle (s.setLink c { s.link c with txFifo := rest, tx := .sending ch })) ∧
        (∀ o w k, (s.link c).writing = some ⟨o, w⟩ → k = min (64 - rest.length) (w.length - 1) →
          more = (w.take k).map OutChar.ch ∧ (t.link c).writing = some ⟨o, w.drop k⟩ ∧
          ∃ x, t = settle (x.setLink c { s.link c with txFifo := rest ++ more, tx := .sending ch,
                                                       writing := some ⟨o, w.drop k⟩ }) ∧
            ((o = .reply ∨ o = .notice) → x = s) ∧
            ∀ i, o = .sheet i → x = s.setSlot c ((s.slot c).setBuf i { (s.slot c).buf i with
              drained := ((s.slot c).buf i).drained + ((w.take k).filter OutChar.data).length })) ∧
        t = { s with nr := t.nr, cl := t.cl, ss := t.ss })

/-- R117 and R122: what the assembler of an ATTACHED link does with a good character that neither completes nor
discards a frame. A stored byte that leaves 16 or fewer free places takes controller-ready low, and one stored while
it is low leaves it low. R111: while the receiver waits for marking it forms no character; once the line has
returned to marking it does. That a character command then changes nothing is the model's (logs 1 and 29), and that
the row says whether RX has returned to marking before the character is log 33. That a character command is taken
from an idle receiver as from one that is receiving is the model's choice (log 36). -/
def Obligations.CrewCharacterStored : Prop :=
  ∀ (s : State) (c : Link) (b : Byte), s.running = true → (s.link c).state = .attached →
    ((s.link c).receiver = .waitMarking →
      exec (.crewCharacterReceived c ⟨b, false⟩) s = .next s ∧
      exec (.crewCharacterReceived c ⟨b, true⟩) s =
        exec (.crewCharacterReceived c ⟨b, false⟩)
          (s.setLink c { s.link c with rx := .marking, receiver := .idle })) ∧
    ((s.link c).receiver ≠ .waitMarking → ∀ back,
      ((s.link c).asm = .hunting →
        exec (.crewCharacterReceived c ⟨b, back⟩) s = .next (s.setLink c { s.link c with
          rx := .marking, receiver := .idle,
          asm := if b = 0x7E#8 then .collecting [] false 0xFFFF#16 else .hunting })) ∧
      (∀ esc r, (s.link c).asm = .collecting [] esc r → b = 0x7E#8 →
        exec (.crewCharacterReceived c ⟨b, back⟩) s = .next (s.setLink c { s.link c with
          rx := .marking, receiver := .idle, asm := .collecting [] false 0xFFFF#16 })) ∧
      (∀ buf r, (s.link c).asm = .collecting buf false r → b = 0x7D#8 →
        exec (.crewCharacterReceived c ⟨b, back⟩) s = .next (s.setLink c { s.link c with
          rx := .marking, receiver := .idle, asm := .collecting buf true r })) ∧
      (∀ buf esc r d, (s.link c).asm = .collecting buf esc r → Decodes esc b d → (s.link c).rxHeld < 64 →
        ((s.link c).ctrlReady = .high ∨ (s.link c).ctrlReady = .low ∧ 64 - ((s.link c).rxHeld + 1) < 32) →
        (∀ h l rest, buf ++ [d] = h :: l :: rest →
          1 ≤ num16 h l ∧ num16 h l ≤ 12 ∧ (buf ++ [d]).length ≠ num16 h l + 4) →
        exec (.crewCharacterReceived c ⟨b, back⟩) s = .next (s.setLink c { s.link c with
          rx := .marking, receiver := .idle, asm := .collecting (buf ++ [d]) false (crcByte r d)
          ctrlReady := if (s.link c).ctrlReady = .low ∨ 64 - ((s.link c).rxHeld + 1) ≤ 16 then .low else .high })))

/-- R118, R120, R121 and R124: each discard of a frame in progress counts one receive error and leaves the waiting
requests: the five causes of R118, a byte that finds the FIFO full, and the expiry of the partial-frame timer. R111:
after a framing error the receiver waits for marking. That a character command is taken from an idle receiver as
from one that is receiving is the model's choice (log 36). -/
def Obligations.CrewFrameDiscarded : Prop :=
  ∀ (s : State) (c : Link) (buf : List Byte) (esc : Bool) (r : Word16) (i : Instr) (next : Asm), s.running = true →
    (s.link c).state = .attached → (s.link c).receiver ≠ .waitMarking → (s.link c).asm = .collecting buf esc r →
    ((i = .crewFrameDiscard c .framingError ∧ next = .hunting) ∨
     (i = .crewFrameDiscard c (.good 0x7E#8) ∧ buf ≠ [] ∧ next = .collecting [] false 0xFFFF#16) ∨
     (i = .crewFrameDiscard c (.good 0x7D#8) ∧ esc = true ∧ next = .hunting) ∨
     (∃ b, i = .crewFrameDiscard c (.good b) ∧ esc = true ∧ b ≠ 0x7E#8 ∧ b ≠ 0x7D#8 ∧ b ^^^ 0x20#8 ≠ 0x7E#8 ∧
       b ^^^ 0x20#8 ≠ 0x7D#8 ∧ next = .hunting) ∨
     (∃ b d h l, i = .crewFrameDiscard c (.good b) ∧ Decodes esc b d ∧ buf ++ [d] = [h, l] ∧
       (num16 h l = 0 ∨ 12 < num16 h l) ∧ next = .hunting) ∨
     (∃ b d, i = .receiveOverrun c b ∧ Decodes esc b d ∧ (s.link c).rxHeld = 64 ∧ next = .hunting) ∨
     (i = .crewPartialFrameTimeout c ∧ buf ≠ [] ∧ next = .hunting)) →
    ∃ t, exec i s = .next t ∧ (t.link c).asm = next ∧ (t.link c).rxErrors = bump16 (s.link c).rxErrors ∧
      (t.link c).receiver = (if i = .crewFrameDiscard c .framingError then .waitMarking
        else if i = .crewPartialFrameTimeout c then (s.link c).receiver else .idle) ∧
      (t.link c).waiting = (s.link c).waiting ∧ (t.link c).replies = (s.link c).replies ∧
      (t.link c).txFifo = (s.link c).txFifo ∧ (t.link c).state = .attached ∧ t = s.setLink c (t.link c)

/-- R119, R123 and R125: a complete crew frame whose check does not close is discarded and counted. A sound one
becomes the newest waiting request, and waiting requests are handed in order while the reply queue holds fewer than
4 replies, exactly one reply, echoing its kind, placed for each. One that is handed when it is the only one does
what the row of its kind and payload does (R190); that the row is this hand-off is the model's choice (log 5). That
a character command is taken from an idle receiver as from one that is receiving is the model's choice (log 36). -/
def Obligations.CrewFrameCompletes : Prop :=
  ∀ (s : State) (c : Link) (b : Byte) (frame : List Byte) (reg : Word16), CrewCompletes s c b frame reg →
    (reg ≠ 0 → ∃ t, exec (.crewFrameComplete c b) s = .next t ∧ (t.link c).asm = .hunting ∧
      (t.link c).rxErrors = bump16 (s.link c).rxErrors ∧ (t.link c).waiting = (s.link c).waiting ∧
      (t.link c).replies = (s.link c).replies ∧ t = s.setLink c (t.link c)) ∧
    (reg = 0 → 4 ≤ (s.link c).replies.length → ∃ t, exec (.crewFrameComplete c b) s = .next t ∧
      (t.link c).asm = .hunting ∧ (t.link c).waiting = (s.link c).waiting ++ [frame] ∧
      (t.link c).replies = (s.link c).replies ∧ (t.link c).rxErrors = (s.link c).rxErrors ∧
      t = { s with nr := t.nr, cl := t.cl, ss := t.ss }) ∧
    (reg = 0 → (s.link c).replies.length < 4 → (s.link c).waiting = [] →
      ∃ t rep, exec (.crewFrameComplete c b) s = .next t ∧ (t.link c).asm = .hunting ∧ (t.link c).waiting = [] ∧
        (t.link c).replies = (s.link c).replies ++ [rep] ∧ frame[2]? = some rep.kind ∧
        (t.link c).rxErrors = (s.link c).rxErrors) ∧
    (reg = 0 → ∃ t, exec (.crewFrameComplete c b) s = .next t ∧ (t.link c).asm = .hunting ∧
      HandedInOrder (s.link c).replies ((s.link c).waiting ++ [frame]) (t.link c) ∧
      (t.link c).rxErrors = (s.link c).rxErrors) ∧
    (∀ h l kind payload x y i, reg = 0 → (s.link c).replies.length < 4 → (s.link c).waiting = [] →
      frame = h :: l :: kind :: (payload ++ [x, y]) → crewRequestOf i = some (c, kind, payload) →
      exec (.crewFrameComplete c b) s = exec i (s.setLink c { s.link c with
        rx := .marking, receiver := .idle, asm := .hunting
        ctrlReady := if (s.link c).ctrlReady = .highZ then .highZ else .high }))

/-- R89, R107, R125, R129 and R149: the last character of the frame being written enters the transmit FIFO. A reply
leaves its queue; a SYSTEM notice clears its flag and a mark's notice its mark, unless set again since; an OFFER of
a pending zone goes OUT; a span's completion moves the transfer on, or ends it after the final span. The requests
that wait are handed in order as replies leave (R123). The arbiters then choose (log 6). R128, R106 and R148: a
link's arbiter begins no frame while the link is not ATTACHED, a frame is being written or the transmit FIFO has no
place; otherwise it begins the oldest reply, or the first due notice with the content of R108 to R110, or the SHEET
frame of the FULL buffer whose turn it is, which becomes DRAINING, or none. R129: the writer fills the places that
are free with the characters of the frame. That the last character enters at a command of its own is the model's
choice (log 4). -/
def Obligations.FrameWrittenCompletes : Prop :=
  (∀ (s : State) (c : Link) (o : Owner) (ch : OutChar), s.running = true → (s.link c).writing = some ⟨o, [ch]⟩ →
    (s.link c).txFifo.length < 64 →
    ∃ t, exec (.crewFrameWritten c) s = .next t ∧
      (∃ more, (t.link c).txFifo = (s.link c).txFifo ++ ch.ch :: more) ∧
      (∃ x, t = settle x ∧ (x.link c).writing = none ∧ (x.link c).txFifo = (s.link c).txFifo ++ [ch.ch]) ∧
      (o = .reply → (s.link c).state = .attached →
        HandedInOrder ((s.link c).replies.drop 1) (s.link c).waiting (t.link c)) ∧
      (o = .reply → (s.link c).waiting = [] → (t.link c).replies = (s.link c).replies.drop 1) ∧
      (∀ renewed, o = .notice → (s.crew c).flight = some ⟨.system, 0, renewed⟩ →
        (t.crew c).systemDue = ((s.crew c).systemDue && renewed)) ∧
      (∀ m z renewed, o = .notice → (s.crew c).flight = some ⟨.mark m, z, renewed⟩ →
        ∀ y, (t.crew c).mark y = if y = z ∧ (s.crew c).mark z = some m ∧ renewed = false then none
          else (s.crew c).mark y) ∧
      (∀ z renewed, o = .notice → (s.crew c).flight = some ⟨.offer, z, renewed⟩ → z ∈ (s.crew c).pending →
        (t.crew c).offer = .out z (s.uptime + s.config.offerTimeout)) ∧
      (∀ i tr, o = .sheet i → ((s.slot c).buf i).discarded = false → ((s.slot c).buf i).final = false →
        (s.slot c).transfer = some tr →
        (t.slot c).queue = (s.slot c).queue ∧ (t.slot c).transfer.map Transfer.sheet = some tr.sheet ∧
        (t.slot c).transfer.map Transfer.drainSpan = some (tr.drainSpan + 1)) ∧
      (∀ i, o = .sheet i → ((s.slot c).buf i).discarded = false → ((s.slot c).buf i).final = true →
        ((s.slot c).queue = [] → (t.slot c).transfer = none) ∧
        (∀ j rest, (s.slot c).queue = j :: rest →
          (t.slot c).queue = rest ∧ (t.slot c).transfer.map Transfer.sheet = some j ∧
          (t.slot c).transfer.map Transfer.drainSpan = some 0))) ∧
  (∀ (s : State) (c : Link), Tab.wf none (s.crew c).marks = true →
    (¬ MayBegin s c → linkArbiter c s = s) ∧
    (MayBegin s c →
      (∀ r rest, (s.link c).replies = r :: rest → ∃ t n, linkArbiter c s = t ∧ t = s.setLink c (t.link c) ∧
        FrameBegun (s.link c) (t.link c) .reply (frameLine 0x40#8 (r.kind :: r.result :: r.data)) n) ∧
      ((s.link c).replies = [] → ∀ k z, FirstDue s c k z → ∃ t n kind payload, linkArbiter c s = t ∧
        NoticeSays s c k z kind payload ∧
        t = (s.setCrew c { s.crew c with flight := some ⟨k, z, false⟩ }).setLink c (t.link c) ∧
        FrameBegun (s.link c) (t.link c) .notice (frameLine kind payload) n) ∧
      ((s.link c).replies = [] → NothingDue s c →
        (∀ tr i x, (s.slot c).transfer = some tr → i = bufOf tr.drainSpan → x = (s.slot c).buf i → x.state = .full →
          x.span = tr.drainSpan → ∃ t n d header, linkArbiter c s = t ∧ SheetSays tr x header ∧
            DataWritten header x.bytes n d ∧
            t = (s.setSlot c ((s.slot c).setBuf i { x with state := .draining, drained := x.drained + d })).setLink c
              (t.link c) ∧
            FrameBegun (s.link c) (t.link c) (.sheet i) (frameLine 0x47#8 (header ++ x.bytes)) n ∧
            ∀ w, (t.link c).writing = some w → (w.rest.filter OutChar.data).length = x.bytes.length - d) ∧
        ((∀ tr, (s.slot c).transfer = some tr → ¬ (((s.slot c).buf (bufOf tr.drainSpan)).state = .full ∧
            ((s.slot c).buf (bufOf tr.drainSpan)).span = tr.drainSpan)) → linkArbiter c s = s))))

/-! ### Chapter 7: plan sheets -/

/-- R139, R140 and R190: sheet requests by id and by zone, by their tests. A request by zone judges the primary
field and then the secondary, each by tests 2 to 5 of R139, and is answered with how many were queued, started or
absorbed, none included. A SHEET_REQ of another length, of another form byte or, by id, of a sheet id of 512 or more
is answered UNKNOWN and changes nothing. -/
def Obligations.SheetRequestAnswered : Prop :=
  ∀ (s : State) (c : Link) (i : Word16), Hands s c →
    (512 ≤ i.toNat → ∃ t, exec (.sheetReqById c i) s = .next t ∧
      ArbitersOnly (placeReply c ⟨0x08#8, 0x07#8, []⟩ s) t) ∧
    (∀ payload : List Byte,
      (payload.length ≠ 3 ∨ ∃ form h l : Byte, payload = [form, h, l] ∧
        (2 ≤ form.toNat ∨ form = 0x00#8 ∧ 512 ≤ num16 h l)) →
      ∃ t, exec (.unknownRequest c 0x08#8 payload) s = .next t ∧
        ArbitersOnly (placeReply c ⟨0x08#8, 0x07#8, []⟩ s) t) ∧
    (i.toNat < 512 → s.config.planPages = 0 → ∃ t, exec (.sheetReqById c i) s = .next t ∧
      ArbitersOnly (placeReply c ⟨0x08#8, 0x0A#8, []⟩ s) t) ∧
    (i.toNat < 512 → s.config.planPages ≠ 0 → s.sheetAvailable i.toNat = false →
      ∃ t, exec (.sheetReqById c i) s = .next t ∧ ArbitersOnly (placeReply c ⟨0x08#8, 0x08#8, []⟩ s) t) ∧
    (i.toNat < 512 → s.sheetAvailable i.toNat = true →
      (i.toNat ∈ (s.slot c).queue ∨ (s.slot c).transfer.map Transfer.sheet = some i.toNat) →
      ∃ t, exec (.sheetReqById c i) s = .next t ∧ ArbitersOnly (placeReply c ⟨0x08#8, 0x00#8, []⟩ s) t) ∧
    (i.toNat < 512 → s.sheetAvailable i.toNat = true → i.toNat ∉ (s.slot c).queue →
      (s.slot c).transfer.map Transfer.sheet ≠ some i.toNat → 4 ≤ (s.slot c).queue.length →
      ∃ t, exec (.sheetReqById c i) s = .next t ∧ ArbitersOnly (placeReply c ⟨0x08#8, 0x09#8, []⟩ s) t) ∧
    (i.toNat < 512 → s.sheetAvailable i.toNat = true → i.toNat ∉ (s.slot c).queue →
      (s.slot c).transfer.map Transfer.sheet ≠ some i.toNat → (s.slot c).queue.length < 4 →
      ∃ t, exec (.sheetReqById c i) s = .next t ∧
        (t.link c).replies = (s.link c).replies ++ [⟨0x08#8, 0x00#8, []⟩] ∧
        ((s.slot c).transfer ≠ none → (t.slot c).queue = (s.slot c).queue ++ [i.toNat] ∧
          (t.slot c).transfer.map Transfer.sheet = (s.slot c).transfer.map Transfer.sheet) ∧
        ((s.slot c).transfer = none → (s.slot c).queue = [] →
          (t.slot c).queue = [] ∧ (t.slot c).transfer.map Transfer.sheet = some i.toNat ∧
          (t.slot c).transfer.map Transfer.drainSpan = some 0) ∧
        t = { s with nr := t.nr, cl := t.cl, ss := t.ss }) ∧
    ((i.toNat = 0 ∨ 1023 < i.toNat) → ∃ t, exec (.sheetReqByZone c i) s = .next t ∧
      ArbitersOnly (placeReply c ⟨0x08#8, 0x04#8, []⟩ s) t) ∧
    (1 ≤ i.toNat → i.toNat ≤ 1023 → s.config.planPages = 0 → ∃ t, exec (.sheetReqByZone c i) s = .next t ∧
      ArbitersOnly (placeReply c ⟨0x08#8, 0x0A#8, []⟩ s) t) ∧
    (1 ≤ i.toNat → i.toNat ≤ 1023 → s.config.planPages ≠ 0 →
      ∃ t s1 s2 n1 n2, exec (.sheetReqByZone c i) s = .next t ∧ FieldJudged c (s.zoneDef i.toNat).primary s s1 n1 ∧
        FieldJudged c (s.zoneDef i.toNat).secondary s1 s2 n2 ∧
        ArbitersOnly (placeReply c ⟨0x08#8, 0x00#8, [byteOf (n1 + n2)]⟩ s2) t) ∧
    (1 ≤ i.toNat → i.toNat ≤ 1023 → s.config.planPages ≠ 0 → (s.zoneDef i.toNat).primary = none →
      (s.zoneDef i.toNat).secondary = none → ∃ t, exec (.sheetReqByZone c i) s = .next t ∧
        ArbitersOnly (placeReply c ⟨0x08#8, 0x00#8, [0x00#8]⟩ s) t) ∧
    (∀ j, 1 ≤ i.toNat → i.toNat ≤ 1023 → s.config.planPages ≠ 0 → (s.zoneDef i.toNat).primary = some j →
      (s.zoneDef i.toNat).secondary = some j → s.sheetAvailable j = true → (s.slot c).queue = [] →
      (s.slot c).transfer = none → ∃ t, exec (.sheetReqByZone c i) s = .next t ∧
        (t.link c).replies = (s.link c).replies ++ [⟨0x08#8, 0x00#8, [0x02#8]⟩] ∧
        (t.slot c).queue = [] ∧ (t.slot c).transfer.map Transfer.sheet = some j)

/-- R141, R142 and R138: a stop of a named sheet takes it from the queue, or aborts the active transfer, after which
the next sheet starts; a sheet in neither is answered NOT_FOUND. A stop of all leaves no queue and no transfer; of
the aborted transfer's buffers a FILLING or DRAINING one stays so, discarded, and a FULL one becomes EMPTY. What an
EMPTY buffer holds beyond its state and its clear discarded flag is the model's choice (log 34). R190: a SHEET_STOP
of another length, of another form byte, of a sheet id of 512 or more, or of all with a nonzero id is answered
UNKNOWN and changes nothing. -/
def Obligations.SheetStopAnswered : Prop :=
  ∀ (s : State) (c : Link) (i : Word16), Hands s c →
    (i.toNat < 512 → i.toNat ∈ (s.slot c).queue → ∃ t, exec (.sheetStopNamed c i) s = .next t ∧
      (t.link c).replies = (s.link c).replies ++ [⟨0x09#8, 0x00#8, []⟩] ∧
      (t.slot c).queue = (s.slot c).queue.filter (fun j => j != i.toNat) ∧
      (t.slot c).transfer.map Transfer.sheet = (s.slot c).transfer.map Transfer.sheet) ∧
    (i.toNat < 512 → i.toNat ∉ (s.slot c).queue → (s.slot c).transfer.map Transfer.sheet = some i.toNat →
      ∃ t, exec (.sheetStopNamed c i) s = .next t ∧
        (t.link c).replies = (s.link c).replies ++ [⟨0x09#8, 0x00#8, []⟩] ∧
        (t.slot c).queue = (s.slot c).queue.drop 1 ∧
        (t.slot c).transfer.map Transfer.sheet = (s.slot c).queue.head?) ∧
    (i.toNat < 512 → i.toNat ∉ (s.slot c).queue → (s.slot c).transfer.map Transfer.sheet ≠ some i.toNat →
      ∃ t, exec (.sheetStopNamed c i) s = .next t ∧ ArbitersOnly (placeReply c ⟨0x09#8, 0x0B#8, []⟩ s) t) ∧
    (512 ≤ i.toNat → ∃ t, exec (.sheetStopNamed c i) s = .next t ∧
      ArbitersOnly (placeReply c ⟨0x09#8, 0x07#8, []⟩ s) t) ∧
    (∀ payload : List Byte,
      (payload.length ≠ 3 ∨ ∃ form h l : Byte, payload = [form, h, l] ∧
        (2 ≤ form.toNat ∨ form = 0x00#8 ∧ 512 ≤ num16 h l ∨ form = 0x01#8 ∧ num16 h l ≠ 0)) →
      ∃ t, exec (.unknownRequest c 0x09#8 payload) s = .next t ∧
        ArbitersOnly (placeReply c ⟨0x09#8, 0x07#8, []⟩ s) t) ∧
    (∃ t, exec (.sheetStopAll c) s = .next t ∧
      (t.link c).replies = (s.link c).replies ++ [⟨0x09#8, 0x00#8, []⟩] ∧
      (t.slot c).queue = [] ∧ (t.slot c).transfer = none ∧
      ((s.slot c).transfer ≠ none → ∀ k, ((s.slot c).buf k).state = .filling →
        (t.slot c).buf k = { (s.slot c).buf k with discarded := true }) ∧
      ((s.slot c).transfer ≠ none → ∀ k, ((s.slot c).buf k).state = .draining →
        (t.slot c).buf k = { (s.slot c).buf k with discarded := true }) ∧
      ((s.slot c).transfer ≠ none → ∀ k, ((s.slot c).buf k).state = .full → (t.slot c).buf k = SpanBuf.emptied) ∧
      t = { s with nr := t.nr, cl := t.cl, ss := t.ss })

/-- R146 and R147: a fill read that completes fills its buffer with the page's bytes; one that fails enters a MEMORY
fault and counts it; a discarded buffer takes neither and becomes EMPTY, whatever transfer waits for it. Each is
followed by the arbiters' choices, the plan reader's and then each link's (log 6). R144, R145 and R147 say what the
plan reader's arbiter chooses: first a fault due is entered whose buffer is EMPTY. A BUSY reader then stays; an IDLE
one begins the management operation that waits; otherwise it grants a fill to the first crew that qualifies after
the last crew granted, in the cyclic order, reading its next page within the bound and entering a RANGE fault beyond
it, after which it chooses again. What an EMPTY buffer holds beyond its state and its clear discarded flag is the
model's choice (log 34). -/
def Obligations.FillReadEnds : Prop :=
  (∀ (s : State) (c : Link) (i : BufId) (k page len : Nat), s.running = true →
    s.ss.reader = some (.fill c i k page len) →
    (((s.slot c).buf i).discarded = false →
      (∃ t, exec .fillReadComplete s = .next t ∧
        ((t.slot c).buf i).bytes = readPlanRange s.planMem (page * 256) len ∧ ((t.slot c).buf i).span = k ∧
        (((t.slot c).buf i).state = .full ∨ ((t.slot c).buf i).state = .draining) ∧
        ((t.slot c).buf i).fault = none ∧
        (∀ tr, (s.slot c).transfer = some tr → (((t.slot c).buf i).final = true ↔ k + 1 = tr.count)) ∧
        t.ss.planFaults = s.ss.planFaults ∧ t = { s with nr := t.nr, cl := t.cl, ss := t.ss }) ∧
      (∃ t, exec .fillReadFail s = .next t ∧
        ((t.slot c).buf i).bytes = [] ∧ ((t.slot c).buf i).span = k ∧ ((t.slot c).buf i).final = true ∧
        ((t.slot c).buf i).fault = some .memory ∧
        (∀ tr, (s.slot c).transfer = some tr → (t.slot c).transfer.map Transfer.remaining = some 0) ∧
        t.ss.planFaults = bump16 s.ss.planFaults ∧ t = { s with nr := t.nr, cl := t.cl, ss := t.ss }) ∧
      (∀ tr, (s.slot c).transfer = some tr →
        exec .fillReadComplete s = .next (settle (({ s with ss := { s.ss with reader := none } } : State).setSlot c
          ((s.slot c).setBuf i { state := .full, span := k, bytes := readPlanRange s.planMem (page * 256) len,
                                 drained := 0, final := k + 1 == tr.count, fault := none, discarded := false }))) ∧
        exec .fillReadFail s = .next (settle (withFault c tr i k .memory
          { s with ss := { s.ss with reader := none, planFaults := bump16 s.ss.planFaults } })))) ∧
    (((s.slot c).buf i).discarded = true → ∀ e, e = .fillReadComplete ∨ e = .fillReadFail →
      exec e s = .next (settle (({ s with ss := { s.ss with reader := none } } : State).setSlot c
        ((s.slot c).setBuf i SpanBuf.emptied))) ∧
      ((s.slot c).transfer = none → ∃ t, exec e s = .next t ∧ (t.slot c).buf i = SpanBuf.emptied ∧
        t.ss.planFaults = s.ss.planFaults ∧ t = { s with nr := t.nr, cl := t.cl, ss := t.ss }))) ∧
  (∀ s : State,
    settle s = linkArbiter .l4 (linkArbiter .l3 (linkArbiter .l2 (linkArbiter .l1 (readerArbiter s)))) ∧
    (∀ c tr cause, FaultEnters s c tr cause →
      readerArbiter s = readerArbiter (withFault c tr (bufOf tr.drainSpan) tr.drainSpan cause s)) ∧
    ((∀ c tr cause, ¬ FaultEnters s c tr cause) →
      (s.ss.reader ≠ none → readerArbiter s = s) ∧
      (s.ss.reader = none → ∀ op, s.ss.waiting = some op →
        readerArbiter s = { s with ss := { s.ss with waiting := none, reader := some (match op with
          | .commit p => .program p (stagedBytes s.ss.staging)
          | .save bytes => .program 0 bytes
          | .read p o n => .read p o n) } }) ∧
      (s.ss.reader = none → s.ss.waiting = none → (∀ c, ¬ Qualifies s c) → readerArbiter s = s) ∧
      (∀ c tr k, s.ss.reader = none → s.ss.waiting = none → GrantedNext s c → (s.slot c).transfer = some tr →
        k = tr.count - tr.remaining →
        (tr.nextPage < s.config.planPages → ∃ t, readerArbiter s = t ∧
          t.ss.reader =
            some (.fill c (bufOf k) k tr.nextPage (if tr.remaining = 1 then tr.lastLen else 256)) ∧
          t.ss.lastGranted = c ∧ (t.slot c).queue = (s.slot c).queue ∧
          (t.slot c).transfer = some { tr with nextPage := tr.nextPage + 1, remaining := tr.remaining - 1 } ∧
          ((t.slot c).buf (bufOf k)).state = .filling ∧ ((t.slot c).buf (bufOf k)).span = k ∧
          ((t.slot c).buf (bufOf k)).discarded = false ∧
          (∀ i, i ≠ bufOf k → (t.slot c).buf i = (s.slot c).buf i) ∧ (∀ d, d ≠ c → t.slot d = s.slot d) ∧
          t = { s with ss := { s.ss with slots := t.ss.slots, reader := t.ss.reader, lastGranted := c } }) ∧
        (s.config.planPages ≤ tr.nextPage →
          readerArbiter s =
            readerArbiter (withFault c tr (bufOf k) k .range { s with ss := { s.ss with lastGranted := c } })))))

/-- R154 to R156 and R159: a program that completes writes its page and no other byte; one that fails leaves every
other byte and counts a plan fault; a page read changes no byte. Each gives its reply, and no request is then in
progress. -/
def Obligations.MemoryOperationEnds : Prop :=
  ∀ (s : State) (q : InProgress), s.running = true → s.mr = some q →
    (∀ pg bytes, s.ss.reader = some (.program pg bytes) → bytes.length = 256 →
      (∃ t, exec (.programComplete true) s = .next t ∧ t.mr = none ∧
        (∀ a, readPlan t.planMem a =
          if pg * 256 ≤ a ∧ a < pg * 256 + 256 then bytes.getD (a - pg * 256) 0 else readPlan s.planMem a) ∧
        t.ti = (reply q.requester q.id .ok [] s).ti ∧ t.ss.planFaults = s.ss.planFaults ∧
        ArbitersOnly { s with ti := t.ti, ss := { s.ss with reader := none }, mr := none, planMem := t.planMem } t) ∧
      (∃ t, exec (.programComplete false) s = .next t ∧ t.mr = none ∧
        (∀ a, ¬ (pg * 256 ≤ a ∧ a < pg * 256 + 256) → readPlan t.planMem a = readPlan s.planMem a) ∧
        t.ti = (reply q.requester q.id .memoryFault [] s).ti ∧ t.ss.planFaults = bump16 s.ss.planFaults)) ∧
    (∀ pg o n, s.ss.reader = some (.read pg o n) →
      (∃ t, exec (.planReadComplete true) s = .next t ∧
        t.ti = (reply q.requester q.id .ok (readPlanRange s.planMem (pg * 256 + o) n) s).ti ∧
        ArbitersOnly { s with ti := t.ti, ss := { s.ss with reader := none }, mr := none } t) ∧
      (∃ t, exec (.planReadComplete false) s = .next t ∧
        t.ti = (reply q.requester q.id .memoryFault [] s).ti ∧
        ArbitersOnly { s with ti := t.ti, mr := none,
                              ss := { s.ss with reader := none, planFaults := bump16 s.ss.planFaults } } t))

/-! ### Chapter 8: management -/

/-- R157 and R158: the first failing test decides, for every management row: NOT_ALLOWED, BUSY, UNKNOWN_OP,
BAD_TABLE, and BAD_VALUE for arguments of another length than the operation requires. The reply is the only effect.
R12: a MGMT_REQUEST frame for the own node, no copy, on an UP port is the request of its row; one too short for an
id and an operation is discarded without a reply. -/
def Obligations.RequestRefused : Prop :=
  (∀ (s : State) (i : Instr) (src : Byte) (id : Word16) (op : Byte) (args : List Byte), s.running = true →
    requestOf i = some (src, id, op, args) →
    (s.admitted src = false → ∃ t, exec i s = .next t ∧ ArbitersOnly (reply src id .notAllowed [] s) t) ∧
    (s.admitted src = true → s.mr ≠ none → ∃ t, exec i s = .next t ∧ ArbitersOnly (reply src id .busy [] s) t) ∧
    (Serves s src → (op.toNat = 0 ∨ 16 ≤ op.toNat) →
      ∃ t, exec i s = .next t ∧ ArbitersOnly (reply src id .unknownOp [] s) t) ∧
    (∀ code rest, Serves s src → (op = 0x01#8 ∨ op = 0x02#8) → args = code :: rest →
      (code.toNat = 0 ∨ 8 ≤ code.toNat) →
      ∃ t, exec i s = .next t ∧ ArbitersOnly (reply src id .badTable [] s) t) ∧
    (∀ n, Serves s src → (op.toNat, n) ∈ [(3, 7), (4, 3), (5, 0), (7, 2), (8, 4), (9, 2), (10, 1), (11, 0), (12, 3),
        (13, 1), (14, 1), (15, 0)] → args.length ≠ n →
      ∃ t, exec i s = .next t ∧ ArbitersOnly (reply src id .badValue [] s) t)) ∧
  (∀ (s : State) (p : Port) (b : Byte) (f : Frame), ArrivesNew s p b f → f.kind = 0x20#8 → f.dst.toNat = s.config.own →
    (f.payload.length < 3 →
      ∃ u t, exec (.trunkFrameComplete p b) s = .next t ∧ PassedOn s u p f ∧ ArbitersOnly u t) ∧
    (∀ (i : Instr) (h l op : Byte) (args : List Byte), f.payload = h :: l :: op :: args →
      requestOf i = some (f.src, word16 h l, op, args) →
      ∃ u, PassedOn s u p f ∧ exec (.trunkFrameComplete p b) s = exec i u))

/-- R161: while a zone is in ALARM or VERIFYING, the operations the alarm lock covers are answered LOCKED and change
nothing. -/
def Obligations.AlarmLockRefuses : Prop :=
  ∀ (s : State) (src : Byte) (id : Word16) (i : Instr), Serves s src → s.lockHolds = true →
    ((∃ e : MapEntry, i = .mapInsert src id e.bytes) ∨ (∃ n h l, i = .mapDelete src id [n, h, l]) ∨
     i = .mapClear src id [] ∨ (∃ h l, i = .planCommit src id [h, l]) ∨ i = .configSave src id [] ∨
     (∃ h l, ∃ e : MapEntry, i = .tableWritePointMap src id (h :: l :: e.bytes)) ∨
     (∃ h l y z, i = .tableWriteNodeFallback src id [h, l, y, z]) ∨
     (∃ h l, ∃ d : ZoneDef, d.inRange = true ∧ i = .tableWriteZoneDefinition src id (h :: l :: d.bytes)) ∨
     (∃ h l b, i = .tableWriteHazardBonus src id [h, l, b]) ∨
     (∃ h l, ∃ r : SheetRec, r.inRange = true ∧ i = .tableWriteSheetDirectory src id (h :: l :: r.bytes)) ∨
     (∃ h l, ∃ t : ConfigTable, i = .tableWriteConfiguration src id (h :: l :: t.bytes))) →
    ∃ t, exec i s = .next t ∧ ArbitersOnly (reply src id .locked [] s) t

/-- R24: MAP_INSERT by its three tests; the new entry takes its sorted place, and the reply carries the index. -/
def Obligations.MapInsertAnswered : Prop :=
  ∀ (s : State) (src : Byte) (id : Word16) (n f1 f2 l1 l2 z1 z2 : Byte), Serves s src → s.lockHolds = false →
    ∀ e : MapEntry, e = ⟨n.toNat, num16 f1 f2, num16 l1 l2, num16 z1 z2⟩ →
    ∀ InRange Shares : Prop,
    (InRange ↔ 1 ≤ e.node ∧ e.node ≤ 120 ∧ e.first ≤ e.last ∧ e.last ≤ 511 ∧ 1 ≤ e.zone ∧ e.zone ≤ 1023) →
    (Shares ↔ ∃ x ∈ s.tables.map, x.node = e.node ∧ x.first ≤ e.last ∧ e.first ≤ x.last) →
    (¬ InRange → ∃ t, exec (.mapInsert src id [n, f1, f2, l1, l2, z1, z2]) s = .next t ∧
      ArbitersOnly (reply src id .badValue [] s) t) ∧
    (InRange → Shares → ∃ t, exec (.mapInsert src id [n, f1, f2, l1, l2, z1, z2]) s = .next t ∧
      ArbitersOnly (reply src id .overlap [] s) t) ∧
    (InRange → ¬ Shares → 2048 ≤ s.tables.map.length →
      ∃ t, exec (.mapInsert src id [n, f1, f2, l1, l2, z1, z2]) s = .next t ∧
        ArbitersOnly (reply src id .full [] s) t) ∧
    (InRange → ¬ Shares → s.tables.map.length < 2048 →
      ∃ t k, exec (.mapInsert src id [n, f1, f2, l1, l2, z1, z2]) s = .next t ∧
        k = (s.tables.map.filter (fun x =>
          decide (x.node < e.node) || (x.node == e.node && decide (x.first < e.first)))).length ∧
        t.tables = { s.tables with map := s.tables.map.take k ++ e :: s.tables.map.drop k } ∧
        t.sc = { s.sc with markCheck := t.tables.check } ∧ t.ti = (reply src id .ok (nat16 k) s).ti ∧
        ArbitersOnly { s with ti := t.ti, tables := t.tables, sc := t.sc } t)

/-- R25 and R27: MAP_DELETE removes the entry that begins at the point named, whose points then fall to the node's
fallback entry; MAP_CLEAR removes every entry, and every point does. -/
def Obligations.MapDeleteAndClearAnswered : Prop :=
  ∀ (s : State) (src : Byte) (id : Word16) (n h l : Byte), Serves s src → s.lockHolds = false →
    ((n.toNat = 0 ∨ 120 < n.toNat ∨ 511 < num16 h l) → ∃ t, exec (.mapDelete src id [n, h, l]) s = .next t ∧
      ArbitersOnly (reply src id .badValue [] s) t) ∧
    (1 ≤ n.toNat → n.toNat ≤ 120 → num16 h l ≤ 511 →
      (∀ x ∈ s.tables.map, ¬ (x.node = n.toNat ∧ x.first = num16 h l)) →
      ∃ t, exec (.mapDelete src id [n, h, l]) s = .next t ∧ ArbitersOnly (reply src id .notFound [] s) t) ∧
    (∀ before e after, 1 ≤ n.toNat → n.toNat ≤ 120 → num16 h l ≤ 511 → MapOrdered s.tables.map →
      s.tables.map = before ++ e :: after → e.node = n.toNat → e.first = num16 h l →
      ∃ t, exec (.mapDelete src id [n, h, l]) s = .next t ∧
        t.tables = { s.tables with map := before ++ after } ∧ t.sc = { s.sc with markCheck := t.tables.check } ∧
        t.ti = (reply src id .ok [] s).ti ∧
        (∀ q, e.first ≤ q → q ≤ e.last → t.resolve e.node q = Tab.get 0 s.tables.fallback e.node) ∧
        ArbitersOnly { s with ti := t.ti, tables := t.tables, sc := t.sc } t) ∧
    (∃ t, exec (.mapClear src id []) s = .next t ∧ t.tables = { s.tables with map := [] } ∧
      t.sc = { s.sc with markCheck := t.tables.check } ∧ t.ti = (reply src id .ok [] s).ti ∧
      (∀ m q, t.resolve m q = Tab.get 0 s.tables.fallback m) ∧
      ArbitersOnly { s with ti := t.ti, tables := t.tables, sc := t.sc } t)

/-- R26: TABLE_WRITE to the point map by its tests, on a map in order: an entry that stands between its neighbours
replaces entry i, and every other entry keeps its index. R28: TABLE_WRITE to the node fallback table by its tests;
with 0 the node has no fallback zone, and its uncovered points are orphans. -/
def Obligations.MapAndFallbackWriteAnswered : Prop :=
  (∀ (s : State) (src : Byte) (id : Word16) (h l : Byte) (e : MapEntry), Serves s src → s.lockHolds = false →
    MapOrdered s.tables.map → e.node < 256 → e.first < 65536 → e.last < 65536 → e.zone < 65536 →
    (s.tables.map.length ≤ num16 h l → ∃ t, exec (.tableWritePointMap src id (h :: l :: e.bytes)) s = .next t ∧
      ArbitersOnly (reply src id .badIndex [] s) t) ∧
    (num16 h l < s.tables.map.length →
      ¬ (1 ≤ e.node ∧ e.node ≤ 120 ∧ e.first ≤ e.last ∧ e.last ≤ 511 ∧ 1 ≤ e.zone ∧ e.zone ≤ 1023) →
      ∃ t, exec (.tableWritePointMap src id (h :: l :: e.bytes)) s = .next t ∧
        ArbitersOnly (reply src id .badValue [] s) t) ∧
    (num16 h l < s.tables.map.length → e.inRange = true → ¬ MapOrdered (s.tables.map.set (num16 h l) e) →
      ∃ t, exec (.tableWritePointMap src id (h :: l :: e.bytes)) s = .next t ∧
        ArbitersOnly (reply src id .overlap [] s) t) ∧
    (num16 h l < s.tables.map.length → e.inRange = true → MapOrdered (s.tables.map.set (num16 h l) e) →
      ∃ t, exec (.tableWritePointMap src id (h :: l :: e.bytes)) s = .next t ∧
        t.tables = { s.tables with map := s.tables.map.set (num16 h l) e } ∧
        t.sc = { s.sc with markCheck := t.tables.check } ∧ t.ti = (reply src id .ok [] s).ti ∧
        ArbitersOnly { s with ti := t.ti, tables := t.tables, sc := t.sc } t)) ∧
  (∀ (s : State) (src : Byte) (id : Word16) (h l y z : Byte), Serves s src → s.lockHolds = false →
    ((num16 h l = 0 ∨ 120 < num16 h l) → ∃ t, exec (.tableWriteNodeFallback src id [h, l, y, z]) s = .next t ∧
      ArbitersOnly (reply src id .badIndex [] s) t) ∧
    (1 ≤ num16 h l → num16 h l ≤ 120 → 1023 < num16 y z →
      ∃ t, exec (.tableWriteNodeFallback src id [h, l, y, z]) s = .next t ∧
        ArbitersOnly (reply src id .badValue [] s) t) ∧
    (1 ≤ num16 h l → num16 h l ≤ 120 → num16 y z ≤ 1023 →
      ∃ t, exec (.tableWriteNodeFallback src id [h, l, y, z]) s = .next t ∧
        (∀ n, Tab.get 0 t.tables.fallback n = if n = num16 h l then num16 y z else Tab.get 0 s.tables.fallback n) ∧
        t.tables = { s.tables with fallback := t.tables.fallback } ∧
        t.sc = { s.sc with markCheck := t.tables.check } ∧ t.ti = (reply src id .ok [] s).ti ∧
        (num16 y z = 0 → ∀ e : PointEvent, e.node = num16 h l →
          (∀ m ∈ t.tables.map, m.node = e.node → ¬ (m.first ≤ e.point ∧ e.point ≤ m.last)) →
          pointEvent e t = { t with orphans := bump16 t.orphans }) ∧
        ArbitersOnly { s with ti := t.ti, tables := t.tables, sc := t.sc } t))

/-- R34, R134 and R164: TABLE_WRITE to the zone definitions and to the sheet directory, by their
tests, a field out of its range or of a reserved value BAD_VALUE among them. -/
def Obligations.RecordWriteAnswered : Prop :=
  ∀ (s : State) (src : Byte) (id : Word16) (h l : Byte), Serves s src → s.lockHolds = false →
    (∀ b0 fl sec p1 p2 q1 q2 n : Byte, ∀ label : List Byte, 1 ≤ num16 h l → num16 h l ≤ 1023 →
      (b0 &&& 0x3C#8 ≠ 0 ∨ (128 ≤ fl.toNat ∧ fl.toNat ≤ 247) ∨ sec.toNat = 0 ∨ 16 < sec.toNat ∨
        (512 ≤ num16 p1 p2 ∧ num16 p1 p2 ≠ 65535) ∨ (512 ≤ num16 q1 q2 ∧ num16 q1 q2 ≠ 65535) ∨
        label.length ≠ n.toNat ∨ 24 < n.toNat ∨ ∃ x ∈ label, x.toNat < 0x20 ∨ 0x7E < x.toNat) →
      ∃ t, exec (.tableWriteZoneDefinition src id (h :: l :: b0 :: fl :: sec :: p1 :: p2 :: q1 :: q2 :: n :: label)) s
          = .next t ∧ ArbitersOnly (reply src id .badValue [] s) t) ∧
    (∀ x1 x2 n y1 y2 fl : Byte, num16 h l ≤ 511 →
      (x1 &&& 0x48#8 ≠ 0 ∨ n.toNat = 0 ∨ 64 < n.toNat ∨ num16 y1 y2 = 0 ∨ 256 < num16 y1 y2 ∨
        (128 ≤ fl.toNat ∧ fl.toNat ≤ 247)) →
      ∃ t, exec (.tableWriteSheetDirectory src id [h, l, x1, x2, n, y1, y2, fl]) s = .next t ∧
        ArbitersOnly (reply src id .badValue [] s) t) ∧
    (∀ d : ZoneDef, d.inRange = true →
      ((num16 h l = 0 ∨ 1023 < num16 h l) →
        ∃ t, exec (.tableWriteZoneDefinition src id (h :: l :: d.bytes)) s = .next t ∧
          ArbitersOnly (reply src id .badIndex [] s) t) ∧
      (1 ≤ num16 h l → num16 h l ≤ 1023 → (s.zone (num16 h l)).cond ≠ .quiet →
        ∃ t, exec (.tableWriteZoneDefinition src id (h :: l :: d.bytes)) s = .next t ∧
          ArbitersOnly (reply src id .inUse [] s) t) ∧
      (1 ≤ num16 h l → num16 h l ≤ 1023 → (s.zone (num16 h l)).cond = .quiet →
        ∃ t, exec (.tableWriteZoneDefinition src id (h :: l :: d.bytes)) s = .next t ∧
          (∀ z, t.zoneDef z = if z = num16 h l then d else s.zoneDef z) ∧
          t.tables = { s.tables with defs := t.tables.defs } ∧ t.sc = { s.sc with markCheck := t.tables.check } ∧
          t.ti = (reply src id .ok [] s).ti ∧ ArbitersOnly { s with ti := t.ti, tables := t.tables, sc := t.sc } t)) ∧
    (∀ r : SheetRec, r.inRange = true →
      (511 < num16 h l →
        ∃ t, exec (.tableWriteSheetDirectory src id (h :: l :: r.bytes)) s = .next t ∧
          ArbitersOnly (reply src id .badIndex [] s) t) ∧
      (num16 h l ≤ 511 → r.defined = true → (r.first = 0 ∨ s.config.planPages < r.first + r.count) →
        ∃ t, exec (.tableWriteSheetDirectory src id (h :: l :: r.bytes)) s = .next t ∧
          ArbitersOnly (reply src id .badValue [] s) t) ∧
      (num16 h l ≤ 511 → (r.defined = true → 1 ≤ r.first ∧ r.first + r.count ≤ s.config.planPages) →
        ∃ t, exec (.tableWriteSheetDirectory src id (h :: l :: r.bytes)) s = .next t ∧
          (∀ i, t.sheet i = if i = num16 h l then r else s.sheet i) ∧
          t.tables = { s.tables with dir := t.tables.dir } ∧ t.sc = { s.sc with markCheck := t.tables.check } ∧
          t.ti = (reply src id .ok [] s).ti ∧
          ArbitersOnly { s with ti := t.ti, tables := t.tables, sc := t.sc } t))

/-- R167, R78 and R88: TABLE_WRITE to a crew profile, open under the lock: an attached crew's offer step follows,
by which an OUT offer stands and any other offer becomes DUE for the top eligible zone, or NONE; its live sector
set stays, and so does every other crew. R158 and R169 to R170: a reserved bit, another length and a field out of
its range are answered BAD_VALUE. R73: a configuration write recomputes every active zone whose class takes
another bonus. R170: when the own node changes, the reply leaves under the old address, which becomes the former
own node. -/
def Obligations.ProfileAndConfigWriteAnswered : Prop :=
  ∀ (s : State) (src : Byte) (id : Word16) (h l : Byte), Serves s src →
    (∀ c, ∀ entry : List Byte, linkOfNat (num16 h l) = some c →
      (entry.length ≠ 3 ∨ ∃ x y b : Byte, entry = [x, y, b] ∧ 16 ≤ b.toNat) →
      ∃ t, exec (.tableWriteCrewProfile src id (h :: l :: entry)) s = .next t ∧
        ArbitersOnly (reply src id .badValue [] s) t) ∧
    (∀ p : Profile,
      ((num16 h l = 0 ∨ 4 < num16 h l) → ∃ t, exec (.tableWriteCrewProfile src id (h :: l :: p.bytes)) s = .next t ∧
        ArbitersOnly (reply src id .badIndex [] s) t) ∧
      (∀ c, linkOfNat (num16 h l) = some c →
        ∃ t, exec (.tableWriteCrewProfile src id (h :: l :: p.bytes)) s = .next t ∧
          (∀ d, t.profile d = if d = c then p else s.profile d) ∧
          t.tables = { s.tables with profiles := t.tables.profiles } ∧
          t.sc = { s.sc with markCheck := t.tables.check } ∧ t.ti = (reply src id .ok [] s).ti ∧
          (∀ d, t.crew d = { s.crew d with offer := (t.crew d).offer, flight := (t.crew d).flight }) ∧
          (∀ d, d ≠ c ∨ s.attached c = false ∨ (∃ z e, (s.crew c).offer = .out z e) →
            (t.crew d).offer = (s.crew d).offer) ∧
          (s.attached c = true → (∀ z e, (s.crew c).offer ≠ .out z e) → (t.crew c).offer =
            if p.delivery = .push ∧ (s.crew c).attended.length < 8 then
              (match (s.rank c).find? (t.eligible c) with
                | some z => .due z
                | none => .none) else .none) ∧
          ArbitersOnly { s with ti := t.ti, tables := t.tables, sc := t.sc, nr := t.nr } t)) ∧
    (∀ entry : List Byte, s.lockHolds = false → num16 h l = 0 →
      (entry.length ≠ 13 ∨ ∃ a b c d e f g k0 k1 k2 k3 p1 p2 : Byte,
        entry = [a, b, c, d, e, f, g, k0, k1, k2, k3, p1, p2] ∧
        (a.toNat = 0 ∨ 120 < a.toNat ∨ b.toNat = 0 ∨ 120 < b.toNat ∨ 120 < c.toNat ∨ d.toNat < 10 ∨ 120 < d.toNat ∨
          f.toNat < 5 ∨ 60 < f.toNat ∨ g.toNat < 10 ∨ 120 < g.toNat ∨ 80 < k0.toNat ∨ 80 < k1.toNat ∨
          80 < k2.toNat ∨ 80 < k3.toNat ∨ 2048 < num16 p1 p2)) →
      ∃ t, exec (.tableWriteConfiguration src id (h :: l :: entry)) s = .next t ∧
        ArbitersOnly (reply src id .badValue [] s) t) ∧
    (∀ k : ConfigTable, s.lockHolds = false →
      (num16 h l ≠ 0 → k.inRange = true →
        ∃ t, exec (.tableWriteConfiguration src id (h :: l :: k.bytes)) s = .next t ∧
          ArbitersOnly (reply src id .badIndex [] s) t) ∧
      (num16 h l = 0 → k.inRange = true → (k.own = k.panel ∨ k.maint ≠ 0 ∧ k.own = k.maint) →
        ∃ t, exec (.tableWriteConfiguration src id (h :: l :: k.bytes)) s = .next t ∧
          ArbitersOnly (reply src id .badValue [] s) t) ∧
      (num16 h l = 0 → k.inRange = true → k.own ≠ k.panel → (k.maint ≠ 0 → k.own ≠ k.maint) →
        ∃ t, exec (.tableWriteConfiguration src id (h :: l :: k.bytes)) s = .next t ∧
          t.tables = { s.tables with config := k } ∧ t.sc = { s.sc with markCheck := t.tables.check } ∧
          t.ti = { (reply src id .ok [] s).ti with
            former := if k.own = s.config.own then s.ti.former else some s.config.own } ∧
          (∀ z, t.zone z = { s.zone z with urgency := (t.zone z).urgency }) ∧
          (∀ z, s.zoneActive z = true → k.bonus (s.zoneDef z).hazard ≠ s.config.bonus (s.zoneDef z).hazard →
            (t.zone z).urgency = some (t.urgencyValue z)) ∧
          (∀ c, (t.crew c).pending = (s.crew c).pending ∧ (t.crew c).attended = (s.crew c).attended ∧
            (t.crew c).aside = (s.crew c).aside) ∧
          ArbitersOnly { s with ti := t.ti, tables := t.tables, sc := t.sc, zp := { s.zp with live := t.zp.live },
                                ageSteps := t.ageSteps, nr := t.nr } t))

/-- R29, R163 and R164: TABLE_READ answers with the entry as it stands, or BAD_INDEX, in any condition of the zones,
and changes nothing. -/
def Obligations.TableReadAnswered : Prop :=
  ∀ (s : State) (src : Byte) (id : Word16) (h l : Byte), Serves s src →
    (∀ e, s.tables.map[num16 h l]? = some e → ∃ t, exec (.tableRead src id [0x01#8, h, l]) s = .next t ∧
      ArbitersOnly (reply src id .ok (e.bytes ++ nat16 s.tables.map.length) s) t) ∧
    (s.tables.map.length ≤ num16 h l → ∃ t, exec (.tableRead src id [0x01#8, h, l]) s = .next t ∧
      ArbitersOnly (reply src id .badIndex [] s) t) ∧
    (1 ≤ num16 h l → num16 h l ≤ 120 → ∃ t, exec (.tableRead src id [0x02#8, h, l]) s = .next t ∧
      ArbitersOnly (reply src id .ok (nat16 (Tab.get 0 s.tables.fallback (num16 h l))) s) t) ∧
    (1 ≤ num16 h l → num16 h l ≤ 1023 → ∃ t, exec (.tableRead src id [0x03#8, h, l]) s = .next t ∧
      ArbitersOnly (reply src id .ok (s.zoneDef (num16 h l)).bytes s) t) ∧
    (num16 h l ≤ 3 → ∃ t, exec (.tableRead src id [0x04#8, h, l]) s = .next t ∧
      ArbitersOnly (reply src id .ok [byteOf (s.config.bonus (num16 h l))] s) t) ∧
    (num16 h l ≤ 511 → ∃ t, exec (.tableRead src id [0x05#8, h, l]) s = .next t ∧
      ArbitersOnly (reply src id .ok (s.sheet (num16 h l)).bytes s) t) ∧
    (∀ c, linkOfNat (num16 h l) = some c → ∃ t, exec (.tableRead src id [0x06#8, h, l]) s = .next t ∧
      ArbitersOnly (reply src id .ok (s.profile c).bytes s) t) ∧
    (num16 h l = 0 → ∃ t, exec (.tableRead src id [0x07#8, h, l]) s = .next t ∧
      ArbitersOnly (reply src id .ok s.config.bytes s) t) ∧
    (∀ k, (k = 0x02#8 ∧ (num16 h l = 0 ∨ 120 < num16 h l) ∨ k = 0x03#8 ∧ (num16 h l = 0 ∨ 1023 < num16 h l) ∨
        k = 0x04#8 ∧ 3 < num16 h l ∨ k = 0x05#8 ∧ 511 < num16 h l ∨
        k = 0x06#8 ∧ (num16 h l = 0 ∨ 4 < num16 h l) ∨ k = 0x07#8 ∧ num16 h l ≠ 0) →
      ∃ t, exec (.tableRead src id [k, h, l]) s = .next t ∧ ArbitersOnly (reply src id .badIndex [] s) t)

/-- R152, R153, R155, R159 and R175: PLAN_STAGE writes the staging buffer; an accepted PLAN_COMMIT, PLAN_READ or
CONFIG_SAVE becomes the request in progress without a reply, and an IDLE reader begins it at once, while a BUSY one
keeps it waiting. -/
def Obligations.PlanRequestAnswered : Prop :=
  ∀ (s : State) (src : Byte) (id : Word16) (h l o n : Byte), Serves s src →
    (∀ data : List Byte, 1 ≤ data.length → data.length ≤ 32 →
      (256 < o.toNat + data.length → ∃ t, exec (.planStage src id (o :: data)) s = .next t ∧
        ArbitersOnly (reply src id .badValue [] s) t) ∧
      (o.toNat + data.length ≤ 256 → ∃ t, exec (.planStage src id (o :: data)) s = .next t ∧
        (∀ j, Tab.get 0xFF#8 t.ss.staging j =
          if o.toNat ≤ j ∧ j < o.toNat + data.length then data.getD (j - o.toNat) 0
          else Tab.get 0xFF#8 s.ss.staging j) ∧
        t.ti = (reply src id .ok [] s).ti ∧
        ArbitersOnly { s with ti := t.ti, ss := { s.ss with staging := t.ss.staging } } t)) ∧
    (s.lockHolds = false → (num16 h l = 0 ∨ s.config.planPages ≤ num16 h l) →
      ∃ t, exec (.planCommit src id [h, l]) s = .next t ∧ ArbitersOnly (reply src id .badIndex [] s) t) ∧
    (s.lockHolds = false → 1 ≤ num16 h l → num16 h l < s.config.planPages → s.pageInUse (num16 h l) = true →
      ∃ t, exec (.planCommit src id [h, l]) s = .next t ∧ ArbitersOnly (reply src id .inUse [] s) t) ∧
    (num16 h l ≠ 0 → s.config.planPages ≤ num16 h l →
      ∃ t, exec (.planRead src id [h, l, o, n]) s = .next t ∧ ArbitersOnly (reply src id .badIndex [] s) t) ∧
    ((num16 h l = 0 ∨ num16 h l < s.config.planPages) →
      (n.toNat = 0 ∨ 32 < n.toNat ∨ 256 < o.toNat + n.toNat) →
      ∃ t, exec (.planRead src id [h, l, o, n]) s = .next t ∧ ArbitersOnly (reply src id .badValue [] s) t) ∧
    (∀ (i : Instr) (op : Byte) (w : WaitingOp) (r : ReaderOp),
      (s.lockHolds = false ∧ 1 ≤ num16 h l ∧ num16 h l < s.config.planPages ∧ s.pageInUse (num16 h l) = false ∧
        i = .planCommit src id [h, l] ∧ op = 0x07#8 ∧ w = .commit (num16 h l) ∧
        r = .program (num16 h l) (stagedBytes s.ss.staging)) ∨
      ((num16 h l = 0 ∨ num16 h l < s.config.planPages) ∧ 1 ≤ n.toNat ∧ n.toNat ≤ 32 ∧ o.toNat + n.toNat ≤ 256 ∧
        i = .planRead src id [h, l, o, n] ∧ op = 0x08#8 ∧ w = .read (num16 h l) o.toNat n.toNat ∧
        r = .read (num16 h l) o.toNat n.toNat) ∨
      (s.lockHolds = false ∧ i = .configSave src id [] ∧ op = 0x0F#8 ∧ w = .save (configPage s.config) ∧
        r = .program 0 (configPage s.config)) →
      ∃ t, exec i s = .next t ∧ t.mr = some ⟨src, id, op⟩ ∧
        (s.ss.reader = none → t.ss.reader = some r ∧ t.ss.waiting = none) ∧
        (∀ b, s.ss.reader = some b → t.ss.reader = some b ∧ t.ss.waiting = some w) ∧
        t = { s with nr := t.nr, cl := t.cl, ss := t.ss, mr := t.mr })

/-- R62, R176, R177 and R178: ZONE_READ answers the zone's live record, or BAD_INDEX; STATUS_READ answers the status
record, and with the mark sets every counter it carries to zero after the copy, and nothing else. The reply is
placed after the clear, by R13 as any own frame: that a reply dropped at a full own-frame queue counts there from
zero, so that its drop count is then 1 (R18, R178), is the model's reading (log 21). -/
def Obligations.RecordsRead : Prop :=
  ∀ (s : State) (src : Byte) (id : Word16) (h l : Byte), Serves s src →
    ((num16 h l = 0 ∨ 1023 < num16 h l) → ∃ t, exec (.zoneRead src id [h, l]) s = .next t ∧
      ArbitersOnly (reply src id .badIndex [] s) t) ∧
    (1 ≤ num16 h l → num16 h l ≤ 1023 → ∃ t, exec (.zoneRead src id [h, l]) s = .next t ∧
      ArbitersOnly (reply src id .ok (s.zoneRecord (num16 h l)) s) t) ∧
    (∃ t, exec (.statusRead src id [0x00#8]) s = .next t ∧ ArbitersOnly (reply src id .ok s.statusRecord s) t) ∧
    (∃ t, exec (.statusRead src id [0x01#8]) s = .next t ∧
      (∀ p, (s.port p).ownQueue.length < 4 → (t.port p).counters = PortCounters.zero ∧
        ∃ f : Frame, f.dst = src ∧ f.payload = be16 id ++ 0x00#8 :: s.statusRecord ∧
          (t.port p).ownQueue = (s.port p).ownQueue ++ [f]) ∧
      t.ti = (reply src id .ok s.statusRecord (clearCounters s)).ti ∧
      t.orphans = 0 ∧ t.ss.planFaults = 0 ∧ (∀ c, (t.link c).rxErrors = 0) ∧
      t.sc = { s.sc with resyncTimeouts := 0 } ∧
      ArbitersOnly { s with ti := t.ti, orphans := 0, ss := { s.ss with planFaults := 0 },
                            cl := ⟨{ s.cl.v1 with rxErrors := 0 }, { s.cl.v2 with rxErrors := 0 },
                                   { s.cl.v3 with rxErrors := 0 }, { s.cl.v4 with rxErrors := 0 }⟩,
                            sc := { s.sc with resyncTimeouts := 0 } } t)

/-- R86, R173: SET_ROTATION by its tests, whatever the lock; on an ATTACHED link it sets Rc and the offer step
follows, on any other it changes nothing. R112, R116, R174: LINK_DISABLE and LINK_ENABLE, answered OK in every state
of the link: a link disabled has both outputs, TX and controller-ready, at high impedance, the character being sent
cut; one enabled is DETACHED with TX held at marking and controller-ready low. R80, R115 and R143: a link that
leaves ATTACHED by LINK_DISABLE drops what it holds; its crew is empty and leaves every attended-by set, with no
other change of a zone or of another crew; a FILLING buffer stays so, discarded, and any other becomes EMPTY. -/
def Obligations.RotationAndLinkCommandsAnswered : Prop :=
  ∀ (s : State) (src : Byte) (id : Word16) (n h l : Byte), Serves s src →
    ((n.toNat = 0 ∨ 4 < n.toNat) → ∀ i, i = .setRotation src id [n, h, l] ∨ i = .linkDisable src id [n] ∨
        i = .linkEnable src id [n] → ∃ t, exec i s = .next t ∧ ArbitersOnly (reply src id .badIndex [] s) t) ∧
    (∀ c, linkOfNat n.toNat = some c →
      (1023 < num16 h l → ∃ t, exec (.setRotation src id [n, h, l]) s = .next t ∧
        ArbitersOnly (reply src id .badValue [] s) t) ∧
      (num16 h l ≤ 1023 → s.attached c = true → ∃ t, exec (.setRotation src id [n, h, l]) s = .next t ∧
        ArbitersOnly (reply src id .ok [] (offerStep c (s.setCrew c { s.crew c with rc := num16 h l }))) t) ∧
      (num16 h l ≤ 1023 → s.attached c = false → ∃ t, exec (.setRotation src id [n, h, l]) s = .next t ∧
        ArbitersOnly (reply src id .ok [] s) t) ∧
      ((s.link c).state = .disabled →
        (∃ t, exec (.linkDisable src id [n]) s = .next t ∧ ArbitersOnly (reply src id .ok [] s) t) ∧
        (∃ t, exec (.linkEnable src id [n]) s = .next t ∧
          ArbitersOnly (reply src id .ok [] (s.setLink c { s.link c with
            state := .detached, ctrlReady := .low, tx := .marking })) t)) ∧
      ((s.link c).state = .detached → ∃ t, exec (.linkDisable src id [n]) s = .next t ∧
        (t.link c).state = .disabled ∧ (t.link c).ctrlReady = .highZ ∧ (t.link c).tx = .highZ ∧
        t.crew c = { s.crew c with flight := (t.crew c).flight } ∧ t.ti = (reply src id .ok [] s).ti) ∧
      ((s.link c).state = .attached → ∃ t, exec (.linkDisable src id [n]) s = .next t ∧
        (t.link c).state = .disabled ∧ (t.link c).ctrlReady = .highZ ∧ (t.link c).tx = .highZ ∧
        (t.link c).waiting = [] ∧ (t.link c).replies = [] ∧ (t.link c).txFifo = [] ∧ (t.link c).writing = none ∧
        (t.link c).receiver = .idle ∧ (t.link c).asm = .hunting ∧
        (t.link c).rxErrors = (s.link c).rxErrors ∧ t.crew c = Crew.empty ∧ (t.slot c).queue = [] ∧
        (t.slot c).transfer = none ∧
        (∀ i, ((s.slot c).buf i).state = .filling → (t.slot c).buf i = { (s.slot c).buf i with discarded := true }) ∧
        (∀ i, ((s.slot c).buf i).state ≠ .filling →
          ((t.slot c).buf i).state = .empty ∧ ((t.slot c).buf i).discarded = false) ∧
        (∀ z, t.zone z = if z ∈ (s.crew c).attended then
            { s.zone z with attendedBy := (s.zone z).attendedBy.set c false } else s.zone z) ∧
        (∀ d, d ≠ c → t.crew d = { s.crew d with flight := (t.crew d).flight }) ∧
        t.ti = (reply src id .ok [] s).ti ∧
        t = { s with ti := t.ti, zp := { s.zp with live := t.zp.live }, nr := t.nr, cl := t.cl, ss := t.ss }) ∧
      ((s.link c).state ≠ .disabled → ∃ t, exec (.linkEnable src id [n]) s = .next t ∧
        ArbitersOnly (reply src id .ok [] s) t))

/-- R175, R182 and 10.4: the page that CONFIG_SAVE builds loads back, at a cold start, as the table it was built
from. R163 and 10.3: an entry of a table is read back in the form in which it is written: reading the bytes of an
entry in range gives the entry. -/
def Obligations.ConfigAndEntriesReadBack : Prop :=
  (∀ (k : ConfigTable), k.inRange = true → k.nodesDiffer = true →
    (configPage k).length = 256 ∧ judgePage ((configPage k).take 16) = (k, .page)) ∧
  ((∀ e : MapEntry, e.inRange = true → readMapEntry e.bytes = some e) ∧
  (∀ d : ZoneDef, d.inRange = true → readZoneDef d.bytes = some d) ∧
  (∀ r : SheetRec, r.inRange = true → readSheetRec r.bytes = some r) ∧
  (∀ p : Profile, readProfile p.bytes = some p) ∧
  (∀ k : ConfigTable, k.inRange = true → readConfig k.bytes = some k))

/-! ### Chapter 9: start-up, holdover and time -/

/-- R187 and R188: uptime rises by one and nothing else changes; a TIME_MARK sets the offset to panel time minus
uptime modulo 2^32, so that panel time as reported is the panel's until uptime next rises. R185: a resync ends at
its timeout, which is counted, or at a RESYNC_DONE taken while RESYNCING; every attached crew is then owed a SYSTEM
notice. A RESYNC_DONE taken in another status changes nothing. R12: a TIME_MARK or RESYNC_DONE frame of the panel
node, no copy, on an UP port does this. That uptime moves only at UPTIME_TICK is the model's choice (log 2), and so
is that an expiry already passed is due (log 7). -/
def Obligations.TimeAndResyncKept : Prop :=
  (∀ (s : State) (p : Port) (b : Byte) (f : Frame), ArrivesNew s p b f →
    (∀ w, f.kind = 0x13#8 → readTimeMark f.payload = some w →
      ∃ u t, exec (.trunkFrameComplete p b) s = .next t ∧ PassedOn s u p f ∧ ArbitersOnly (timeMark w u) t) ∧
    (f.kind = 0x15#8 → f.payload = [] →
      ∃ u t, exec (.trunkFrameComplete p b) s = .next t ∧ PassedOn s u p f ∧ ArbitersOnly (resyncDone u) t)) ∧
  (∀ (s : State), s.running = true →
    (s.uptime < 4294967295 →
      exec .uptimeTick s = .next { s with tb := { s.tb with uptime := s.uptime + 1 } }) ∧
    (∀ w : Word32, (timeMark w s).tb.known = true ∧ (timeMark w s).panelTimeOf s.uptime = w ∧
      (timeMark w s).uptime = s.uptime ∧ timeMark w s = { s with tb := (timeMark w s).tb }) ∧
    (s.tb.known = false → ∀ u, s.panelTimeOf u = 0)) ∧
  (∀ (s : State) (u : Nat), s.running = true →
    (s.sc.expiry = some u → u ≤ s.uptime → s.sc.status = .resyncing →
      ∃ t, exec .resyncTimeout s = .next t ∧
        t.sc = { s.sc with status := .current, expiry := none, resyncTimeouts := bump16 s.sc.resyncTimeouts } ∧
        (∀ c, (t.crew c).systemDue = ((s.crew c).systemDue || s.attached c)) ∧
        ArbitersOnly { s with sc := t.sc, nr := t.nr } t) ∧
    (s.sc.status = .resyncing →
      (resyncDone s).sc = { s.sc with status := .current, expiry := none } ∧
      (∀ c, ((resyncDone s).crew c).systemDue = ((s.crew c).systemDue || s.attached c)) ∧
      resyncDone s = { s with sc := (resyncDone s).sc, nr := (resyncDone s).nr }) ∧
    (s.sc.status ≠ .resyncing → resyncDone s = s))

/-- R17, R61, R179, R181, R182 and R183: a start closes the relay, takes both outputs of every link to high
impedance (R116) and finds the tables survived exactly when the marker word is intact and the check agrees; its
completion, in whatever state it finds the start in progress, keeps the tables of a warm start, gives a loaded
configuration to a cold one, starts every block, opens the relay and calls the first resync (R184), with every link
DETACHED, TX at marking and controller-ready low (R112). A cold start gives the tables their cold values. What
stands between START and START_COMPLETE is the model's choice (log 19), and so is what an EMPTY span buffer holds
beyond its state and its clear discarded flag (log 34). A start that cuts a program leaves every byte outside the
cut page (R159, R132; log 14). -/
def Obligations.StartRuns : Prop :=
  (∀ (s : State),
    ∃ t, exec .start s = .next t ∧ t.ti.relay = .closed ∧
      (∀ c, (t.link c).tx = .highZ ∧ (t.link c).ctrlReady = .highZ) ∧
      (∀ a, OutsideProgram s a → readPlan t.planMem a = readPlan s.planMem a) ∧
      ((∀ pg bytes, s.ss.reader ≠ some (.program pg bytes)) → t.planMem = s.planMem) ∧
      (t.sc.kind = .warm ↔ s.sc.markIntact = true ∧ s.tables.check = s.sc.markCheck) ∧
      (t.sc.kind = .warm → t.tables = s.tables) ∧
      ∀ ok, ∃ u, exec (.startComplete ok) t = .next u ∧ Started u ∧ u.sc.kind = t.sc.kind ∧
        (t.sc.kind = .warm → u.tables = s.tables) ∧
        (t.sc.kind = .cold →
          u.tables.map = [] ∧ u.tables.fallback = [] ∧ u.tables.defs = [] ∧ u.tables.dir = [] ∧
          (∀ c, u.profile c = Profile.cold) ∧
          (u.tables.config, u.tables.source) =
            (if ok then judgePage (readPlanRange t.planMem 0 16) else (ConfigTable.default, .default)) ∧
          u.sc.markIntact = true) ∧
        u.sc.markCheck = u.tables.check) ∧
  (∀ (s : State) (ok : Bool), s.sc.mainPower = true → s.ti.relay = .closed →
    ∃ u, exec (.startComplete ok) s = .next u ∧ Started u ∧ u.sc.kind = s.sc.kind ∧ u.planMem = s.planMem ∧
      (s.sc.kind = .warm → u.tables = s.tables ∧ u.sc.markIntact = s.sc.markIntact ∧ u.sc.markCheck = s.sc.markCheck) ∧
      (s.sc.kind = .cold → u.sc.markIntact = true ∧ u.sc.markCheck = u.tables.check ∧
        ∀ k source,
          (k, source) = (if ok then judgePage (readPlanRange s.planMem 0 16) else (ConfigTable.default, .default)) →
          u.tables = { s.tables with config := k, source := source }))

/-- R17 and R180: losing main power closes the relay and loses the working state of every block, not the tables, the
plan memory outside a program that it cuts (R132, R159), nor the mark, and takes both outputs of every link to high
impedance (R116); the holdover monitor destroys the marker word only while main power is absent, and the next start
is then cold. Until that start no other command but a change of an input's level changes anything. That nothing acts
while the relay is CLOSED is the model's choice (log 1), and so is the state that is left (log 19), with what an
EMPTY span buffer holds beyond its state and its clear discarded flag (log 34). -/
def Obligations.PowerLost : Prop :=
  (∀ (s : State), s.sc.mainPower = false →
    exec .holdoverLow s = .next { s with sc := { s.sc with markIntact := false } } ∧ exec .mainPowerLoss s = .next s) ∧
  ∀ (s : State), s.sc.mainPower = true →
    exec .holdoverLow s = .next s ∧
    ∃ t, exec .mainPowerLoss s = .next t ∧ t.running = false ∧ t.tables = s.tables ∧
      (∀ a, OutsideProgram s a → readPlan t.planMem a = readPlan s.planMem a) ∧ WorkingLost t ∧
      t.sc.markIntact = s.sc.markIntact ∧ t.sc.markCheck = s.sc.markCheck ∧ t.sc.mainPower = false ∧
      (∀ i, ¬ ActsWhileClosed i → exec i t = .next t) ∧ exec .mainPowerLoss t = .next t ∧
      (∀ ok, exec (.startComplete ok) t = .next t) ∧
      (∀ p l, exec (.trunkReceiveLevelChange p l) t = .next (t.setPort p { t.port p with level := lineTo l })) ∧
      ∃ u v, exec .holdoverLow t = .next u ∧ u = { t with sc := { t.sc with markIntact := false } } ∧
        exec .start u = .next v ∧ v.sc.kind = .cold

/-! ### What every step keeps -/

/-- At State.reset every invariant below holds (R183). State.reset is the model's choice of start (log 12). -/
def Obligations.ResetMeetsInvariants : Prop :=
  TablesInv State.reset ∧ MarkInv State.reset ∧ PortsInv State.reset ∧ LinksInv State.reset ∧
  CollectionsInv State.reset ∧ CrewsInv State.reset ∧ SheetQueueInv State.reset ∧ PictureInv State.reset ∧
  FloorInv State.reset ∧ CanonInv State.reset

/-- R19, R20, R33, R133, R168, R169 and R182: every retained table stays within its ranges, the point map in order
and without shared points. -/
def Obligations.StepKeepsTablesInRange : Prop := ∀ s t : State, TablesInv s → step s = .next t → TablesInv t

/-- R180 and R181: between events the mark's check agrees with the retained tables. The check is taken over a free
byte image of the tables (log 15). -/
def Obligations.StepKeepsMark : Prop := ∀ s t : State, MarkInv s → step s = .next t → MarkInv t

/-- R9, R13 and R14: no trunk queue exceeds 4 frames, and a transmitter is free only while it has nothing to send. -/
def Obligations.StepKeepsTrunkQueues : Prop := ∀ s t : State, PortsInv s → step s = .next t → PortsInv t

/-- R77 and R93: the three collections of a crew have no zone in common, and its attended list holds at most 8 zones,
none twice. R77, R81, R83 and R87: a zone's attended-by set holds exactly the crews that attend it, a pending zone is
active and of a live sector, an attended or set-aside zone is active, and an offer names a pending zone. -/
def Obligations.StepKeepsCollections : Prop :=
  (∀ s t : State, CollectionsInv s → step s = .next t → CollectionsInv t) ∧
  (∀ s t : State, LinksInv s → PictureInv s → CrewsInv s → step s = .next t → CrewsInv t)

/-- R77, R112, R117, R125, R126 and R135: every FIFO and queue of a link stays within its size, and a link that is
not ATTACHED holds nothing. R112: TX and controller-ready are at high impedance exactly while the link is DISABLED,
and controller-ready is low while it is DETACHED; that a link is DISABLED until a start completes (R116) is log 19.
R135: a crew's sheet queue holds at most 4 sheets, none twice and none in transfer, and none while the slot is
empty. -/
def Obligations.StepKeepsLinkQueues : Prop :=
  (∀ s t : State, LinksInv s → step s = .next t → LinksInv t) ∧
  (∀ s t : State, SheetQueueInv s → step s = .next t → SheetQueueInv t)

/-- R36, R37, R46, R51 and R69: every zone's condition is the derived one, with its alarm entry uptime, deadline and
urgency present exactly where they should be. -/
def Obligations.StepKeepsPicture : Prop := ∀ s t : State, PictureInv s → step s = .next t → PictureInv t

/-- R59: every floor alarm count equals the number of zones in ALARM on its floor. -/
def Obligations.StepKeepsFloorCounts : Prop :=
  ∀ s t : State, PictureInv s → TablesInv s → FloorInv s → step s = .next t → FloorInv t

/-- Every table, the plan memory and the staging buffer keep their canonical form, so that equal contents are equal
data. The form is the model's own. -/
def Obligations.StepKeepsCanonicalForm : Prop := ∀ s t : State, CanonInv s → step s = .next t → CanonInv t
end

