-- ==== Sys2Proof/Laws/State.lean ====
section
/-! SUPPORT. One lemma for each field of State and each update that leaves it as it was, and what each reader gives after
each writer: no later proof unfolds a record update. -/

namespace Sys2Proof.Machine

/-! ### setPort -/

@[simp] theorem State.setPort_tables (s : State) (p : Port) (u : PortUnit) : (s.setPort p u).tables = s.tables := rfl
@[simp] theorem State.setPort_orphans (s : State) (p : Port) (u : PortUnit) : (s.setPort p u).orphans = s.orphans := rfl
@[simp] theorem State.setPort_zp (s : State) (p : Port) (u : PortUnit) : (s.setPort p u).zp = s.zp := rfl
@[simp] theorem State.setPort_ageSteps (s : State) (p : Port) (u : PortUnit) :
    (s.setPort p u).ageSteps = s.ageSteps := rfl
@[simp] theorem State.setPort_nr (s : State) (p : Port) (u : PortUnit) : (s.setPort p u).nr = s.nr := rfl
@[simp] theorem State.setPort_cl (s : State) (p : Port) (u : PortUnit) : (s.setPort p u).cl = s.cl := rfl
@[simp] theorem State.setPort_ss (s : State) (p : Port) (u : PortUnit) : (s.setPort p u).ss = s.ss := rfl
@[simp] theorem State.setPort_mr (s : State) (p : Port) (u : PortUnit) : (s.setPort p u).mr = s.mr := rfl
@[simp] theorem State.setPort_tb (s : State) (p : Port) (u : PortUnit) : (s.setPort p u).tb = s.tb := rfl
@[simp] theorem State.setPort_sc (s : State) (p : Port) (u : PortUnit) : (s.setPort p u).sc = s.sc := rfl
@[simp] theorem State.setPort_planMem (s : State) (p : Port) (u : PortUnit) : (s.setPort p u).planMem = s.planMem := rfl
@[simp] theorem State.setPort_fresh (s : State) (p : Port) (u : PortUnit) : (s.setPort p u).fresh = s.fresh := rfl
@[simp] theorem State.setPort_pending (s : State) (p : Port) (u : PortUnit) : (s.setPort p u).pending = s.pending := rfl
@[simp] theorem State.setPort_ti_relay (s : State) (p : Port) (u : PortUnit) :
    (s.setPort p u).ti.relay = s.ti.relay := rfl
@[simp] theorem State.setPort_ti_former (s : State) (p : Port) (u : PortUnit) :
    (s.setPort p u).ti.former = s.ti.former := rfl
@[simp] theorem State.setPort_ti_seqTable (s : State) (p : Port) (u : PortUnit) :
    (s.setPort p u).ti.seqTable = s.ti.seqTable := rfl
@[simp] theorem State.setPort_ti_ownSeq (s : State) (p : Port) (u : PortUnit) :
    (s.setPort p u).ti.ownSeq = s.ti.ownSeq := rfl

/-! ### modPort -/

@[simp] theorem State.modPort_tables (s : State) (p : Port) (f : PortUnit → PortUnit) :
    (s.modPort p f).tables = s.tables := rfl
@[simp] theorem State.modPort_orphans (s : State) (p : Port) (f : PortUnit → PortUnit) :
    (s.modPort p f).orphans = s.orphans := rfl
@[simp] theorem State.modPort_zp (s : State) (p : Port) (f : PortUnit → PortUnit) : (s.modPort p f).zp = s.zp := rfl
@[simp] theorem State.modPort_ageSteps (s : State) (p : Port) (f : PortUnit → PortUnit) :
    (s.modPort p f).ageSteps = s.ageSteps := rfl
@[simp] theorem State.modPort_nr (s : State) (p : Port) (f : PortUnit → PortUnit) : (s.modPort p f).nr = s.nr := rfl
@[simp] theorem State.modPort_cl (s : State) (p : Port) (f : PortUnit → PortUnit) : (s.modPort p f).cl = s.cl := rfl
@[simp] theorem State.modPort_ss (s : State) (p : Port) (f : PortUnit → PortUnit) : (s.modPort p f).ss = s.ss := rfl
@[simp] theorem State.modPort_mr (s : State) (p : Port) (f : PortUnit → PortUnit) : (s.modPort p f).mr = s.mr := rfl
@[simp] theorem State.modPort_tb (s : State) (p : Port) (f : PortUnit → PortUnit) : (s.modPort p f).tb = s.tb := rfl
@[simp] theorem State.modPort_sc (s : State) (p : Port) (f : PortUnit → PortUnit) : (s.modPort p f).sc = s.sc := rfl
@[simp] theorem State.modPort_planMem (s : State) (p : Port) (f : PortUnit → PortUnit) :
    (s.modPort p f).planMem = s.planMem := rfl
@[simp] theorem State.modPort_fresh (s : State) (p : Port) (f : PortUnit → PortUnit) :
    (s.modPort p f).fresh = s.fresh := rfl
@[simp] theorem State.modPort_pending (s : State) (p : Port) (f : PortUnit → PortUnit) :
    (s.modPort p f).pending = s.pending := rfl
@[simp] theorem State.modPort_ti_relay (s : State) (p : Port) (f : PortUnit → PortUnit) :
    (s.modPort p f).ti.relay = s.ti.relay := rfl
@[simp] theorem State.modPort_ti_former (s : State) (p : Port) (f : PortUnit → PortUnit) :
    (s.modPort p f).ti.former = s.ti.former := rfl
@[simp] theorem State.modPort_ti_seqTable (s : State) (p : Port) (f : PortUnit → PortUnit) :
    (s.modPort p f).ti.seqTable = s.ti.seqTable := rfl
@[simp] theorem State.modPort_ti_ownSeq (s : State) (p : Port) (f : PortUnit → PortUnit) :
    (s.modPort p f).ti.ownSeq = s.ti.ownSeq := rfl

/-! ### setLink -/

@[simp] theorem State.setLink_ti (s : State) (c : Link) (u : LinkUnit) : (s.setLink c u).ti = s.ti := rfl
@[simp] theorem State.setLink_tables (s : State) (c : Link) (u : LinkUnit) : (s.setLink c u).tables = s.tables := rfl
@[simp] theorem State.setLink_orphans (s : State) (c : Link) (u : LinkUnit) : (s.setLink c u).orphans = s.orphans := rfl
@[simp] theorem State.setLink_zp (s : State) (c : Link) (u : LinkUnit) : (s.setLink c u).zp = s.zp := rfl
@[simp] theorem State.setLink_ageSteps (s : State) (c : Link) (u : LinkUnit) :
    (s.setLink c u).ageSteps = s.ageSteps := rfl
@[simp] theorem State.setLink_nr (s : State) (c : Link) (u : LinkUnit) : (s.setLink c u).nr = s.nr := rfl
@[simp] theorem State.setLink_ss (s : State) (c : Link) (u : LinkUnit) : (s.setLink c u).ss = s.ss := rfl
@[simp] theorem State.setLink_mr (s : State) (c : Link) (u : LinkUnit) : (s.setLink c u).mr = s.mr := rfl
@[simp] theorem State.setLink_tb (s : State) (c : Link) (u : LinkUnit) : (s.setLink c u).tb = s.tb := rfl
@[simp] theorem State.setLink_sc (s : State) (c : Link) (u : LinkUnit) : (s.setLink c u).sc = s.sc := rfl
@[simp] theorem State.setLink_planMem (s : State) (c : Link) (u : LinkUnit) : (s.setLink c u).planMem = s.planMem := rfl
@[simp] theorem State.setLink_fresh (s : State) (c : Link) (u : LinkUnit) : (s.setLink c u).fresh = s.fresh := rfl
@[simp] theorem State.setLink_pending (s : State) (c : Link) (u : LinkUnit) : (s.setLink c u).pending = s.pending := rfl

/-! ### modLink -/

@[simp] theorem State.modLink_ti (s : State) (c : Link) (f : LinkUnit → LinkUnit) : (s.modLink c f).ti = s.ti := rfl
@[simp] theorem State.modLink_tables (s : State) (c : Link) (f : LinkUnit → LinkUnit) :
    (s.modLink c f).tables = s.tables := rfl
@[simp] theorem State.modLink_orphans (s : State) (c : Link) (f : LinkUnit → LinkUnit) :
    (s.modLink c f).orphans = s.orphans := rfl
@[simp] theorem State.modLink_zp (s : State) (c : Link) (f : LinkUnit → LinkUnit) : (s.modLink c f).zp = s.zp := rfl
@[simp] theorem State.modLink_ageSteps (s : State) (c : Link) (f : LinkUnit → LinkUnit) :
    (s.modLink c f).ageSteps = s.ageSteps := rfl
@[simp] theorem State.modLink_nr (s : State) (c : Link) (f : LinkUnit → LinkUnit) : (s.modLink c f).nr = s.nr := rfl
@[simp] theorem State.modLink_ss (s : State) (c : Link) (f : LinkUnit → LinkUnit) : (s.modLink c f).ss = s.ss := rfl
@[simp] theorem State.modLink_mr (s : State) (c : Link) (f : LinkUnit → LinkUnit) : (s.modLink c f).mr = s.mr := rfl
@[simp] theorem State.modLink_tb (s : State) (c : Link) (f : LinkUnit → LinkUnit) : (s.modLink c f).tb = s.tb := rfl
@[simp] theorem State.modLink_sc (s : State) (c : Link) (f : LinkUnit → LinkUnit) : (s.modLink c f).sc = s.sc := rfl
@[simp] theorem State.modLink_planMem (s : State) (c : Link) (f : LinkUnit → LinkUnit) :
    (s.modLink c f).planMem = s.planMem := rfl
@[simp] theorem State.modLink_fresh (s : State) (c : Link) (f : LinkUnit → LinkUnit) :
    (s.modLink c f).fresh = s.fresh := rfl
@[simp] theorem State.modLink_pending (s : State) (c : Link) (f : LinkUnit → LinkUnit) :
    (s.modLink c f).pending = s.pending := rfl

/-! ### setCrew -/

@[simp] theorem State.setCrew_ti (s : State) (c : Link) (k : Crew) : (s.setCrew c k).ti = s.ti := rfl
@[simp] theorem State.setCrew_tables (s : State) (c : Link) (k : Crew) : (s.setCrew c k).tables = s.tables := rfl
@[simp] theorem State.setCrew_orphans (s : State) (c : Link) (k : Crew) : (s.setCrew c k).orphans = s.orphans := rfl
@[simp] theorem State.setCrew_zp (s : State) (c : Link) (k : Crew) : (s.setCrew c k).zp = s.zp := rfl
@[simp] theorem State.setCrew_ageSteps (s : State) (c : Link) (k : Crew) : (s.setCrew c k).ageSteps = s.ageSteps := rfl
@[simp] theorem State.setCrew_cl (s : State) (c : Link) (k : Crew) : (s.setCrew c k).cl = s.cl := rfl
@[simp] theorem State.setCrew_ss (s : State) (c : Link) (k : Crew) : (s.setCrew c k).ss = s.ss := rfl
@[simp] theorem State.setCrew_mr (s : State) (c : Link) (k : Crew) : (s.setCrew c k).mr = s.mr := rfl
@[simp] theorem State.setCrew_tb (s : State) (c : Link) (k : Crew) : (s.setCrew c k).tb = s.tb := rfl
@[simp] theorem State.setCrew_sc (s : State) (c : Link) (k : Crew) : (s.setCrew c k).sc = s.sc := rfl
@[simp] theorem State.setCrew_planMem (s : State) (c : Link) (k : Crew) : (s.setCrew c k).planMem = s.planMem := rfl
@[simp] theorem State.setCrew_fresh (s : State) (c : Link) (k : Crew) : (s.setCrew c k).fresh = s.fresh := rfl
@[simp] theorem State.setCrew_pending (s : State) (c : Link) (k : Crew) : (s.setCrew c k).pending = s.pending := rfl

/-! ### modCrew -/

@[simp] theorem State.modCrew_ti (s : State) (c : Link) (f : Crew → Crew) : (s.modCrew c f).ti = s.ti := rfl
@[simp] theorem State.modCrew_tables (s : State) (c : Link) (f : Crew → Crew) : (s.modCrew c f).tables = s.tables := rfl
@[simp] theorem State.modCrew_orphans (s : State) (c : Link) (f : Crew → Crew) :
    (s.modCrew c f).orphans = s.orphans := rfl
@[simp] theorem State.modCrew_zp (s : State) (c : Link) (f : Crew → Crew) : (s.modCrew c f).zp = s.zp := rfl
@[simp] theorem State.modCrew_ageSteps (s : State) (c : Link) (f : Crew → Crew) :
    (s.modCrew c f).ageSteps = s.ageSteps := rfl
@[simp] theorem State.modCrew_cl (s : State) (c : Link) (f : Crew → Crew) : (s.modCrew c f).cl = s.cl := rfl
@[simp] theorem State.modCrew_ss (s : State) (c : Link) (f : Crew → Crew) : (s.modCrew c f).ss = s.ss := rfl
@[simp] theorem State.modCrew_mr (s : State) (c : Link) (f : Crew → Crew) : (s.modCrew c f).mr = s.mr := rfl
@[simp] theorem State.modCrew_tb (s : State) (c : Link) (f : Crew → Crew) : (s.modCrew c f).tb = s.tb := rfl
@[simp] theorem State.modCrew_sc (s : State) (c : Link) (f : Crew → Crew) : (s.modCrew c f).sc = s.sc := rfl
@[simp] theorem State.modCrew_planMem (s : State) (c : Link) (f : Crew → Crew) :
    (s.modCrew c f).planMem = s.planMem := rfl
@[simp] theorem State.modCrew_fresh (s : State) (c : Link) (f : Crew → Crew) : (s.modCrew c f).fresh = s.fresh := rfl
@[simp] theorem State.modCrew_pending (s : State) (c : Link) (f : Crew → Crew) :
    (s.modCrew c f).pending = s.pending := rfl

/-! ### setSlot -/

@[simp] theorem State.setSlot_ti (s : State) (c : Link) (x : SheetSlot) : (s.setSlot c x).ti = s.ti := rfl
@[simp] theorem State.setSlot_tables (s : State) (c : Link) (x : SheetSlot) : (s.setSlot c x).tables = s.tables := rfl
@[simp] theorem State.setSlot_orphans (s : State) (c : Link) (x : SheetSlot) :
    (s.setSlot c x).orphans = s.orphans := rfl
@[simp] theorem State.setSlot_zp (s : State) (c : Link) (x : SheetSlot) : (s.setSlot c x).zp = s.zp := rfl
@[simp] theorem State.setSlot_ageSteps (s : State) (c : Link) (x : SheetSlot) :
    (s.setSlot c x).ageSteps = s.ageSteps := rfl
@[simp] theorem State.setSlot_nr (s : State) (c : Link) (x : SheetSlot) : (s.setSlot c x).nr = s.nr := rfl
@[simp] theorem State.setSlot_cl (s : State) (c : Link) (x : SheetSlot) : (s.setSlot c x).cl = s.cl := rfl
@[simp] theorem State.setSlot_mr (s : State) (c : Link) (x : SheetSlot) : (s.setSlot c x).mr = s.mr := rfl
@[simp] theorem State.setSlot_tb (s : State) (c : Link) (x : SheetSlot) : (s.setSlot c x).tb = s.tb := rfl
@[simp] theorem State.setSlot_sc (s : State) (c : Link) (x : SheetSlot) : (s.setSlot c x).sc = s.sc := rfl
@[simp] theorem State.setSlot_planMem (s : State) (c : Link) (x : SheetSlot) :
    (s.setSlot c x).planMem = s.planMem := rfl
@[simp] theorem State.setSlot_fresh (s : State) (c : Link) (x : SheetSlot) : (s.setSlot c x).fresh = s.fresh := rfl
@[simp] theorem State.setSlot_pending (s : State) (c : Link) (x : SheetSlot) :
    (s.setSlot c x).pending = s.pending := rfl
@[simp] theorem State.setSlot_ss_reader (s : State) (c : Link) (x : SheetSlot) :
    (s.setSlot c x).ss.reader = s.ss.reader := rfl
@[simp] theorem State.setSlot_ss_waiting (s : State) (c : Link) (x : SheetSlot) :
    (s.setSlot c x).ss.waiting = s.ss.waiting := rfl
@[simp] theorem State.setSlot_ss_lastGranted (s : State) (c : Link) (x : SheetSlot) :
    (s.setSlot c x).ss.lastGranted = s.ss.lastGranted := rfl
@[simp] theorem State.setSlot_ss_staging (s : State) (c : Link) (x : SheetSlot) :
    (s.setSlot c x).ss.staging = s.ss.staging := rfl
@[simp] theorem State.setSlot_ss_planFaults (s : State) (c : Link) (x : SheetSlot) :
    (s.setSlot c x).ss.planFaults = s.ss.planFaults := rfl

/-! ### setZone -/

@[simp] theorem State.setZone_ti (s : State) (z : Nat) (l : ZoneLive) : (s.setZone z l).ti = s.ti := rfl
@[simp] theorem State.setZone_tables (s : State) (z : Nat) (l : ZoneLive) : (s.setZone z l).tables = s.tables := rfl
@[simp] theorem State.setZone_orphans (s : State) (z : Nat) (l : ZoneLive) : (s.setZone z l).orphans = s.orphans := rfl
@[simp] theorem State.setZone_ageSteps (s : State) (z : Nat) (l : ZoneLive) :
    (s.setZone z l).ageSteps = s.ageSteps := rfl
@[simp] theorem State.setZone_nr (s : State) (z : Nat) (l : ZoneLive) : (s.setZone z l).nr = s.nr := rfl
@[simp] theorem State.setZone_cl (s : State) (z : Nat) (l : ZoneLive) : (s.setZone z l).cl = s.cl := rfl
@[simp] theorem State.setZone_ss (s : State) (z : Nat) (l : ZoneLive) : (s.setZone z l).ss = s.ss := rfl
@[simp] theorem State.setZone_mr (s : State) (z : Nat) (l : ZoneLive) : (s.setZone z l).mr = s.mr := rfl
@[simp] theorem State.setZone_tb (s : State) (z : Nat) (l : ZoneLive) : (s.setZone z l).tb = s.tb := rfl
@[simp] theorem State.setZone_sc (s : State) (z : Nat) (l : ZoneLive) : (s.setZone z l).sc = s.sc := rfl
@[simp] theorem State.setZone_planMem (s : State) (z : Nat) (l : ZoneLive) : (s.setZone z l).planMem = s.planMem := rfl
@[simp] theorem State.setZone_fresh (s : State) (z : Nat) (l : ZoneLive) : (s.setZone z l).fresh = s.fresh := rfl
@[simp] theorem State.setZone_pending (s : State) (z : Nat) (l : ZoneLive) : (s.setZone z l).pending = s.pending := rfl
@[simp] theorem State.setZone_zp_floors (s : State) (z : Nat) (l : ZoneLive) :
    (s.setZone z l).zp.floors = s.zp.floors := rfl

/-! ### setFloor -/

@[simp] theorem State.setFloor_ti (s : State) (f : Int) (n : Nat) : (s.setFloor f n).ti = s.ti := rfl
@[simp] theorem State.setFloor_tables (s : State) (f : Int) (n : Nat) : (s.setFloor f n).tables = s.tables := rfl
@[simp] theorem State.setFloor_orphans (s : State) (f : Int) (n : Nat) : (s.setFloor f n).orphans = s.orphans := rfl
@[simp] theorem State.setFloor_ageSteps (s : State) (f : Int) (n : Nat) : (s.setFloor f n).ageSteps = s.ageSteps := rfl
@[simp] theorem State.setFloor_nr (s : State) (f : Int) (n : Nat) : (s.setFloor f n).nr = s.nr := rfl
@[simp] theorem State.setFloor_cl (s : State) (f : Int) (n : Nat) : (s.setFloor f n).cl = s.cl := rfl
@[simp] theorem State.setFloor_ss (s : State) (f : Int) (n : Nat) : (s.setFloor f n).ss = s.ss := rfl
@[simp] theorem State.setFloor_mr (s : State) (f : Int) (n : Nat) : (s.setFloor f n).mr = s.mr := rfl
@[simp] theorem State.setFloor_tb (s : State) (f : Int) (n : Nat) : (s.setFloor f n).tb = s.tb := rfl
@[simp] theorem State.setFloor_sc (s : State) (f : Int) (n : Nat) : (s.setFloor f n).sc = s.sc := rfl
@[simp] theorem State.setFloor_planMem (s : State) (f : Int) (n : Nat) : (s.setFloor f n).planMem = s.planMem := rfl
@[simp] theorem State.setFloor_fresh (s : State) (f : Int) (n : Nat) : (s.setFloor f n).fresh = s.fresh := rfl
@[simp] theorem State.setFloor_pending (s : State) (f : Int) (n : Nat) : (s.setFloor f n).pending = s.pending := rfl
@[simp] theorem State.setFloor_zp_live (s : State) (f : Int) (n : Nat) : (s.setFloor f n).zp.live = s.zp.live := rfl

/-! ### setAgeStep -/

@[simp] theorem State.setAgeStep_ti (s : State) (z : Nat) (t : Option Nat) : (s.setAgeStep z t).ti = s.ti := rfl
@[simp] theorem State.setAgeStep_tables (s : State) (z : Nat) (t : Option Nat) :
    (s.setAgeStep z t).tables = s.tables := rfl
@[simp] theorem State.setAgeStep_orphans (s : State) (z : Nat) (t : Option Nat) :
    (s.setAgeStep z t).orphans = s.orphans := rfl
@[simp] theorem State.setAgeStep_zp (s : State) (z : Nat) (t : Option Nat) : (s.setAgeStep z t).zp = s.zp := rfl
@[simp] theorem State.setAgeStep_nr (s : State) (z : Nat) (t : Option Nat) : (s.setAgeStep z t).nr = s.nr := rfl
@[simp] theorem State.setAgeStep_cl (s : State) (z : Nat) (t : Option Nat) : (s.setAgeStep z t).cl = s.cl := rfl
@[simp] theorem State.setAgeStep_ss (s : State) (z : Nat) (t : Option Nat) : (s.setAgeStep z t).ss = s.ss := rfl
@[simp] theorem State.setAgeStep_mr (s : State) (z : Nat) (t : Option Nat) : (s.setAgeStep z t).mr = s.mr := rfl
@[simp] theorem State.setAgeStep_tb (s : State) (z : Nat) (t : Option Nat) : (s.setAgeStep z t).tb = s.tb := rfl
@[simp] theorem State.setAgeStep_sc (s : State) (z : Nat) (t : Option Nat) : (s.setAgeStep z t).sc = s.sc := rfl
@[simp] theorem State.setAgeStep_planMem (s : State) (z : Nat) (t : Option Nat) :
    (s.setAgeStep z t).planMem = s.planMem := rfl
@[simp] theorem State.setAgeStep_fresh (s : State) (z : Nat) (t : Option Nat) :
    (s.setAgeStep z t).fresh = s.fresh := rfl
@[simp] theorem State.setAgeStep_pending (s : State) (z : Nat) (t : Option Nat) :
    (s.setAgeStep z t).pending = s.pending := rfl

/-! ### withPending -/

@[simp] theorem State.withPending_ti (s : State) (q : List Instr) : (s.withPending q).ti = s.ti := rfl
@[simp] theorem State.withPending_tables (s : State) (q : List Instr) : (s.withPending q).tables = s.tables := rfl
@[simp] theorem State.withPending_orphans (s : State) (q : List Instr) : (s.withPending q).orphans = s.orphans := rfl
@[simp] theorem State.withPending_zp (s : State) (q : List Instr) : (s.withPending q).zp = s.zp := rfl
@[simp] theorem State.withPending_ageSteps (s : State) (q : List Instr) : (s.withPending q).ageSteps = s.ageSteps := rfl
@[simp] theorem State.withPending_nr (s : State) (q : List Instr) : (s.withPending q).nr = s.nr := rfl
@[simp] theorem State.withPending_cl (s : State) (q : List Instr) : (s.withPending q).cl = s.cl := rfl
@[simp] theorem State.withPending_ss (s : State) (q : List Instr) : (s.withPending q).ss = s.ss := rfl
@[simp] theorem State.withPending_mr (s : State) (q : List Instr) : (s.withPending q).mr = s.mr := rfl
@[simp] theorem State.withPending_tb (s : State) (q : List Instr) : (s.withPending q).tb = s.tb := rfl
@[simp] theorem State.withPending_sc (s : State) (q : List Instr) : (s.withPending q).sc = s.sc := rfl
@[simp] theorem State.withPending_planMem (s : State) (q : List Instr) : (s.withPending q).planMem = s.planMem := rfl
@[simp] theorem State.withPending_fresh (s : State) (q : List Instr) : (s.withPending q).fresh = s.fresh := rfl

@[simp] theorem State.withPending_pending (s : State) (q : List Instr) : (s.withPending q).pending = q := rfl

/-! ### leavePage -/

@[simp] theorem State.leavePage_ti (s : State) (p : Nat) : (s.leavePage p).ti = s.ti := by simp only [State.leavePage]
@[simp] theorem State.leavePage_tables (s : State) (p : Nat) :
    (s.leavePage p).tables = s.tables := by simp only [State.leavePage]
@[simp] theorem State.leavePage_orphans (s : State) (p : Nat) :
    (s.leavePage p).orphans = s.orphans := by simp only [State.leavePage]
@[simp] theorem State.leavePage_zp (s : State) (p : Nat) : (s.leavePage p).zp = s.zp := by simp only [State.leavePage]
@[simp] theorem State.leavePage_ageSteps (s : State) (p : Nat) :
    (s.leavePage p).ageSteps = s.ageSteps := by simp only [State.leavePage]
@[simp] theorem State.leavePage_nr (s : State) (p : Nat) : (s.leavePage p).nr = s.nr := by simp only [State.leavePage]
@[simp] theorem State.leavePage_cl (s : State) (p : Nat) : (s.leavePage p).cl = s.cl := by simp only [State.leavePage]
@[simp] theorem State.leavePage_ss (s : State) (p : Nat) : (s.leavePage p).ss = s.ss := by simp only [State.leavePage]
@[simp] theorem State.leavePage_mr (s : State) (p : Nat) : (s.leavePage p).mr = s.mr := by simp only [State.leavePage]
@[simp] theorem State.leavePage_tb (s : State) (p : Nat) : (s.leavePage p).tb = s.tb := by simp only [State.leavePage]
@[simp] theorem State.leavePage_sc (s : State) (p : Nat) : (s.leavePage p).sc = s.sc := by simp only [State.leavePage]
@[simp] theorem State.leavePage_pending (s : State) (p : Nat) :
    (s.leavePage p).pending = s.pending := by simp only [State.leavePage]

/-! ### countPlanFault -/

@[simp] theorem State.countPlanFault_ti (s : State) : s.countPlanFault.ti = s.ti := rfl
@[simp] theorem State.countPlanFault_tables (s : State) : s.countPlanFault.tables = s.tables := rfl
@[simp] theorem State.countPlanFault_orphans (s : State) : s.countPlanFault.orphans = s.orphans := rfl
@[simp] theorem State.countPlanFault_zp (s : State) : s.countPlanFault.zp = s.zp := rfl
@[simp] theorem State.countPlanFault_ageSteps (s : State) : s.countPlanFault.ageSteps = s.ageSteps := rfl
@[simp] theorem State.countPlanFault_nr (s : State) : s.countPlanFault.nr = s.nr := rfl
@[simp] theorem State.countPlanFault_cl (s : State) : s.countPlanFault.cl = s.cl := rfl
@[simp] theorem State.countPlanFault_mr (s : State) : s.countPlanFault.mr = s.mr := rfl
@[simp] theorem State.countPlanFault_tb (s : State) : s.countPlanFault.tb = s.tb := rfl
@[simp] theorem State.countPlanFault_sc (s : State) : s.countPlanFault.sc = s.sc := rfl
@[simp] theorem State.countPlanFault_planMem (s : State) : s.countPlanFault.planMem = s.planMem := rfl
@[simp] theorem State.countPlanFault_fresh (s : State) : s.countPlanFault.fresh = s.fresh := rfl
@[simp] theorem State.countPlanFault_pending (s : State) : s.countPlanFault.pending = s.pending := rfl
@[simp] theorem State.countPlanFault_ss_slots (s : State) : s.countPlanFault.ss.slots = s.ss.slots := rfl
@[simp] theorem State.countPlanFault_ss_reader (s : State) : s.countPlanFault.ss.reader = s.ss.reader := rfl
@[simp] theorem State.countPlanFault_ss_waiting (s : State) : s.countPlanFault.ss.waiting = s.ss.waiting := rfl
@[simp] theorem State.countPlanFault_ss_lastGranted (s : State) : s.countPlanFault.ss.lastGranted = s.ss.lastGranted := rfl
@[simp] theorem State.countPlanFault_ss_staging (s : State) : s.countPlanFault.ss.staging = s.ss.staging := rfl

/-! ### setTables -/

@[simp] theorem setTables_ti (r : Retained) (s : State) : (setTables r s).ti = s.ti := rfl
@[simp] theorem setTables_orphans (r : Retained) (s : State) : (setTables r s).orphans = s.orphans := rfl
@[simp] theorem setTables_zp (r : Retained) (s : State) : (setTables r s).zp = s.zp := rfl
@[simp] theorem setTables_ageSteps (r : Retained) (s : State) : (setTables r s).ageSteps = s.ageSteps := rfl
@[simp] theorem setTables_nr (r : Retained) (s : State) : (setTables r s).nr = s.nr := rfl
@[simp] theorem setTables_cl (r : Retained) (s : State) : (setTables r s).cl = s.cl := rfl
@[simp] theorem setTables_ss (r : Retained) (s : State) : (setTables r s).ss = s.ss := rfl
@[simp] theorem setTables_mr (r : Retained) (s : State) : (setTables r s).mr = s.mr := rfl
@[simp] theorem setTables_tb (r : Retained) (s : State) : (setTables r s).tb = s.tb := rfl
@[simp] theorem setTables_planMem (r : Retained) (s : State) : (setTables r s).planMem = s.planMem := rfl
@[simp] theorem setTables_fresh (r : Retained) (s : State) : (setTables r s).fresh = s.fresh := rfl
@[simp] theorem setTables_pending (r : Retained) (s : State) : (setTables r s).pending = s.pending := rfl
@[simp] theorem setTables_sc_mainPower (r : Retained) (s : State) : (setTables r s).sc.mainPower = s.sc.mainPower := rfl
@[simp] theorem setTables_sc_markIntact (r : Retained) (s : State) :
    (setTables r s).sc.markIntact = s.sc.markIntact := rfl
@[simp] theorem setTables_sc_kind (r : Retained) (s : State) : (setTables r s).sc.kind = s.sc.kind := rfl
@[simp] theorem setTables_sc_status (r : Retained) (s : State) : (setTables r s).sc.status = s.sc.status := rfl
@[simp] theorem setTables_sc_expiry (r : Retained) (s : State) : (setTables r s).sc.expiry = s.sc.expiry := rfl
@[simp] theorem setTables_sc_resyncTimeouts (r : Retained) (s : State) :
    (setTables r s).sc.resyncTimeouts = s.sc.resyncTimeouts := rfl

@[simp] theorem setTables_tables (r : Retained) (s : State) : (setTables r s).tables = r := rfl
@[simp] theorem setTables_markCheck (r : Retained) (s : State) : (setTables r s).sc.markCheck = r.check := rfl

/-! ### giveOwn -/

@[simp] theorem giveOwn_tables (d k : Byte) (b : List Byte) (s : State) : (giveOwn d k b s).tables = s.tables := rfl
@[simp] theorem giveOwn_orphans (d k : Byte) (b : List Byte) (s : State) : (giveOwn d k b s).orphans = s.orphans := rfl
@[simp] theorem giveOwn_zp (d k : Byte) (b : List Byte) (s : State) : (giveOwn d k b s).zp = s.zp := rfl
@[simp] theorem giveOwn_ageSteps (d k : Byte) (b : List Byte) (s : State) :
    (giveOwn d k b s).ageSteps = s.ageSteps := rfl
@[simp] theorem giveOwn_nr (d k : Byte) (b : List Byte) (s : State) : (giveOwn d k b s).nr = s.nr := rfl
@[simp] theorem giveOwn_cl (d k : Byte) (b : List Byte) (s : State) : (giveOwn d k b s).cl = s.cl := rfl
@[simp] theorem giveOwn_ss (d k : Byte) (b : List Byte) (s : State) : (giveOwn d k b s).ss = s.ss := rfl
@[simp] theorem giveOwn_mr (d k : Byte) (b : List Byte) (s : State) : (giveOwn d k b s).mr = s.mr := rfl
@[simp] theorem giveOwn_tb (d k : Byte) (b : List Byte) (s : State) : (giveOwn d k b s).tb = s.tb := rfl
@[simp] theorem giveOwn_sc (d k : Byte) (b : List Byte) (s : State) : (giveOwn d k b s).sc = s.sc := rfl
@[simp] theorem giveOwn_planMem (d k : Byte) (b : List Byte) (s : State) : (giveOwn d k b s).planMem = s.planMem := rfl
@[simp] theorem giveOwn_fresh (d k : Byte) (b : List Byte) (s : State) : (giveOwn d k b s).fresh = s.fresh := rfl
@[simp] theorem giveOwn_pending (d k : Byte) (b : List Byte) (s : State) : (giveOwn d k b s).pending = s.pending := rfl
@[simp] theorem giveOwn_ti_relay (d k : Byte) (b : List Byte) (s : State) :
    (giveOwn d k b s).ti.relay = s.ti.relay := rfl
@[simp] theorem giveOwn_ti_former (d k : Byte) (b : List Byte) (s : State) :
    (giveOwn d k b s).ti.former = s.ti.former := rfl
@[simp] theorem giveOwn_ti_seqTable (d k : Byte) (b : List Byte) (s : State) :
    (giveOwn d k b s).ti.seqTable = s.ti.seqTable := rfl

/-! ### reply -/

@[simp] theorem reply_tables (d : Byte) (i : Word16) (r : MgmtResult) (b : List Byte) (s : State) :
    (reply d i r b s).tables = s.tables := by simp [reply]
@[simp] theorem reply_orphans (d : Byte) (i : Word16) (r : MgmtResult) (b : List Byte) (s : State) :
    (reply d i r b s).orphans = s.orphans := by simp [reply]
@[simp] theorem reply_zp (d : Byte) (i : Word16) (r : MgmtResult) (b : List Byte) (s : State) :
    (reply d i r b s).zp = s.zp := by simp [reply]
@[simp] theorem reply_ageSteps (d : Byte) (i : Word16) (r : MgmtResult) (b : List Byte) (s : State) :
    (reply d i r b s).ageSteps = s.ageSteps := by simp [reply]
@[simp] theorem reply_nr (d : Byte) (i : Word16) (r : MgmtResult) (b : List Byte) (s : State) :
    (reply d i r b s).nr = s.nr := by simp [reply]
@[simp] theorem reply_cl (d : Byte) (i : Word16) (r : MgmtResult) (b : List Byte) (s : State) :
    (reply d i r b s).cl = s.cl := by simp [reply]
@[simp] theorem reply_ss (d : Byte) (i : Word16) (r : MgmtResult) (b : List Byte) (s : State) :
    (reply d i r b s).ss = s.ss := by simp [reply]
@[simp] theorem reply_mr (d : Byte) (i : Word16) (r : MgmtResult) (b : List Byte) (s : State) :
    (reply d i r b s).mr = s.mr := by simp [reply]
@[simp] theorem reply_tb (d : Byte) (i : Word16) (r : MgmtResult) (b : List Byte) (s : State) :
    (reply d i r b s).tb = s.tb := by simp [reply]
@[simp] theorem reply_sc (d : Byte) (i : Word16) (r : MgmtResult) (b : List Byte) (s : State) :
    (reply d i r b s).sc = s.sc := by simp [reply]
@[simp] theorem reply_planMem (d : Byte) (i : Word16) (r : MgmtResult) (b : List Byte) (s : State) :
    (reply d i r b s).planMem = s.planMem := by simp [reply]
@[simp] theorem reply_fresh (d : Byte) (i : Word16) (r : MgmtResult) (b : List Byte) (s : State) :
    (reply d i r b s).fresh = s.fresh := by simp [reply]
@[simp] theorem reply_pending (d : Byte) (i : Word16) (r : MgmtResult) (b : List Byte) (s : State) :
    (reply d i r b s).pending = s.pending := by simp [reply]
@[simp] theorem reply_ti_relay (d : Byte) (i : Word16) (r : MgmtResult) (b : List Byte) (s : State) :
    (reply d i r b s).ti.relay = s.ti.relay := by simp [reply]
@[simp] theorem reply_ti_former (d : Byte) (i : Word16) (r : MgmtResult) (b : List Byte) (s : State) :
    (reply d i r b s).ti.former = s.ti.former := by simp [reply]
@[simp] theorem reply_ti_seqTable (d : Byte) (i : Word16) (r : MgmtResult) (b : List Byte) (s : State) :
    (reply d i r b s).ti.seqTable = s.ti.seqTable := by simp [reply]

/-! ### setWaiting -/

@[simp] theorem setWaiting_ti (w : WaitingOp) (s : State) : (setWaiting w s).ti = s.ti := rfl
@[simp] theorem setWaiting_tables (w : WaitingOp) (s : State) : (setWaiting w s).tables = s.tables := rfl
@[simp] theorem setWaiting_orphans (w : WaitingOp) (s : State) : (setWaiting w s).orphans = s.orphans := rfl
@[simp] theorem setWaiting_zp (w : WaitingOp) (s : State) : (setWaiting w s).zp = s.zp := rfl
@[simp] theorem setWaiting_ageSteps (w : WaitingOp) (s : State) : (setWaiting w s).ageSteps = s.ageSteps := rfl
@[simp] theorem setWaiting_nr (w : WaitingOp) (s : State) : (setWaiting w s).nr = s.nr := rfl
@[simp] theorem setWaiting_cl (w : WaitingOp) (s : State) : (setWaiting w s).cl = s.cl := rfl
@[simp] theorem setWaiting_mr (w : WaitingOp) (s : State) : (setWaiting w s).mr = s.mr := rfl
@[simp] theorem setWaiting_tb (w : WaitingOp) (s : State) : (setWaiting w s).tb = s.tb := rfl
@[simp] theorem setWaiting_sc (w : WaitingOp) (s : State) : (setWaiting w s).sc = s.sc := rfl
@[simp] theorem setWaiting_planMem (w : WaitingOp) (s : State) : (setWaiting w s).planMem = s.planMem := rfl
@[simp] theorem setWaiting_fresh (w : WaitingOp) (s : State) : (setWaiting w s).fresh = s.fresh := rfl
@[simp] theorem setWaiting_pending (w : WaitingOp) (s : State) : (setWaiting w s).pending = s.pending := rfl
@[simp] theorem setWaiting_ss_slots (w : WaitingOp) (s : State) : (setWaiting w s).ss.slots = s.ss.slots := rfl
@[simp] theorem setWaiting_ss_reader (w : WaitingOp) (s : State) : (setWaiting w s).ss.reader = s.ss.reader := rfl
@[simp] theorem setWaiting_ss_lastGranted (w : WaitingOp) (s : State) :
    (setWaiting w s).ss.lastGranted = s.ss.lastGranted := rfl
@[simp] theorem setWaiting_ss_staging (w : WaitingOp) (s : State) : (setWaiting w s).ss.staging = s.ss.staging := rfl
@[simp] theorem setWaiting_ss_planFaults (w : WaitingOp) (s : State) :
    (setWaiting w s).ss.planFaults = s.ss.planFaults := rfl

/-! ### keepFormer -/

@[simp] theorem keepFormer_tables (n : Nat) (s : State) : (keepFormer n s).tables = s.tables := rfl
@[simp] theorem keepFormer_orphans (n : Nat) (s : State) : (keepFormer n s).orphans = s.orphans := rfl
@[simp] theorem keepFormer_zp (n : Nat) (s : State) : (keepFormer n s).zp = s.zp := rfl
@[simp] theorem keepFormer_ageSteps (n : Nat) (s : State) : (keepFormer n s).ageSteps = s.ageSteps := rfl
@[simp] theorem keepFormer_nr (n : Nat) (s : State) : (keepFormer n s).nr = s.nr := rfl
@[simp] theorem keepFormer_cl (n : Nat) (s : State) : (keepFormer n s).cl = s.cl := rfl
@[simp] theorem keepFormer_ss (n : Nat) (s : State) : (keepFormer n s).ss = s.ss := rfl
@[simp] theorem keepFormer_mr (n : Nat) (s : State) : (keepFormer n s).mr = s.mr := rfl
@[simp] theorem keepFormer_tb (n : Nat) (s : State) : (keepFormer n s).tb = s.tb := rfl
@[simp] theorem keepFormer_sc (n : Nat) (s : State) : (keepFormer n s).sc = s.sc := rfl
@[simp] theorem keepFormer_planMem (n : Nat) (s : State) : (keepFormer n s).planMem = s.planMem := rfl
@[simp] theorem keepFormer_fresh (n : Nat) (s : State) : (keepFormer n s).fresh = s.fresh := rfl
@[simp] theorem keepFormer_pending (n : Nat) (s : State) : (keepFormer n s).pending = s.pending := rfl
@[simp] theorem keepFormer_ti_relay (n : Nat) (s : State) : (keepFormer n s).ti.relay = s.ti.relay := rfl
@[simp] theorem keepFormer_ti_ports (n : Nat) (s : State) : (keepFormer n s).ti.ports = s.ti.ports := rfl
@[simp] theorem keepFormer_ti_seqTable (n : Nat) (s : State) : (keepFormer n s).ti.seqTable = s.ti.seqTable := rfl
@[simp] theorem keepFormer_ti_ownSeq (n : Nat) (s : State) : (keepFormer n s).ti.ownSeq = s.ti.ownSeq := rfl

/-! ### tick -/

@[simp] theorem tick_ti (s : State) : (tick s).ti = s.ti := rfl
@[simp] theorem tick_tables (s : State) : (tick s).tables = s.tables := rfl
@[simp] theorem tick_orphans (s : State) : (tick s).orphans = s.orphans := rfl
@[simp] theorem tick_zp (s : State) : (tick s).zp = s.zp := rfl
@[simp] theorem tick_ageSteps (s : State) : (tick s).ageSteps = s.ageSteps := rfl
@[simp] theorem tick_nr (s : State) : (tick s).nr = s.nr := rfl
@[simp] theorem tick_cl (s : State) : (tick s).cl = s.cl := rfl
@[simp] theorem tick_ss (s : State) : (tick s).ss = s.ss := rfl
@[simp] theorem tick_mr (s : State) : (tick s).mr = s.mr := rfl
@[simp] theorem tick_sc (s : State) : (tick s).sc = s.sc := rfl
@[simp] theorem tick_planMem (s : State) : (tick s).planMem = s.planMem := rfl
@[simp] theorem tick_fresh (s : State) : (tick s).fresh = s.fresh := rfl
@[simp] theorem tick_pending (s : State) : (tick s).pending = s.pending := rfl

/-! ### timeMark -/

@[simp] theorem timeMark_ti (t : Word32) (s : State) : (timeMark t s).ti = s.ti := rfl
@[simp] theorem timeMark_tables (t : Word32) (s : State) : (timeMark t s).tables = s.tables := rfl
@[simp] theorem timeMark_orphans (t : Word32) (s : State) : (timeMark t s).orphans = s.orphans := rfl
@[simp] theorem timeMark_zp (t : Word32) (s : State) : (timeMark t s).zp = s.zp := rfl
@[simp] theorem timeMark_ageSteps (t : Word32) (s : State) : (timeMark t s).ageSteps = s.ageSteps := rfl
@[simp] theorem timeMark_nr (t : Word32) (s : State) : (timeMark t s).nr = s.nr := rfl
@[simp] theorem timeMark_cl (t : Word32) (s : State) : (timeMark t s).cl = s.cl := rfl
@[simp] theorem timeMark_ss (t : Word32) (s : State) : (timeMark t s).ss = s.ss := rfl
@[simp] theorem timeMark_mr (t : Word32) (s : State) : (timeMark t s).mr = s.mr := rfl
@[simp] theorem timeMark_sc (t : Word32) (s : State) : (timeMark t s).sc = s.sc := rfl
@[simp] theorem timeMark_planMem (t : Word32) (s : State) : (timeMark t s).planMem = s.planMem := rfl
@[simp] theorem timeMark_fresh (t : Word32) (s : State) : (timeMark t s).fresh = s.fresh := rfl
@[simp] theorem timeMark_pending (t : Word32) (s : State) : (timeMark t s).pending = s.pending := rfl

/-! ### clearCounters -/

@[simp] theorem clearCounters_tables (s : State) : (clearCounters s).tables = s.tables := rfl
@[simp] theorem clearCounters_zp (s : State) : (clearCounters s).zp = s.zp := rfl
@[simp] theorem clearCounters_ageSteps (s : State) : (clearCounters s).ageSteps = s.ageSteps := rfl
@[simp] theorem clearCounters_nr (s : State) : (clearCounters s).nr = s.nr := rfl
@[simp] theorem clearCounters_mr (s : State) : (clearCounters s).mr = s.mr := rfl
@[simp] theorem clearCounters_tb (s : State) : (clearCounters s).tb = s.tb := rfl
@[simp] theorem clearCounters_planMem (s : State) : (clearCounters s).planMem = s.planMem := rfl
@[simp] theorem clearCounters_fresh (s : State) : (clearCounters s).fresh = s.fresh := rfl
@[simp] theorem clearCounters_pending (s : State) : (clearCounters s).pending = s.pending := rfl
@[simp] theorem clearCounters_ti_relay (s : State) : (clearCounters s).ti.relay = s.ti.relay := rfl
@[simp] theorem clearCounters_ti_former (s : State) : (clearCounters s).ti.former = s.ti.former := rfl
@[simp] theorem clearCounters_ti_seqTable (s : State) : (clearCounters s).ti.seqTable = s.ti.seqTable := rfl
@[simp] theorem clearCounters_ti_ownSeq (s : State) : (clearCounters s).ti.ownSeq = s.ti.ownSeq := rfl
@[simp] theorem clearCounters_ss_slots (s : State) : (clearCounters s).ss.slots = s.ss.slots := rfl
@[simp] theorem clearCounters_ss_reader (s : State) : (clearCounters s).ss.reader = s.ss.reader := rfl
@[simp] theorem clearCounters_ss_waiting (s : State) : (clearCounters s).ss.waiting = s.ss.waiting := rfl
@[simp] theorem clearCounters_ss_lastGranted (s : State) : (clearCounters s).ss.lastGranted = s.ss.lastGranted := rfl
@[simp] theorem clearCounters_ss_staging (s : State) : (clearCounters s).ss.staging = s.ss.staging := rfl
@[simp] theorem clearCounters_sc_mainPower (s : State) : (clearCounters s).sc.mainPower = s.sc.mainPower := rfl
@[simp] theorem clearCounters_sc_markIntact (s : State) : (clearCounters s).sc.markIntact = s.sc.markIntact := rfl
@[simp] theorem clearCounters_sc_markCheck (s : State) : (clearCounters s).sc.markCheck = s.sc.markCheck := rfl
@[simp] theorem clearCounters_sc_kind (s : State) : (clearCounters s).sc.kind = s.sc.kind := rfl
@[simp] theorem clearCounters_sc_status (s : State) : (clearCounters s).sc.status = s.sc.status := rfl
@[simp] theorem clearCounters_sc_expiry (s : State) : (clearCounters s).sc.expiry = s.sc.expiry := rfl

/-! ### One value for each link or port -/

theorem PerLink.get_set {α : Type} (q : PerLink α) (c d : Link) (x : α) :
    (q.set c x).get d = if d = c then x else q.get d := by
  cases c <;> cases d <;> rfl

@[simp] theorem PerLink.get_set_self {α : Type} (q : PerLink α) (c : Link) (x : α) : (q.set c x).get c = x := by
  cases c <;> rfl

theorem PerPort.get_set {α : Type} (q : PerPort α) (p r : Port) (x : α) :
    (q.set p x).get r = if r = p then x else q.get r := by
  cases p <;> cases r <;> rfl

@[simp] theorem PerPort.get_set_self {α : Type} (q : PerPort α) (p : Port) (x : α) : (q.set p x).get p = x := by
  cases p <;> rfl

/-- Two values for the links are equal when they agree on each link. -/
theorem PerLink.ext_get {α : Type} {q r : PerLink α} (h : ∀ c, q.get c = r.get c) : q = r := by
  obtain ⟨a, b, c, d⟩ := q
  obtain ⟨e, f, g, i⟩ := r
  have h1 := h .l1; have h2 := h .l2; have h3 := h .l3; have h4 := h .l4
  simp only [PerLink.get] at h1 h2 h3 h4
  subst h1 h2 h3 h4
  rfl

/-! ### Readers after writers -/

theorem State.port_setPort (s : State) (p r : Port) (u : PortUnit) :
    (s.setPort p u).port r = if r = p then u else s.port r := PerPort.get_set ..

theorem State.link_setLink (s : State) (c d : Link) (u : LinkUnit) :
    (s.setLink c u).link d = if d = c then u else s.link d := PerLink.get_set ..

theorem State.crew_setCrew (s : State) (c d : Link) (k : Crew) :
    (s.setCrew c k).crew d = if d = c then k else s.crew d := PerLink.get_set ..

theorem State.slot_setSlot (s : State) (c d : Link) (x : SheetSlot) :
    (s.setSlot c x).slot d = if d = c then x else s.slot d := PerLink.get_set ..

@[simp] theorem State.port_setPort_self (s : State) (p : Port) (u : PortUnit) : (s.setPort p u).port p = u :=
  PerPort.get_set_self ..
@[simp] theorem State.link_setLink_self (s : State) (c : Link) (u : LinkUnit) : (s.setLink c u).link c = u :=
  PerLink.get_set_self ..
@[simp] theorem State.crew_setCrew_self (s : State) (c : Link) (k : Crew) : (s.setCrew c k).crew c = k :=
  PerLink.get_set_self ..
@[simp] theorem State.slot_setSlot_self (s : State) (c : Link) (x : SheetSlot) : (s.setSlot c x).slot c = x :=
  PerLink.get_set_self ..

theorem State.port_modPort (s : State) (p r : Port) (f : PortUnit → PortUnit) :
    (s.modPort p f).port r = if r = p then f (s.port p) else s.port r := s.port_setPort p r _
theorem State.link_modLink (s : State) (c d : Link) (f : LinkUnit → LinkUnit) :
    (s.modLink c f).link d = if d = c then f (s.link c) else s.link d := s.link_setLink c d _
theorem State.crew_modCrew (s : State) (c d : Link) (f : Crew → Crew) :
    (s.modCrew c f).crew d = if d = c then f (s.crew c) else s.crew d := s.crew_setCrew c d _

@[simp] theorem State.port_modPort_self (s : State) (p : Port) (f : PortUnit → PortUnit) :
    (s.modPort p f).port p = f (s.port p) := s.port_setPort_self p _
@[simp] theorem State.link_modLink_self (s : State) (c : Link) (f : LinkUnit → LinkUnit) :
    (s.modLink c f).link c = f (s.link c) := s.link_setLink_self c _
@[simp] theorem State.crew_modCrew_self (s : State) (c : Link) (f : Crew → Crew) :
    (s.modCrew c f).crew c = f (s.crew c) := s.crew_setCrew_self c _

/-! ### Readers of one part after a writer of another -/

@[simp] theorem State.link_setPort (s : State) (c : Link) (q : Port) (u : PortUnit) :
    (s.setPort q u).link c = s.link c := rfl
@[simp] theorem State.crew_setPort (s : State) (c : Link) (q : Port) (u : PortUnit) :
    (s.setPort q u).crew c = s.crew c := rfl
@[simp] theorem State.slot_setPort (s : State) (c : Link) (q : Port) (u : PortUnit) :
    (s.setPort q u).slot c = s.slot c := rfl
@[simp] theorem State.zone_setPort (s : State) (z : Nat) (q : Port) (u : PortUnit) :
    (s.setPort q u).zone z = s.zone z := rfl
@[simp] theorem State.zoneDef_setPort (s : State) (z : Nat) (q : Port) (u : PortUnit) :
    (s.setPort q u).zoneDef z = s.zoneDef z := rfl
@[simp] theorem State.config_setPort (s : State) (q : Port) (u : PortUnit) : (s.setPort q u).config = s.config := rfl
@[simp] theorem State.uptime_setPort (s : State) (q : Port) (u : PortUnit) : (s.setPort q u).uptime = s.uptime := rfl
@[simp] theorem State.profile_setPort (s : State) (c : Link) (q : Port) (u : PortUnit) :
    (s.setPort q u).profile c = s.profile c := rfl
@[simp] theorem State.ageStep_setPort (s : State) (z : Nat) (q : Port) (u : PortUnit) :
    (s.setPort q u).ageStep z = s.ageStep z := rfl
@[simp] theorem State.attached_setPort (s : State) (c : Link) (q : Port) (u : PortUnit) :
    (s.setPort q u).attached c = s.attached c := rfl
@[simp] theorem State.running_setPort (s : State) (q : Port) (u : PortUnit) : (s.setPort q u).running = s.running := rfl
@[simp] theorem State.link_modPort (s : State) (c : Link) (q : Port) (f : PortUnit → PortUnit) :
    (s.modPort q f).link c = s.link c := rfl
@[simp] theorem State.crew_modPort (s : State) (c : Link) (q : Port) (f : PortUnit → PortUnit) :
    (s.modPort q f).crew c = s.crew c := rfl
@[simp] theorem State.slot_modPort (s : State) (c : Link) (q : Port) (f : PortUnit → PortUnit) :
    (s.modPort q f).slot c = s.slot c := rfl
@[simp] theorem State.zone_modPort (s : State) (z : Nat) (q : Port) (f : PortUnit → PortUnit) :
    (s.modPort q f).zone z = s.zone z := rfl
@[simp] theorem State.zoneDef_modPort (s : State) (z : Nat) (q : Port) (f : PortUnit → PortUnit) :
    (s.modPort q f).zoneDef z = s.zoneDef z := rfl
@[simp] theorem State.config_modPort (s : State) (q : Port) (f : PortUnit → PortUnit) :
    (s.modPort q f).config = s.config := rfl
@[simp] theorem State.uptime_modPort (s : State) (q : Port) (f : PortUnit → PortUnit) :
    (s.modPort q f).uptime = s.uptime := rfl
@[simp] theorem State.profile_modPort (s : State) (c : Link) (q : Port) (f : PortUnit → PortUnit) :
    (s.modPort q f).profile c = s.profile c := rfl
@[simp] theorem State.ageStep_modPort (s : State) (z : Nat) (q : Port) (f : PortUnit → PortUnit) :
    (s.modPort q f).ageStep z = s.ageStep z := rfl
@[simp] theorem State.attached_modPort (s : State) (c : Link) (q : Port) (f : PortUnit → PortUnit) :
    (s.modPort q f).attached c = s.attached c := rfl
@[simp] theorem State.running_modPort (s : State) (q : Port) (f : PortUnit → PortUnit) :
    (s.modPort q f).running = s.running := rfl
@[simp] theorem State.port_setLink (s : State) (p : Port) (d : Link) (u : LinkUnit) :
    (s.setLink d u).port p = s.port p := rfl
@[simp] theorem State.crew_setLink (s : State) (c : Link) (d : Link) (u : LinkUnit) :
    (s.setLink d u).crew c = s.crew c := rfl
@[simp] theorem State.slot_setLink (s : State) (c : Link) (d : Link) (u : LinkUnit) :
    (s.setLink d u).slot c = s.slot c := rfl
@[simp] theorem State.zone_setLink (s : State) (z : Nat) (d : Link) (u : LinkUnit) :
    (s.setLink d u).zone z = s.zone z := rfl
@[simp] theorem State.zoneDef_setLink (s : State) (z : Nat) (d : Link) (u : LinkUnit) :
    (s.setLink d u).zoneDef z = s.zoneDef z := rfl
@[simp] theorem State.config_setLink (s : State) (d : Link) (u : LinkUnit) : (s.setLink d u).config = s.config := rfl
@[simp] theorem State.uptime_setLink (s : State) (d : Link) (u : LinkUnit) : (s.setLink d u).uptime = s.uptime := rfl
@[simp] theorem State.profile_setLink (s : State) (c : Link) (d : Link) (u : LinkUnit) :
    (s.setLink d u).profile c = s.profile c := rfl
@[simp] theorem State.ageStep_setLink (s : State) (z : Nat) (d : Link) (u : LinkUnit) :
    (s.setLink d u).ageStep z = s.ageStep z := rfl
@[simp] theorem State.running_setLink (s : State) (d : Link) (u : LinkUnit) : (s.setLink d u).running = s.running := rfl
@[simp] theorem State.port_modLink (s : State) (p : Port) (d : Link) (f : LinkUnit → LinkUnit) :
    (s.modLink d f).port p = s.port p := rfl
@[simp] theorem State.crew_modLink (s : State) (c : Link) (d : Link) (f : LinkUnit → LinkUnit) :
    (s.modLink d f).crew c = s.crew c := rfl
@[simp] theorem State.slot_modLink (s : State) (c : Link) (d : Link) (f : LinkUnit → LinkUnit) :
    (s.modLink d f).slot c = s.slot c := rfl
@[simp] theorem State.zone_modLink (s : State) (z : Nat) (d : Link) (f : LinkUnit → LinkUnit) :
    (s.modLink d f).zone z = s.zone z := rfl
@[simp] theorem State.zoneDef_modLink (s : State) (z : Nat) (d : Link) (f : LinkUnit → LinkUnit) :
    (s.modLink d f).zoneDef z = s.zoneDef z := rfl
@[simp] theorem State.config_modLink (s : State) (d : Link) (f : LinkUnit → LinkUnit) :
    (s.modLink d f).config = s.config := rfl
@[simp] theorem State.uptime_modLink (s : State) (d : Link) (f : LinkUnit → LinkUnit) :
    (s.modLink d f).uptime = s.uptime := rfl
@[simp] theorem State.profile_modLink (s : State) (c : Link) (d : Link) (f : LinkUnit → LinkUnit) :
    (s.modLink d f).profile c = s.profile c := rfl
@[simp] theorem State.ageStep_modLink (s : State) (z : Nat) (d : Link) (f : LinkUnit → LinkUnit) :
    (s.modLink d f).ageStep z = s.ageStep z := rfl
@[simp] theorem State.running_modLink (s : State) (d : Link) (f : LinkUnit → LinkUnit) :
    (s.modLink d f).running = s.running := rfl
@[simp] theorem State.port_setCrew (s : State) (p : Port) (d : Link) (k : Crew) :
    (s.setCrew d k).port p = s.port p := rfl
@[simp] theorem State.link_setCrew (s : State) (c : Link) (d : Link) (k : Crew) :
    (s.setCrew d k).link c = s.link c := rfl
@[simp] theorem State.slot_setCrew (s : State) (c : Link) (d : Link) (k : Crew) :
    (s.setCrew d k).slot c = s.slot c := rfl
@[simp] theorem State.zone_setCrew (s : State) (z : Nat) (d : Link) (k : Crew) :
    (s.setCrew d k).zone z = s.zone z := rfl
@[simp] theorem State.zoneDef_setCrew (s : State) (z : Nat) (d : Link) (k : Crew) :
    (s.setCrew d k).zoneDef z = s.zoneDef z := rfl
@[simp] theorem State.config_setCrew (s : State) (d : Link) (k : Crew) : (s.setCrew d k).config = s.config := rfl
@[simp] theorem State.uptime_setCrew (s : State) (d : Link) (k : Crew) : (s.setCrew d k).uptime = s.uptime := rfl
@[simp] theorem State.profile_setCrew (s : State) (c : Link) (d : Link) (k : Crew) :
    (s.setCrew d k).profile c = s.profile c := rfl
@[simp] theorem State.ageStep_setCrew (s : State) (z : Nat) (d : Link) (k : Crew) :
    (s.setCrew d k).ageStep z = s.ageStep z := rfl
@[simp] theorem State.attached_setCrew (s : State) (c : Link) (d : Link) (k : Crew) :
    (s.setCrew d k).attached c = s.attached c := rfl
@[simp] theorem State.running_setCrew (s : State) (d : Link) (k : Crew) : (s.setCrew d k).running = s.running := rfl
@[simp] theorem State.port_modCrew (s : State) (p : Port) (d : Link) (f : Crew → Crew) :
    (s.modCrew d f).port p = s.port p := rfl
@[simp] theorem State.link_modCrew (s : State) (c : Link) (d : Link) (f : Crew → Crew) :
    (s.modCrew d f).link c = s.link c := rfl
@[simp] theorem State.slot_modCrew (s : State) (c : Link) (d : Link) (f : Crew → Crew) :
    (s.modCrew d f).slot c = s.slot c := rfl
@[simp] theorem State.zone_modCrew (s : State) (z : Nat) (d : Link) (f : Crew → Crew) :
    (s.modCrew d f).zone z = s.zone z := rfl
@[simp] theorem State.zoneDef_modCrew (s : State) (z : Nat) (d : Link) (f : Crew → Crew) :
    (s.modCrew d f).zoneDef z = s.zoneDef z := rfl
@[simp] theorem State.config_modCrew (s : State) (d : Link) (f : Crew → Crew) : (s.modCrew d f).config = s.config := rfl
@[simp] theorem State.uptime_modCrew (s : State) (d : Link) (f : Crew → Crew) : (s.modCrew d f).uptime = s.uptime := rfl
@[simp] theorem State.profile_modCrew (s : State) (c : Link) (d : Link) (f : Crew → Crew) :
    (s.modCrew d f).profile c = s.profile c := rfl
@[simp] theorem State.ageStep_modCrew (s : State) (z : Nat) (d : Link) (f : Crew → Crew) :
    (s.modCrew d f).ageStep z = s.ageStep z := rfl
@[simp] theorem State.attached_modCrew (s : State) (c : Link) (d : Link) (f : Crew → Crew) :
    (s.modCrew d f).attached c = s.attached c := rfl
@[simp] theorem State.running_modCrew (s : State) (d : Link) (f : Crew → Crew) :
    (s.modCrew d f).running = s.running := rfl
@[simp] theorem State.port_setSlot (s : State) (p : Port) (d : Link) (x : SheetSlot) :
    (s.setSlot d x).port p = s.port p := rfl
@[simp] theorem State.link_setSlot (s : State) (c : Link) (d : Link) (x : SheetSlot) :
    (s.setSlot d x).link c = s.link c := rfl
@[simp] theorem State.crew_setSlot (s : State) (c : Link) (d : Link) (x : SheetSlot) :
    (s.setSlot d x).crew c = s.crew c := rfl
@[simp] theorem State.zone_setSlot (s : State) (z : Nat) (d : Link) (x : SheetSlot) :
    (s.setSlot d x).zone z = s.zone z := rfl
@[simp] theorem State.zoneDef_setSlot (s : State) (z : Nat) (d : Link) (x : SheetSlot) :
    (s.setSlot d x).zoneDef z = s.zoneDef z := rfl
@[simp] theorem State.config_setSlot (s : State) (d : Link) (x : SheetSlot) : (s.setSlot d x).config = s.config := rfl
@[simp] theorem State.uptime_setSlot (s : State) (d : Link) (x : SheetSlot) : (s.setSlot d x).uptime = s.uptime := rfl
@[simp] theorem State.profile_setSlot (s : State) (c : Link) (d : Link) (x : SheetSlot) :
    (s.setSlot d x).profile c = s.profile c := rfl
@[simp] theorem State.ageStep_setSlot (s : State) (z : Nat) (d : Link) (x : SheetSlot) :
    (s.setSlot d x).ageStep z = s.ageStep z := rfl
@[simp] theorem State.attached_setSlot (s : State) (c : Link) (d : Link) (x : SheetSlot) :
    (s.setSlot d x).attached c = s.attached c := rfl
@[simp] theorem State.running_setSlot (s : State) (d : Link) (x : SheetSlot) :
    (s.setSlot d x).running = s.running := rfl
@[simp] theorem State.port_setZone (s : State) (p : Port) (y : Nat) (l : ZoneLive) :
    (s.setZone y l).port p = s.port p := rfl
@[simp] theorem State.link_setZone (s : State) (c : Link) (y : Nat) (l : ZoneLive) :
    (s.setZone y l).link c = s.link c := rfl
@[simp] theorem State.crew_setZone (s : State) (c : Link) (y : Nat) (l : ZoneLive) :
    (s.setZone y l).crew c = s.crew c := rfl
@[simp] theorem State.slot_setZone (s : State) (c : Link) (y : Nat) (l : ZoneLive) :
    (s.setZone y l).slot c = s.slot c := rfl
@[simp] theorem State.zoneDef_setZone (s : State) (z : Nat) (y : Nat) (l : ZoneLive) :
    (s.setZone y l).zoneDef z = s.zoneDef z := rfl
@[simp] theorem State.config_setZone (s : State) (y : Nat) (l : ZoneLive) : (s.setZone y l).config = s.config := rfl
@[simp] theorem State.uptime_setZone (s : State) (y : Nat) (l : ZoneLive) : (s.setZone y l).uptime = s.uptime := rfl
@[simp] theorem State.profile_setZone (s : State) (c : Link) (y : Nat) (l : ZoneLive) :
    (s.setZone y l).profile c = s.profile c := rfl
@[simp] theorem State.ageStep_setZone (s : State) (z : Nat) (y : Nat) (l : ZoneLive) :
    (s.setZone y l).ageStep z = s.ageStep z := rfl
@[simp] theorem State.attached_setZone (s : State) (c : Link) (y : Nat) (l : ZoneLive) :
    (s.setZone y l).attached c = s.attached c := rfl
@[simp] theorem State.running_setZone (s : State) (y : Nat) (l : ZoneLive) : (s.setZone y l).running = s.running := rfl
@[simp] theorem State.port_setFloor (s : State) (p : Port) (f : Int) (n : Nat) :
    (s.setFloor f n).port p = s.port p := rfl
@[simp] theorem State.link_setFloor (s : State) (c : Link) (f : Int) (n : Nat) :
    (s.setFloor f n).link c = s.link c := rfl
@[simp] theorem State.crew_setFloor (s : State) (c : Link) (f : Int) (n : Nat) :
    (s.setFloor f n).crew c = s.crew c := rfl
@[simp] theorem State.slot_setFloor (s : State) (c : Link) (f : Int) (n : Nat) :
    (s.setFloor f n).slot c = s.slot c := rfl
@[simp] theorem State.zoneDef_setFloor (s : State) (z : Nat) (f : Int) (n : Nat) :
    (s.setFloor f n).zoneDef z = s.zoneDef z := rfl
@[simp] theorem State.config_setFloor (s : State) (f : Int) (n : Nat) : (s.setFloor f n).config = s.config := rfl
@[simp] theorem State.uptime_setFloor (s : State) (f : Int) (n : Nat) : (s.setFloor f n).uptime = s.uptime := rfl
@[simp] theorem State.profile_setFloor (s : State) (c : Link) (f : Int) (n : Nat) :
    (s.setFloor f n).profile c = s.profile c := rfl
@[simp] theorem State.ageStep_setFloor (s : State) (z : Nat) (f : Int) (n : Nat) :
    (s.setFloor f n).ageStep z = s.ageStep z := rfl
@[simp] theorem State.attached_setFloor (s : State) (c : Link) (f : Int) (n : Nat) :
    (s.setFloor f n).attached c = s.attached c := rfl
@[simp] theorem State.running_setFloor (s : State) (f : Int) (n : Nat) : (s.setFloor f n).running = s.running := rfl
@[simp] theorem State.port_setAgeStep (s : State) (p : Port) (y : Nat) (t : Option Nat) :
    (s.setAgeStep y t).port p = s.port p := rfl
@[simp] theorem State.link_setAgeStep (s : State) (c : Link) (y : Nat) (t : Option Nat) :
    (s.setAgeStep y t).link c = s.link c := rfl
@[simp] theorem State.crew_setAgeStep (s : State) (c : Link) (y : Nat) (t : Option Nat) :
    (s.setAgeStep y t).crew c = s.crew c := rfl
@[simp] theorem State.slot_setAgeStep (s : State) (c : Link) (y : Nat) (t : Option Nat) :
    (s.setAgeStep y t).slot c = s.slot c := rfl
@[simp] theorem State.zone_setAgeStep (s : State) (z : Nat) (y : Nat) (t : Option Nat) :
    (s.setAgeStep y t).zone z = s.zone z := rfl
@[simp] theorem State.zoneDef_setAgeStep (s : State) (z : Nat) (y : Nat) (t : Option Nat) :
    (s.setAgeStep y t).zoneDef z = s.zoneDef z := rfl
@[simp] theorem State.config_setAgeStep (s : State) (y : Nat) (t : Option Nat) :
    (s.setAgeStep y t).config = s.config := rfl
@[simp] theorem State.uptime_setAgeStep (s : State) (y : Nat) (t : Option Nat) :
    (s.setAgeStep y t).uptime = s.uptime := rfl
@[simp] theorem State.profile_setAgeStep (s : State) (c : Link) (y : Nat) (t : Option Nat) :
    (s.setAgeStep y t).profile c = s.profile c := rfl
@[simp] theorem State.attached_setAgeStep (s : State) (c : Link) (y : Nat) (t : Option Nat) :
    (s.setAgeStep y t).attached c = s.attached c := rfl
@[simp] theorem State.running_setAgeStep (s : State) (y : Nat) (t : Option Nat) :
    (s.setAgeStep y t).running = s.running := rfl
@[simp] theorem State.zone_setFloor (s : State) (z : Nat) (f : Int) (n : Nat) :
    (s.setFloor f n).zone z = s.zone z := rfl

/-- An effect for each link in turn that keeps to a transitive relation keeps to it. -/
theorem eachLink_rel {R : State → State → Prop} (trans : ∀ {s t u}, R s t → R t u → R s u)
    {f : Link → State → State} (h : ∀ c s, R s (f c s)) (s : State) : R s (eachLink f s) :=
  trans (trans (trans (h .l1 s) (h .l2 _)) (h .l3 _)) (h .l4 _)

/-- An effect for each member of a list in turn that keeps to a reflexive, transitive relation keeps to it. -/
theorem foldl_rel {α : Type} {R : State → State → Prop} (refl : ∀ s, R s s)
    (trans : ∀ {s t u}, R s t → R t u → R s u) {f : State → α → State} (h : ∀ s a, R s (f s a)) (l : List α) (s : State) :
    R s (l.foldl f s) := by
  induction l generalizing s with
  | nil => exact refl s
  | cons a l ih => exact trans (h s a) (ih _)

/-- `t` is `s` but for the crews. -/
def CrewsOnly (s t : State) : Prop := t = { s with nr := t.nr }

theorem CrewsOnly.refl (s : State) : CrewsOnly s s := rfl

theorem CrewsOnly.trans {s t u : State} (h : CrewsOnly s t) (g : CrewsOnly t u) : CrewsOnly s u := by
  unfold CrewsOnly at *
  rw [g, h]

/-- `t` is `s` but for the crews and the zones' live records and schedules. -/
def PictureOnly (s t : State) : Prop :=
  t = { s with nr := t.nr, zp := { s.zp with live := t.zp.live }, ageSteps := t.ageSteps }

theorem PictureOnly.refl (s : State) : PictureOnly s s := rfl

theorem PictureOnly.trans {s t u : State} (h : PictureOnly s t) (g : PictureOnly t u) : PictureOnly s u := by
  unfold PictureOnly at *
  rw [g, h]

theorem CrewsOnly.pictureOnly {s t : State} (h : CrewsOnly s t) : PictureOnly s t := by
  unfold CrewsOnly PictureOnly at *
  rw [h]

/-- A command's effect while the controller runs. -/
@[simp] theorem whenRunning_of_running {s : State} (h : s.running = true) (f : State → State) : whenRunning s f = f s := by
  simp [whenRunning, h]

/-- A command's effect while the relay is CLOSED: none. -/
@[simp] theorem whenRunning_of_closed {s : State} (h : s.running = false) (f : State → State) : whenRunning s f = s := by
  simp [whenRunning, h]

end Sys2Proof.Machine
end

