-- ==== Sys2Proof/Laws/Arbiters.lean ====
section
/-! SUPPORT. What ends an event: each arbiter changes only what `ArbitersOnly` names. -/

namespace Sys2Proof.Machine

/-! ### The relation -/

theorem ArbitersOnly.refl (s : State) : ArbitersOnly s s :=
  ⟨rfl, fun _ => rfl, fun _ => rfl, rfl, fun _ => rfl, fun _ => rfl, fun _ => rfl⟩

theorem ArbitersOnly.trans {s t u : State} (h : ArbitersOnly s t) (g : ArbitersOnly t u) : ArbitersOnly s u := by
  obtain ⟨h1, h2, h3, h4, h5, h6, h7⟩ := h
  obtain ⟨g1, g2, g3, g4, g5, g6, g7⟩ := g
  refine ⟨?_, fun c => ?_, fun c => ?_, ?_, fun c => (g5 c).trans (h5 c), fun c => (g6 c).trans (h6 c),
    fun c => (g7 c).trans (h7 c)⟩
  · rw [g1, h1]
  · rw [g2 c, h2 c]
  · rw [g3 c, h3 c]
  · rw [g4, h4]

/-! ### Its fields -/

section fields
variable {s t : State} (h : ArbitersOnly s t)
include h

theorem ArbitersOnly.ti : t.ti = s.ti := by rw [h.1]
theorem ArbitersOnly.tables : t.tables = s.tables := by rw [h.1]
theorem ArbitersOnly.orphans : t.orphans = s.orphans := by rw [h.1]
theorem ArbitersOnly.zp : t.zp = s.zp := by rw [h.1]
theorem ArbitersOnly.ageSteps : t.ageSteps = s.ageSteps := by rw [h.1]
theorem ArbitersOnly.mr : t.mr = s.mr := by rw [h.1]
theorem ArbitersOnly.tb : t.tb = s.tb := by rw [h.1]
theorem ArbitersOnly.sc : t.sc = s.sc := by rw [h.1]
theorem ArbitersOnly.planMem : t.planMem = s.planMem := by rw [h.1]
theorem ArbitersOnly.fresh : t.fresh = s.fresh := by rw [h.1]
theorem ArbitersOnly.pending : t.pending = s.pending := by rw [h.1]
theorem ArbitersOnly.crew (c : Link) : t.crew c = { s.crew c with flight := (t.crew c).flight } := h.2.1 c
theorem ArbitersOnly.link (c : Link) :
    t.link c = { s.link c with writing := (t.link c).writing, txFifo := (t.link c).txFifo } := h.2.2.1 c
theorem ArbitersOnly.staging : t.ss.staging = s.ss.staging := by rw [h.2.2.2.1]
theorem ArbitersOnly.planFaults : t.ss.planFaults = s.ss.planFaults := by rw [h.2.2.2.1]
theorem ArbitersOnly.queue (c : Link) : (t.slot c).queue = (s.slot c).queue := h.2.2.2.2.1 c
theorem ArbitersOnly.sheet (c : Link) :
    (t.slot c).transfer.map Transfer.sheet = (s.slot c).transfer.map Transfer.sheet := h.2.2.2.2.2.1 c
theorem ArbitersOnly.drainSpan (c : Link) :
    (t.slot c).transfer.map Transfer.drainSpan = (s.slot c).transfer.map Transfer.drainSpan := h.2.2.2.2.2.2 c
theorem ArbitersOnly.attached (c : Link) : t.attached c = s.attached c := by
  unfold State.attached
  rw [h.link c]
theorem ArbitersOnly.running : t.running = s.running := by
  unfold State.running
  rw [h.ti]
theorem ArbitersOnly.zone (z : Nat) : t.zone z = s.zone z := by
  unfold State.zone
  rw [h.zp]
theorem ArbitersOnly.port (p : Port) : t.port p = s.port p := by
  unfold State.port
  rw [h.ti]
end fields

/-! ### Writes it allows -/

/-- A slot rewritten with its queue, its sheet and its drain span index kept. -/
theorem ArbitersOnly.setSlot (s : State) (c : Link) (x : SheetSlot) (hq : x.queue = (s.slot c).queue)
    (hs : x.transfer.map Transfer.sheet = (s.slot c).transfer.map Transfer.sheet)
    (hd : x.transfer.map Transfer.drainSpan = (s.slot c).transfer.map Transfer.drainSpan) :
    ArbitersOnly s (s.setSlot c x) := by
  refine ⟨rfl, fun _ => rfl, fun _ => rfl, rfl, fun d => ?_, fun d => ?_, fun d => ?_⟩ <;>
    rw [State.slot_setSlot] <;> split <;> simp_all

/-- A link rewritten with all but its frame being written and its transmit FIFO kept. -/
theorem ArbitersOnly.setLink (s : State) (c : Link) (w : Option Writing) (q : List Byte) :
    ArbitersOnly s (s.setLink c { s.link c with writing := w, txFifo := q }) := by
  refine ⟨rfl, fun _ => rfl, fun d => ?_, rfl, fun _ => rfl, fun _ => rfl, fun _ => rfl⟩
  rw [State.link_setLink]
  split
  · subst_vars
    rfl
  · rfl

/-- A crew given another notice in flight. -/
theorem ArbitersOnly.setFlight (s : State) (c : Link) (f : Option Flight) :
    ArbitersOnly s (s.modCrew c (fun k => { k with flight := f })) := by
  refine ⟨rfl, fun d => ?_, fun _ => rfl, rfl, fun _ => rfl, fun _ => rfl, fun _ => rfl⟩
  rw [State.crew_modCrew]
  split
  · subst_vars
    rfl
  · rfl

/-- The reader, the waiting operation and the last crew granted rewritten. -/
theorem ArbitersOnly.setReader (s : State) (r : Option ReaderOp) (w : Option WaitingOp) (g : Link) :
    ArbitersOnly s { s with ss := { s.ss with reader := r, waiting := w, lastGranted := g } } :=
  ⟨rfl, fun _ => rfl, fun _ => rfl, rfl, fun _ => rfl, fun _ => rfl, fun _ => rfl⟩

/-! ### The plan reader's arbiter (R144, R145, R147) -/

@[simp] theorem SheetSlot.setBuf_queue (x : SheetSlot) (i : BufId) (b : SpanBuf) : (x.setBuf i b).queue = x.queue := by
  cases i <;> rfl
@[simp] theorem SheetSlot.setBuf_transfer (x : SheetSlot) (i : BufId) (b : SpanBuf) :
    (x.setBuf i b).transfer = x.transfer := by cases i <;> rfl
@[simp] theorem SheetSlot.buf_setBuf_self (x : SheetSlot) (i : BufId) (b : SpanBuf) : (x.setBuf i b).buf i = b := by
  cases i <;> rfl
theorem SheetSlot.buf_setBuf (x : SheetSlot) (i j : BufId) (b : SpanBuf) :
    (x.setBuf i b).buf j = if j = i then b else x.buf j := by cases i <;> cases j <;> rfl

@[simp] theorem SheetSlot.enterFault_queue (x : SheetSlot) (i : BufId) (k : Nat) (f : FaultCause) :
    (x.enterFault i k f).queue = x.queue := by simp [SheetSlot.enterFault]

theorem ArbitersOnly.enterFault (s : State) (c : Link) (i : BufId) (k : Nat) (f : FaultCause) :
    ArbitersOnly s (s.setSlot c ((s.slot c).enterFault i k f)) := by
  apply ArbitersOnly.setSlot <;> cases h : (s.slot c).transfer <;> simp [SheetSlot.enterFault, h]

theorem arbitersOnly_enterDue (c : Link) (s : State) : ArbitersOnly s (enterDue c s) := by
  unfold enterDue
  split
  · exact .refl s
  · split
    · exact .refl s
    · split
      · exact .enterFault ..
      · exact .refl s

theorem arbitersOnly_grant (c : Link) (s : State) : ArbitersOnly s (grant c s) := by
  unfold grant
  split
  · exact .refl s
  · rename_i t ht
    have h1 : ArbitersOnly s { s with ss := { s.ss with lastGranted := c } } :=
      .setReader s s.ss.reader s.ss.waiting c
    dsimp only
    split
    · refine (h1.trans (.setSlot _ c _ ?_ ?_ ?_)).trans (.setReader _ _ _ _)
      · exact SheetSlot.setBuf_queue ..
      · exact (congrArg (Option.map Transfer.sheet) ht).symm
      · exact (congrArg (Option.map Transfer.drainSpan) ht).symm
    · exact h1.trans (.enterFault { s with ss := { s.ss with lastGranted := c } } c _ _ _)

theorem arbitersOnly_chooseOnce (s : State) : ArbitersOnly s (chooseOnce s) := by
  unfold chooseOnce
  split
  · exact .refl s
  · split
    · exact .setReader ..
    · split
      · exact arbitersOnly_grant ..
      · exact .refl s

/-- The plan reader's arbiter changes only what `ArbitersOnly` names. -/
theorem arbitersOnly_readerArbiter (s : State) : ArbitersOnly s (readerArbiter s) := by
  have h : ArbitersOnly s (eachLink enterDue s) :=
    eachLink_rel (R := ArbitersOnly) ArbitersOnly.trans arbitersOnly_enterDue s
  have step : ∀ {u}, ArbitersOnly s u → ArbitersOnly s (chooseOnce u) := fun hu => hu.trans (arbitersOnly_chooseOnce _)
  exact step (step (step (step (step h))))

/-! ### The writer and the frame arbiter (R128, R129) -/

theorem arbitersOnly_noteDrained (c : Link) (o : Owner) (n : Nat) (s : State) : ArbitersOnly s (noteDrained c o n s) := by
  unfold noteDrained
  split
  · apply ArbitersOnly.setSlot <;> simp
  · exact .refl s

theorem arbitersOnly_writerFill (c : Link) (s : State) : ArbitersOnly s (writerFill c s) := by
  unfold writerFill
  dsimp only
  split
  · exact .refl s
  · exact (ArbitersOnly.setLink ..).trans (arbitersOnly_noteDrained ..)

theorem arbitersOnly_beginFrame (c : Link) (o : Owner) (cs : List OutChar) (s : State) :
    ArbitersOnly s (beginFrame c o cs s) :=
  (ArbitersOnly.setLink s c (some ⟨o, cs⟩) (s.link c).txFifo).trans (arbitersOnly_writerFill ..)

/-- A link's frame arbiter changes only what `ArbitersOnly` names. -/
theorem arbitersOnly_linkArbiter (c : Link) (s : State) : ArbitersOnly s (linkArbiter c s) := by
  unfold linkArbiter
  split
  · split
    · exact arbitersOnly_beginFrame ..
    · split
      · exact (ArbitersOnly.setFlight ..).trans (arbitersOnly_beginFrame ..)
      · split
        · refine (ArbitersOnly.setSlot _ c _ ?_ ?_ ?_).trans (arbitersOnly_beginFrame ..) <;> simp
        · exact .refl s
  · exact .refl s

/-- What ends an event changes only what `ArbitersOnly` names. -/
theorem arbitersOnly_settle (s : State) : ArbitersOnly s (settle s) := by
  have h : ArbitersOnly (readerArbiter s) (eachLink linkArbiter (readerArbiter s)) :=
    eachLink_rel (R := ArbitersOnly) ArbitersOnly.trans arbitersOnly_linkArbiter _
  exact (arbitersOnly_readerArbiter s).trans h

/-! ### The fields an event's end leaves -/

@[simp] theorem settle_ti (s : State) : (settle s).ti = s.ti := (arbitersOnly_settle s).ti
@[simp] theorem settle_tables (s : State) : (settle s).tables = s.tables := (arbitersOnly_settle s).tables
@[simp] theorem settle_orphans (s : State) : (settle s).orphans = s.orphans := (arbitersOnly_settle s).orphans
@[simp] theorem settle_zp (s : State) : (settle s).zp = s.zp := (arbitersOnly_settle s).zp
@[simp] theorem settle_ageSteps (s : State) : (settle s).ageSteps = s.ageSteps := (arbitersOnly_settle s).ageSteps
@[simp] theorem settle_mr (s : State) : (settle s).mr = s.mr := (arbitersOnly_settle s).mr
@[simp] theorem settle_tb (s : State) : (settle s).tb = s.tb := (arbitersOnly_settle s).tb
@[simp] theorem settle_sc (s : State) : (settle s).sc = s.sc := (arbitersOnly_settle s).sc
@[simp] theorem settle_planMem (s : State) : (settle s).planMem = s.planMem := (arbitersOnly_settle s).planMem
@[simp] theorem settle_fresh (s : State) : (settle s).fresh = s.fresh := (arbitersOnly_settle s).fresh
@[simp] theorem settle_pending (s : State) : (settle s).pending = s.pending := (arbitersOnly_settle s).pending
@[simp] theorem settle_staging (s : State) : (settle s).ss.staging = s.ss.staging := (arbitersOnly_settle s).staging
@[simp] theorem settle_planFaults (s : State) : (settle s).ss.planFaults = s.ss.planFaults :=
  (arbitersOnly_settle s).planFaults
@[simp] theorem settle_zone (s : State) (z : Nat) : (settle s).zone z = s.zone z := (arbitersOnly_settle s).zone z
@[simp] theorem settle_port (s : State) (p : Port) : (settle s).port p = s.port p := (arbitersOnly_settle s).port p
@[simp] theorem settle_running (s : State) : (settle s).running = s.running := (arbitersOnly_settle s).running
@[simp] theorem settle_attached (s : State) (c : Link) : (settle s).attached c = s.attached c :=
  (arbitersOnly_settle s).attached c
@[simp] theorem settle_queue (s : State) (c : Link) : ((settle s).slot c).queue = (s.slot c).queue :=
  (arbitersOnly_settle s).queue c

end Sys2Proof.Machine
end

