-- ==== Sys2Proof/Laws/Links.lean ====
section
/-! SUPPORT. The character receiver of a port or a link, and what the updates of a link leave of it. -/

namespace Sys2Proof.Machine

/-! ### The character receiver (R1, R111) -/

/-- All that following the line can do to a receiver: open a character at a change from marking to spacing, take a line
back at marking at the middle of the start bit for noise, end the wait at marking, or leave it. -/
theorem Receiver.follow_cases (r : Receiver) (old new : Level) (m : Bool) :
    r = .idle ∧ old = .marking ∧ new = .spacing ∧ r.follow old new m = .receiving ∨
    r = .receiving ∧ new = .marking ∧ m = true ∧ r.follow old new m = .idle ∨
    r = .waitMarking ∧ new = .marking ∧ r.follow old new m = .idle ∨ r.follow old new m = r := by
  cases r <;> cases old <;> cases new <;> cases m <;> simp [Receiver.follow]

@[simp] theorem Receiver.follow_opens (m : Bool) : Receiver.idle.follow .marking .spacing m = .receiving := rfl
@[simp] theorem Receiver.follow_same (m : Bool) : Receiver.idle.follow .spacing .spacing m = .idle := rfl
@[simp] theorem Receiver.follow_idle (old : Level) (m : Bool) : Receiver.idle.follow old .marking m = .idle := by
  cases old <;> rfl
@[simp] theorem Receiver.follow_receiving (old : Level) (m : Bool) :
    Receiver.receiving.follow old .marking m = if m then .idle else .receiving := by cases old <;> rfl
@[simp] theorem Receiver.follow_wait (old : Level) (m : Bool) : Receiver.waitMarking.follow old .marking m = .idle := by
  cases old <;> rfl

@[simp] theorem lineTo_spacing : lineTo .spacing = .spacing := rfl
@[simp] theorem lineTo_marking (m : Bool) : lineTo (.marking m) = .marking := rfl
@[simp] theorem noiseStart_spacing : noiseStart .spacing = false := rfl
@[simp] theorem noiseStart_marking (m : Bool) : noiseStart (.marking m) = m := rfl
@[simp] theorem PortUnit.lineLevel_level (u : PortUnit) (l : LineChange) : (u.lineLevel l).level = lineTo l := rfl
@[simp] theorem PortUnit.lineLevel_receiver (u : PortUnit) (l : LineChange) :
    (u.lineLevel l).receiver = u.receiver.follow u.level (lineTo l) (noiseStart l) := rfl
@[simp] theorem PortUnit.lineLevel_asm (u : PortUnit) (l : LineChange) : (u.lineLevel l).asm = u.asm := rfl

/-! ### A character heard on a link -/

section heard
variable (u : LinkUnit) (ch : LineChar)
@[simp] theorem LinkUnit.heard_rx : (u.heard ch).rx = stopLevel ch := rfl
@[simp] theorem LinkUnit.heard_receiver : (u.heard ch).receiver = receiverAfter ch := rfl
@[simp] theorem LinkUnit.heard_state : (u.heard ch).state = u.state := rfl
@[simp] theorem LinkUnit.heard_asm : (u.heard ch).asm = u.asm := rfl
@[simp] theorem LinkUnit.heard_waiting : (u.heard ch).waiting = u.waiting := rfl
@[simp] theorem LinkUnit.heard_replies : (u.heard ch).replies = u.replies := rfl
@[simp] theorem LinkUnit.heard_ctrlReady : (u.heard ch).ctrlReady = u.ctrlReady := rfl
@[simp] theorem LinkUnit.heard_txFifo : (u.heard ch).txFifo = u.txFifo := rfl
@[simp] theorem LinkUnit.heard_rxErrors : (u.heard ch).rxErrors = u.rxErrors := rfl
@[simp] theorem LinkUnit.heard_rxHeld : (u.heard ch).rxHeld = u.rxHeld := rfl
end heard

/-- Judging controller-ready moves controller-ready alone (R122). -/
theorem LinkUnit.judgeReady_eq (u : LinkUnit) : u.judgeReady = { u with ctrlReady := u.judgeReady.ctrlReady } := by
  unfold LinkUnit.judgeReady
  split <;> (try split) <;> rfl

/-- Characters are formed only on an ATTACHED link whose receiver does not wait for marking (R111). -/
theorem crewChar_unformed {c : Link} {s : State} (ch : LineChar)
    (h : s.attached c = false ∨ (s.link c).receiver = .waitMarking) : crewChar c ch s = s := by
  unfold crewChar
  rw [if_neg]
  rintro ⟨ha, hr⟩
  rcases h with h | h
  · simp [h] at ha
  · exact hr h

end Sys2Proof.Machine
end

