-- ==== Sys2Proof/Laws/Tables.lean ====
section
/-! SUPPORT. Tables, zone sets and memories: what reads give after writes, and that every write keeps the canonical form. -/

namespace Sys2Proof.Machine

variable {α : Type}

/-! ### Reading a table -/

/-- A dropped key reads as the default; other keys read as before. -/
theorem Tab.get_drop (d : α) (t : Tab α) (k j : Nat) :
    Tab.get d (Tab.drop t k) j = if j = k then d else Tab.get d t j := by
  induction t with
  | nil => simp [Tab.drop, Tab.get]
  | cons e t ih =>
    simp only [Tab.drop] at ih
    by_cases h : e.1 = k
    · have hk : (e.1 != k) = false := by simp [h]
      rw [Tab.drop, List.filter_cons, hk]
      simp only [Bool.false_eq_true, if_false, ih, Tab.get, h]
      by_cases hj : j = k
      · simp [hj]
      · simp [hj, Ne.symm hj]
    · have hk : (e.1 != k) = true := by simp [h]
      rw [Tab.drop, List.filter_cons, hk]
      simp only [if_true, Tab.get, ih]
      by_cases hj : e.1 = j
      · have : j ≠ k := fun hc => h (hj.trans hc)
        simp [hj, this]
      · simp [hj]

/-- A placed key reads as its value, if it was not listed before it; other keys read as before. -/
theorem Tab.get_place (d : α) (t : Tab α) (k j : Nat) (v : α) (h : ∀ e ∈ t, e.1 ≠ k) :
    Tab.get d (Tab.place t k v) j = if j = k then v else Tab.get d t j := by
  induction t with
  | nil => simp [Tab.place, Tab.get, eq_comm]
  | cons e t ih =>
    have he : e.1 ≠ k := h e (by simp)
    have ih := ih (fun e he => h e (by simp [he]))
    rw [Tab.place]
    by_cases hk : k < e.1
    · simp [hk, Tab.get, eq_comm]
    · rw [if_neg hk]
      simp only [Tab.get, ih]
      by_cases hj : e.1 = j
      · have : j ≠ k := fun hc => he (hj.trans hc)
        simp [hj, this]
      · simp [hj]

/-- No entry of a dropped key is left. -/
theorem Tab.key_drop {t : Tab α} {k : Nat} {e : Nat × α} (h : e ∈ Tab.drop t k) : e.1 ≠ k := by
  simp only [Tab.drop, List.mem_filter, bne_iff_ne] at h
  exact h.2

/-- After a key takes a value, it reads as the value and every other key as before. -/
theorem Tab.get_put [DecidableEq α] (d : α) (t : Tab α) (k j : Nat) (v : α) :
    Tab.get d (Tab.put d t k v) j = if j = k then v else Tab.get d t j := by
  unfold Tab.put
  split
  · subst_vars
    exact Tab.get_drop ..
  · rw [Tab.get_place d _ k j v (fun e he => Tab.key_drop he), Tab.get_drop]
    split <;> simp_all

@[simp] theorem Tab.get_put_self [DecidableEq α] (d : α) (t : Tab α) (k : Nat) (v : α) :
    Tab.get d (Tab.put d t k v) k = v := by simp [Tab.get_put]

theorem Tab.get_put_ne [DecidableEq α] (d : α) (t : Tab α) {k j : Nat} (v : α) (h : j ≠ k) :
    Tab.get d (Tab.put d t k v) j = Tab.get d t j := by simp [Tab.get_put, h]

@[simp] theorem Tab.get_nil (d : α) (k : Nat) : Tab.get d ([] : Tab α) k = d := rfl

/-- A listed entry of a table with no key twice is what its key reads as. -/
theorem Tab.get_of_mem {d : α} {t : Tab α} (hs : t.Pairwise (fun a b => a.1 < b.1)) {e : Nat × α} (he : e ∈ t) :
    Tab.get d t e.1 = e.2 := by
  induction t with
  | nil => simp at he
  | cons x t ih =>
    rw [List.pairwise_cons] at hs
    rcases List.mem_cons.1 he with rfl | he
    · simp [Tab.get]
    · have := hs.1 e he
      simp [Tab.get, Nat.ne_of_lt this, ih hs.2 he]

/-- A key that reads as something other than the default is listed. -/
theorem Tab.mem_of_get {d : α} {t : Tab α} {k : Nat} (h : Tab.get d t k ≠ d) : (k, Tab.get d t k) ∈ t := by
  induction t with
  | nil => simp [Tab.get] at h
  | cons x t ih =>
    by_cases hx : x.1 = k
    · subst hx
      simp [Tab.get]
    · simp only [Tab.get, hx, if_false] at h ⊢
      exact List.mem_cons_of_mem _ (ih h)

/-! ### The canonical form -/

theorem Tab.wf_iff [DecidableEq α] (d : α) (t : Tab α) :
    Tab.wf d t = true ↔ t.Pairwise (fun a b => a.1 < b.1) ∧ ∀ e ∈ t, e.2 ≠ d := by
  simp [Tab.wf]

/-- An entry of a table after a place was there before, or is the placed one. -/
theorem Tab.mem_place {t : Tab α} {k : Nat} {v : α} {e : Nat × α} (h : e ∈ Tab.place t k v) : e = (k, v) ∨ e ∈ t := by
  induction t with
  | nil => simpa [Tab.place] using h
  | cons x t ih =>
    unfold Tab.place at h
    split at h
    · simpa using h
    · rcases List.mem_cons.1 h with rfl | h
      · simp
      · rcases ih h with h | h <;> simp [h]

theorem Tab.sorted_place {t : Tab α} {k : Nat} {v : α} (hs : t.Pairwise (fun a b => a.1 < b.1))
    (h : ∀ e ∈ t, e.1 ≠ k) : (Tab.place t k v).Pairwise (fun a b => a.1 < b.1) := by
  induction t with
  | nil => simp [Tab.place]
  | cons x t ih =>
    rw [List.pairwise_cons] at hs
    unfold Tab.place
    split
    · rename_i hk
      rw [List.pairwise_cons, List.pairwise_cons]
      refine ⟨?_, hs⟩
      intro e he
      rcases List.mem_cons.1 he with rfl | he
      · exact hk
      · exact Nat.lt_trans hk (hs.1 e he)
    · rename_i hk
      rw [List.pairwise_cons]
      refine ⟨?_, ih hs.2 (fun e he => h e (by simp [he]))⟩
      intro e he
      have hx : x.1 ≠ k := h x (by simp)
      rcases Tab.mem_place he with rfl | he
      · show x.1 < k
        omega
      · exact hs.1 e he

/-- Removing a key keeps the canonical form. -/
theorem Tab.wf_drop [DecidableEq α] {d : α} {t : Tab α} (h : Tab.wf d t = true) (k : Nat) :
    Tab.wf d (Tab.drop t k) = true := by
  rw [Tab.wf_iff] at h ⊢
  exact ⟨h.1.filter _, fun e he => h.2 e (List.mem_filter.1 he).1⟩

/-- Writing a key keeps the canonical form. -/
theorem Tab.wf_put [DecidableEq α] {d : α} {t : Tab α} (h : Tab.wf d t = true) (k : Nat) (v : α) :
    Tab.wf d (Tab.put d t k v) = true := by
  unfold Tab.put
  split
  · exact Tab.wf_drop h k
  · rename_i hv
    have h' := (Tab.wf_iff d _).1 (Tab.wf_drop h k)
    rw [Tab.wf_iff]
    refine ⟨Tab.sorted_place h'.1 (fun e he => Tab.key_drop he), fun e he => ?_⟩
    rcases Tab.mem_place he with rfl | he
    · exact hv
    · exact h'.2 e he

/-- Replacing every value keeps the canonical form. -/
theorem Tab.wf_mapAll [DecidableEq α] {d : α} {t : Tab α} (h : Tab.wf d t = true) (f : α → α) :
    Tab.wf d (Tab.mapAll d f t) = true := by
  rw [Tab.wf_iff] at h ⊢
  refine ⟨List.Pairwise.filter _ (List.pairwise_map.2 h.1), fun e he => ?_⟩
  simpa using (List.mem_filter.1 he).2

/-- Every key of a canonical table reads as the image of what it read as, when the default is its own image. -/
theorem Tab.get_mapAll [DecidableEq α] {d : α} {t : Tab α} (h : Tab.wf d t = true) {f : α → α} (hf : f d = d) (k : Nat) :
    Tab.get d (Tab.mapAll d f t) k = f (Tab.get d t k) := by
  have hs := ((Tab.wf_iff d t).1 h).1
  clear h
  induction t with
  | nil => simp [Tab.mapAll, Tab.get, hf]
  | cons e t ih =>
    rw [List.pairwise_cons] at hs
    have ih := ih hs.2
    simp only [Tab.mapAll] at ih
    by_cases he : f e.2 = d
    · by_cases hk : e.1 = k
      · have hn : ∀ x ∈ List.filter (fun x => x.2 != d) (List.map (fun x => (x.1, f x.2)) t), x.1 ≠ k := by
          intro x hx
          simp only [List.mem_filter, List.mem_map] at hx
          obtain ⟨⟨y, hy, rfl⟩, -⟩ := hx
          have := hs.1 y hy
          simp only
          omega
        have hg : ∀ u : Tab α, (∀ x ∈ u, x.1 ≠ k) → Tab.get d u k = d := by
          intro u hu
          by_contra hc
          exact hu _ (Tab.mem_of_get hc) rfl
        simp [Tab.mapAll, he, Tab.get, hk, hg _ hn]
      · simp [Tab.mapAll, he, Tab.get, hk, ih]
    · by_cases hk : e.1 = k <;> simp [Tab.mapAll, he, Tab.get, hk, ih]

theorem Tab.wf_nil [DecidableEq α] (d : α) : Tab.wf d ([] : Tab α) = true := rfl

/-! ### Zone sets -/

@[simp] theorem ZSet.mem_place (s : ZSet) (z y : Nat) : y ∈ ZSet.place s z ↔ y = z ∨ y ∈ s := by
  induction s with
  | nil => simp [ZSet.place]
  | cons x s ih =>
    unfold ZSet.place
    split
    · simp
    · split
      · subst_vars
        simp
      · simp only [List.mem_cons, ih]
        tauto

/-- Putting a zone into an ascending set keeps it ascending. -/
theorem ZSet.sorted_place {s : ZSet} (h : s.Pairwise (· < ·)) (z : Nat) : (ZSet.place s z).Pairwise (· < ·) := by
  induction s with
  | nil => simp [ZSet.place]
  | cons x s ih =>
    rw [List.pairwise_cons] at h
    unfold ZSet.place
    split
    · rename_i hz
      rw [List.pairwise_cons, List.pairwise_cons]
      refine ⟨fun y hy => ?_, h⟩
      rcases List.mem_cons.1 hy with rfl | hy
      · exact hz
      · exact Nat.lt_trans hz (h.1 y hy)
    · split
      · exact List.pairwise_cons.2 h
      · rw [List.pairwise_cons]
        refine ⟨fun y hy => ?_, ih h.2⟩
        rcases (ZSet.mem_place s z y).1 hy with rfl | hy
        · omega
        · exact h.1 y hy

@[simp] theorem mem_without (s : List Nat) (z y : Nat) : y ∈ without s z ↔ y ∈ s ∧ y ≠ z := by
  simp [without]

theorem sorted_without {s : List Nat} (h : s.Pairwise (· < ·)) (z : Nat) : (without s z).Pairwise (· < ·) := h.filter _

/-! ### Plan memory and the staging buffer -/

/-- After bytes are written from an address on, each of them reads back, and every other address reads as before. -/
theorem readPlan_writePlanRange (m : Tab Byte) (a j : Nat) (bs : List Byte) :
    readPlan (writePlanRange m a bs) j = if a ≤ j ∧ j < a + bs.length then bs.getD (j - a) 0 else readPlan m j := by
  induction bs generalizing m a with
  | nil =>
    have : ¬ (a ≤ j ∧ j < a) := by omega
    simp [writePlanRange, this]
  | cons b bs ih =>
    rw [writePlanRange, ih]
    simp only [List.length_cons]
    by_cases h1 : a + 1 ≤ j ∧ j < a + 1 + bs.length
    · have h2 : a ≤ j ∧ j < a + (bs.length + 1) := by omega
      have h3 : j - a = (j - (a + 1)) + 1 := by omega
      simp [h1, h2, h3]
    · rw [if_neg h1]
      by_cases h2 : j = a
      · subst h2
        simp [readPlan]
      · have h3 : ¬ (a ≤ j ∧ j < a + (bs.length + 1)) := by omega
        rw [if_neg h3]
        simp [readPlan, Tab.get_put, h2]

/-- Writing bytes keeps the plan memory's canonical form. -/
theorem wf_writePlanRange {m : Tab Byte} (h : Tab.wf Config.planErased m = true) (a : Nat) (bs : List Byte) :
    Tab.wf Config.planErased (writePlanRange m a bs) = true := by
  induction bs generalizing m a with
  | nil => exact h
  | cons b bs ih => exact ih (Tab.wf_put h a b) (a + 1)

/-- After bytes are staged from an offset on, each of them reads back, and every other offset reads as before. -/
theorem get_stageBytes (t : Tab Byte) (o j : Nat) (bs : List Byte) :
    Tab.get Config.stagingStart (stageBytes t o bs) j =
      if o ≤ j ∧ j < o + bs.length then bs.getD (j - o) 0 else Tab.get Config.stagingStart t j :=
  (by
    have h : ∀ (t : Tab Byte) (o : Nat) (bs : List Byte), stageBytes t o bs = writePlanRange t o bs := by
      intro t o bs
      induction bs generalizing t o with
      | nil => rfl
      | cons b bs ih => exact ih _ _
    rw [h]
    exact readPlan_writePlanRange t o j bs)

/-- Staging bytes keeps the staging buffer's canonical form. -/
theorem wf_stageBytes {t : Tab Byte} (h : Tab.wf Config.stagingStart t = true) (o : Nat) (bs : List Byte) :
    Tab.wf Config.stagingStart (stageBytes t o bs) = true := by
  induction bs generalizing t o with
  | nil => exact h
  | cons b bs ih => exact ih (Tab.wf_put h o b) (o + 1)

@[simp] theorem length_readPlanRange (m : Tab Byte) (a n : Nat) : (readPlanRange m a n).length = n := by
  induction n generalizing a with
  | zero => rfl
  | succ n ih => simp [readPlanRange, ih]

/-- A byte of a read of plan memory. -/
theorem getD_readPlanRange (m : Tab Byte) (a n i : Nat) (h : i < n) : (readPlanRange m a n).getD i 0 = readPlan m (a + i) := by
  induction n generalizing a i with
  | zero => omega
  | succ n ih =>
    cases i with
    | zero => simp [readPlanRange]
    | succ i =>
      have := ih (a + 1) i (by omega)
      simp only [readPlanRange, List.getD_cons_succ, this]
      congr 1
      omega

@[simp] theorem length_stagedBytes (t : Tab Byte) : (stagedBytes t).length = 256 := by simp [stagedBytes]

@[simp] theorem length_leftBytes (n : Nat) : (leftBytes n).length = 256 := by simp [leftBytes]

/-! ### Zones and floors of the state -/

theorem State.zone_setZone (s : State) (z y : Nat) (l : ZoneLive) :
    (s.setZone z l).zone y = if y = z then l else s.zone y := Tab.get_put ..

@[simp] theorem State.zone_setZone_self (s : State) (z : Nat) (l : ZoneLive) : (s.setZone z l).zone z = l := by
  simp [State.zone_setZone]

theorem State.ageStep_setAgeStep (s : State) (z y : Nat) (t : Option Nat) :
    (s.setAgeStep z t).ageStep y = if y = z then t else s.ageStep y := Tab.get_put ..

/-- A floor's count after another count has been set; floors from -8 up have keys of their own. -/
theorem State.floorCount_setFloor (s : State) (f g : Int) (n : Nat) (hf : -8 ≤ f) (hg : -8 ≤ g) :
    (s.setFloor f n).floorCount g = if g = f then n else s.floorCount g := by
  have : (floorKey g = floorKey f) ↔ g = f := by
    unfold floorKey
    omega
  simp [State.floorCount, State.setFloor, Tab.get_put, this]

/-- The active zones are exactly those whose live record is active. -/
theorem State.mem_activeZones (s : State) (z : Nat) : z ∈ s.activeZones ↔ s.zoneActive z = true := by
  simp only [State.activeZones, List.mem_filter, List.mem_map, and_iff_right_iff_imp]
  intro h
  have hne : s.zone z ≠ ZoneLive.start := by
    intro he
    rw [State.zoneActive, he] at h
    exact absurd h (by decide)
  exact ⟨_, Tab.mem_of_get hne, rfl⟩

end Sys2Proof.Machine
end

