-- ==== Sys2Proof/Laws/Notices.lean ====
section
/-! SUPPORT. Membership, the offer step and the reports: what each does, once. -/

namespace Sys2Proof.Machine

/-! ### Marks (R105) -/

/-- The mark a crew holds for a zone after one has been set: an UPDATE or WITHDRAWN leaves a CLEAR or ISOLATE in place. -/
theorem Crew.mark_setMark (k : Crew) (z y : Nat) (m : Mark) :
    (k.setMark z m).mark y = if y = z ∧ markStands (k.mark z) m = false then some m else k.mark y := by
  unfold Crew.setMark
  split
  · rename_i h
    simp [h]
  · rename_i h
    simp only [Crew.mark, Tab.get_put]
    simp only [Bool.not_eq_true] at h
    have h' : markStands (Tab.get none k.marks z) m = false := h
    simp [h']

theorem Crew.mark_dropMark (k : Crew) (z y : Nat) : (k.dropMark z).mark y = if y = z then none else k.mark y := by
  simp [Crew.dropMark, Crew.mark, Tab.get_put]

theorem Crew.setMark_eq (k : Crew) (z : Nat) (m : Mark) :
    k.setMark z m = { k with marks := (k.setMark z m).marks, flight := (k.setMark z m).flight } := by
  unfold Crew.setMark
  split <;> rfl

@[simp] theorem Crew.setMark_live (k : Crew) (z : Nat) (m : Mark) : (k.setMark z m).live = k.live := by rw [setMark_eq]
@[simp] theorem Crew.setMark_pending (k : Crew) (z : Nat) (m : Mark) : (k.setMark z m).pending = k.pending := by
  rw [setMark_eq]
@[simp] theorem Crew.setMark_attended (k : Crew) (z : Nat) (m : Mark) : (k.setMark z m).attended = k.attended := by
  rw [setMark_eq]
@[simp] theorem Crew.setMark_aside (k : Crew) (z : Nat) (m : Mark) : (k.setMark z m).aside = k.aside := by
  rw [setMark_eq]
@[simp] theorem Crew.setMark_rc (k : Crew) (z : Nat) (m : Mark) : (k.setMark z m).rc = k.rc := by rw [setMark_eq]
@[simp] theorem Crew.setMark_offer (k : Crew) (z : Nat) (m : Mark) : (k.setMark z m).offer = k.offer := by
  rw [setMark_eq]
@[simp] theorem Crew.setMark_systemDue (k : Crew) (z : Nat) (m : Mark) : (k.setMark z m).systemDue = k.systemDue := by
  rw [setMark_eq]

@[simp] theorem Crew.setSystemDue_live (k : Crew) : k.setSystemDue.live = k.live := rfl
@[simp] theorem Crew.setSystemDue_pending (k : Crew) : k.setSystemDue.pending = k.pending := rfl
@[simp] theorem Crew.setSystemDue_attended (k : Crew) : k.setSystemDue.attended = k.attended := rfl
@[simp] theorem Crew.setSystemDue_aside (k : Crew) : k.setSystemDue.aside = k.aside := rfl
@[simp] theorem Crew.setSystemDue_rc (k : Crew) : k.setSystemDue.rc = k.rc := rfl
@[simp] theorem Crew.setSystemDue_offer (k : Crew) : k.setSystemDue.offer = k.offer := rfl
@[simp] theorem Crew.setSystemDue_marks (k : Crew) : k.setSystemDue.marks = k.marks := rfl
@[simp] theorem Crew.setSystemDue_systemDue (k : Crew) : k.setSystemDue.systemDue = true := rfl

theorem Crew.endOffer_eq (k : Crew) (z : Nat) : k.endOffer z = { k with offer := (k.endOffer z).offer } := by
  unfold Crew.endOffer
  split <;> rfl

@[simp] theorem Crew.endOffer_live (k : Crew) (z : Nat) : (k.endOffer z).live = k.live := by rw [endOffer_eq]
@[simp] theorem Crew.endOffer_pending (k : Crew) (z : Nat) : (k.endOffer z).pending = k.pending := by rw [endOffer_eq]
@[simp] theorem Crew.endOffer_attended (k : Crew) (z : Nat) : (k.endOffer z).attended = k.attended := by
  rw [endOffer_eq]
@[simp] theorem Crew.endOffer_aside (k : Crew) (z : Nat) : (k.endOffer z).aside = k.aside := by rw [endOffer_eq]
@[simp] theorem Crew.endOffer_rc (k : Crew) (z : Nat) : (k.endOffer z).rc = k.rc := by rw [endOffer_eq]
@[simp] theorem Crew.endOffer_marks (k : Crew) (z : Nat) : (k.endOffer z).marks = k.marks := by rw [endOffer_eq]
@[simp] theorem Crew.endOffer_flight (k : Crew) (z : Nat) : (k.endOffer z).flight = k.flight := by rw [endOffer_eq]
@[simp] theorem Crew.endOffer_systemDue (k : Crew) (z : Nat) : (k.endOffer z).systemDue = k.systemDue := by
  rw [endOffer_eq]

/-! ### The offer step (R88) -/

/-- The offer a crew has after the offer step: an OUT offer stands; otherwise the top eligible zone is DUE when the
delivery is PUSH and the attended list has room. -/
def State.offerAfter (s : State) (c : Link) : Offer :=
  match (s.crew c).offer with
  | .out z d => .out z d
  | _ =>
    if (s.profile c).delivery = .push ∧ (s.crew c).attended.length < 8 then
      match s.topEligible c with
      | some z => .due z
      | none => .none
    else .none

/-- A crew rewritten as it is leaves the state as it is. -/
@[simp] theorem State.setCrew_crew (s : State) (c : Link) : s.setCrew c (s.crew c) = s := by
  cases s
  simp only [State.setCrew, State.crew]
  congr 1
  exact PerLink.ext_get (fun d => by rw [PerLink.get_set]; split <;> simp_all)

/-- The offer step writes the offer of the crew and nothing else. -/
theorem offerStep_eq (c : Link) (s : State) :
    offerStep c s = s.setCrew c { s.crew c with offer := s.offerAfter c } := by
  unfold offerStep State.offerAfter
  dsimp only
  cases h : (s.crew c).offer with
  | out z d =>
    have : { s.crew c with offer := Offer.out z d } = s.crew c := by rw [← h]
    simp [this]
  | none =>
    dsimp only
    split
    · cases s.topEligible c <;> rfl
    · rfl
  | due z =>
    dsimp only
    split
    · cases s.topEligible c <;> rfl
    · rfl

theorem crewsOnly_offerStep (c : Link) (s : State) : CrewsOnly s (offerStep c s) := by
  rw [offerStep_eq]
  rfl

@[simp] theorem offerStep_zp (c : Link) (s : State) : (offerStep c s).zp = s.zp := by simp [offerStep_eq]
@[simp] theorem offerStep_tables (c : Link) (s : State) : (offerStep c s).tables = s.tables := by simp [offerStep_eq]
@[simp] theorem offerStep_ti (c : Link) (s : State) : (offerStep c s).ti = s.ti := by simp [offerStep_eq]
@[simp] theorem offerStep_cl (c : Link) (s : State) : (offerStep c s).cl = s.cl := by simp [offerStep_eq]
@[simp] theorem offerStep_ss (c : Link) (s : State) : (offerStep c s).ss = s.ss := by simp [offerStep_eq]

theorem crew_offerStep (c d : Link) (s : State) :
    (offerStep c s).crew d = if d = c then { s.crew c with offer := s.offerAfter c } else s.crew d := by
  rw [offerStep_eq, State.crew_setCrew]

/-! ### Membership (R81) -/

theorem crewsOnly_admit (c : Link) (z : Nat) (s : State) : CrewsOnly s (admitZone c z s) := by
  unfold admitZone
  split <;> rfl

/-- The membership test adds the zone to the crew's pending set when it holds, and does nothing else. -/
theorem crew_admit (c d : Link) (z : Nat) (s : State) :
    (admitZone c z s).crew d =
      if d = c ∧ s.member c z = true then { s.crew c with pending := ZSet.place (s.crew c).pending z } else s.crew d := by
  unfold admitZone
  split
  · rename_i h
    rw [State.crew_modCrew]
    simp [h]
  · rename_i h
    simp [h]

/-- Effects for the members of a list in turn that keep to the picture keep to it. -/
theorem PictureOnly.foldl {α : Type} {f : State → α → State} (h : ∀ s a, PictureOnly s (f s a)) (l : List α) (s : State) :
    PictureOnly s (l.foldl f s) := foldl_rel (R := PictureOnly) PictureOnly.refl PictureOnly.trans h l s

/-! ### The reports keep everything but the crews, the live records and the schedules (R101 to R103) -/

theorem pictureOnly_setAttended (c : Link) (z : Nat) (on : Bool) (s : State) : PictureOnly s (setAttended c z on s) := rfl

theorem pictureOnly_zoneGone (c : Link) (ch : Change) (s : State) : PictureOnly s (zoneGone c ch s) := rfl

theorem pictureOnly_zoneMoved (c : Link) (z : Nat) (s : State) : PictureOnly s (zoneMoved c z s) :=
  PictureOnly.trans (t := s.modCrew c _) rfl (crewsOnly_admit c z _).pictureOnly

theorem pictureOnly_urgencyMoved (c : Link) (z : Nat) (s : State) : PictureOnly s (urgencyMoved c z s) := rfl

theorem pictureOnly_crewCarried (chs : List Change) (us : List UrgencyChange) (c : Link) (s : State) :
    PictureOnly s (crewCarried chs us c s) := by
  unfold crewCarried
  split
  · have h1 := PictureOnly.foldl (f := fun s ch => zoneGone c ch s) (fun s ch => pictureOnly_zoneGone c ch s)
    have h2 := PictureOnly.foldl (f := fun s (ch : Change) => zoneMoved c ch.zone s)
      (fun s ch => pictureOnly_zoneMoved c ch.zone s)
    have h3 := PictureOnly.foldl (f := fun s (u : UrgencyChange) => urgencyMoved c u.zone s)
      (fun s u => pictureOnly_urgencyMoved c u.zone s)
    exact PictureOnly.trans (PictureOnly.trans (PictureOnly.trans (h1 _ s) (h2 _ _)) (h3 _ _))
      (crewsOnly_offerStep c _).pictureOnly
  · exact PictureOnly.refl s

theorem pictureOnly_takeCarried (chs : List Change) (us : List UrgencyChange) (s : State) :
    PictureOnly s (takeCarried chs us s) :=
  eachLink_rel (R := PictureOnly) PictureOnly.trans (pictureOnly_crewCarried chs us) s

theorem pictureOnly_takeUrgency (us : List UrgencyChange) (s : State) : PictureOnly s (takeUrgency us s) := by
  unfold takeUrgency
  split
  · exact PictureOnly.refl s
  · refine eachLink_rel (R := PictureOnly) PictureOnly.trans (fun c u => ?_) s
    unfold crewUrgency
    split
    · have h := PictureOnly.foldl (f := fun s (u : UrgencyChange) => urgencyMoved c u.zone s)
        (fun s u => pictureOnly_urgencyMoved c u.zone s)
      exact PictureOnly.trans (h us u) (crewsOnly_offerStep c _).pictureOnly
    · exact PictureOnly.refl u

theorem pictureOnly_unattendAll (c : Link) (s : State) : PictureOnly s (unattendAll c s) :=
  PictureOnly.foldl (f := fun s z => setAttended c z false s) (fun s z => pictureOnly_setAttended c z false s) _ s

theorem pictureOnly_takeCleared (s : State) : PictureOnly s (takeCleared s) := by
  refine eachLink_rel (R := PictureOnly) PictureOnly.trans (fun c u => ?_) s
  unfold crewCleared
  split
  · exact PictureOnly.trans (pictureOnly_unattendAll c u) rfl
  · exact PictureOnly.refl u

theorem pictureOnly_crewDetach (c : Link) (s : State) : PictureOnly s (crewDetach c s) :=
  PictureOnly.trans (pictureOnly_unattendAll c s) rfl

theorem crewsOnly_crewAttach (c : Link) (s : State) : CrewsOnly s (crewAttach c s) := by
  refine CrewsOnly.trans ?_ (crewsOnly_offerStep c _)
  refine CrewsOnly.trans (t := admitAll c (s.setCrew c { Crew.empty with live := (s.profile c).sectors })) ?_ rfl
  exact CrewsOnly.trans (t := s.setCrew c { Crew.empty with live := (s.profile c).sectors }) rfl
    (foldl_rel (R := CrewsOnly) CrewsOnly.refl CrewsOnly.trans (fun s z => crewsOnly_admit c z s) _ _)

/-! ### The Urgency Unit (R70 to R75) -/

theorem pictureOnly_writeUrgencies (us : List UrgencyChange) (s : State) : PictureOnly s (writeUrgencies us s) :=
  PictureOnly.foldl (f := fun s (u : UrgencyChange) => setUrgency u.zone u.after s) (fun _ _ => rfl) us s

theorem pictureOnly_listedZone (ch : Change) (s : State) : PictureOnly s (listedZone ch s) := by
  unfold listedZone
  dsimp only
  split
  · split
    · split <;> rfl
    · rfl
  · rfl

theorem pictureOnly_takeZoneReport (r : ZoneReport) (s : State) : PictureOnly s (takeZoneReport r s) := by
  unfold takeZoneReport
  split
  · exact PictureOnly.refl s
  · have h := PictureOnly.foldl (f := fun s ch => listedZone ch s) (fun s ch => pictureOnly_listedZone ch s)
    exact PictureOnly.trans (PictureOnly.trans (h r.changes s) (pictureOnly_writeUrgencies _ _))
      (pictureOnly_takeCarried _ _ _)

theorem pictureOnly_recomputeAndReport (zs : List Nat) (s : State) : PictureOnly s (recomputeAndReport zs s) :=
  PictureOnly.trans (pictureOnly_writeUrgencies _ s) (pictureOnly_takeUrgency _ _)

theorem pictureOnly_takeConfigChange (old : ConfigTable) (s : State) : PictureOnly s (takeConfigChange old s) := by
  unfold takeConfigChange
  dsimp only
  split
  · exact pictureOnly_recomputeAndReport _ s
  · refine PictureOnly.trans (t := rescheduleAll s) ?_ (pictureOnly_recomputeAndReport _ _)
    exact PictureOnly.foldl (f := fun s z => s.setAgeStep z (if s.config.escalation = 0 then none
      else firstAgeStep ((s.zone z).alarmEntry.getD 0) s.config.escalation s.uptime)) (fun _ _ => rfl) _ s

end Sys2Proof.Machine
end

