-- ==== Sys2Proof/WellFormed.lean ====
section
/-! DEFINITION. Which commands are well formed: the operand values that the interfaces can present. -/

namespace Sys2Proof

/-- A zone number, 1 to 1023 (00 Conventions, "Ranges"). -/
def isZone (z : Nat) : Bool := decide (1 ≤ z) && decide (z ≤ 1023)

/-- A management request as the Trunk Interface hands it: the source lies in 1 to 120 (R3), and the payload of at most
48 bytes leaves at most 45 argument bytes (10.2). -/
def mgmtWellFormed (src : Byte) (args : List Byte) (most : Nat) : Bool :=
  decide (1 ≤ src.toNat) && decide (src.toNat ≤ 120) && decide (args.length ≤ most)

/-- Operand checks of each command. A TABLE_WRITE row's arguments stand after the table code, so one fewer byte is left
for them. A crew request payload has at most 11 bytes (chapter 6: the length of a request lies in 1 to 12). -/
def WellFormed : Instr → Bool
  | .trunkFrameComplete _ _ => true
  | .trunkFrameDiscard _ _ => true
  | .trunkPartialFrameTimeout _ => true
  | .breakTimerExpiry _ => true
  | .silenceTimerExpiry _ => true
  | .stripHoldExpiry => true
  | .trunkTransmitComplete _ => true
  | .verifyWindowExpiry z => isZone z
  | .ageStep z => isZone z
  | .offerTimeout _ => true
  | .presenceChange _ _ => true
  | .linkAttach _ => true
  | .linkDetach _ => true
  | .crewFrameComplete _ _ => true
  | .crewFrameDiscard _ _ => true
  | .receiveOverrun _ _ => true
  | .crewPartialFrameTimeout _ => true
  | .terminalReadyChange _ _ => true
  | .crewFrameWritten _ => true
  | .accept _ _ => true
  | .decline _ _ => true
  | .release _ _ => true
  | .releaseTop _ => true
  | .poll _ => true
  | .list _ => true
  | .sectors _ _ => true
  | .unknownRequest _ _ payload => decide (payload.length ≤ 11)
  | .sheetReqById _ _ => true
  | .sheetReqByZone _ _ => true
  | .sheetStopNamed _ _ => true
  | .sheetStopAll _ => true
  | .fillReadComplete => true
  | .fillReadFail => true
  | .programComplete _ => true
  | .planReadComplete _ => true
  | .unknownOp src _ _ args => mgmtWellFormed src args 45
  | .tableRead src _ args => mgmtWellFormed src args 45
  | .tableWritePointMap src _ args => mgmtWellFormed src args 44
  | .tableWriteNodeFallback src _ args => mgmtWellFormed src args 44
  | .tableWriteZoneDefinition src _ args => mgmtWellFormed src args 44
  | .tableWriteHazardBonus src _ args => mgmtWellFormed src args 44
  | .tableWriteSheetDirectory src _ args => mgmtWellFormed src args 44
  | .tableWriteCrewProfile src _ args => mgmtWellFormed src args 44
  | .tableWriteConfiguration src _ args => mgmtWellFormed src args 44
  | .mapInsert src _ args => mgmtWellFormed src args 45
  | .mapDelete src _ args => mgmtWellFormed src args 45
  | .mapClear src _ args => mgmtWellFormed src args 45
  | .planStage src _ args => mgmtWellFormed src args 45
  | .planCommit src _ args => mgmtWellFormed src args 45
  | .planRead src _ args => mgmtWellFormed src args 45
  | .zoneRead src _ args => mgmtWellFormed src args 45
  | .statusRead src _ args => mgmtWellFormed src args 45
  | .pictureClear src _ args => mgmtWellFormed src args 45
  | .setRotation src _ args => mgmtWellFormed src args 45
  | .linkDisable src _ args => mgmtWellFormed src args 45
  | .linkEnable src _ args => mgmtWellFormed src args 45
  | .configSave src _ args => mgmtWellFormed src args 45
  | .start => true
  | .startComplete _ => true
  | .holdoverLow => true
  | .resyncTimeout => true
  | .uptimeTick => true
  | .trunkCharacterReceived _ _ => true
  | .trunkReceiveLevelChange _ _ => true
  | .crewCharacterReceived _ _ => true
  | .crewCharacterTaken _ => true
  | .mainPowerLoss => true

end Sys2Proof
end

