-- ==== Sys2Proof/Laws/PerInstr.lean ====
section
/-! SUPPORT. A family of statements made for each command: what its well-formedness says of its operands. -/

namespace Sys2Proof.Laws.WellFormedness

/-- The operands of a command within the ranges its interface can present: a zone from 1 to 1023, a requester from 1 to 120
with at most 45 argument bytes, a request payload of at most 11 bytes. -/
def OperandsInRange : Instr → Prop
  | .trunkFrameComplete _ _ => True
  | .trunkFrameDiscard _ _ => True
  | .trunkPartialFrameTimeout _ => True
  | .breakTimerExpiry _ => True
  | .silenceTimerExpiry _ => True
  | .stripHoldExpiry => True
  | .trunkTransmitComplete _ => True
  | .verifyWindowExpiry zone => 1 ≤ zone ∧ zone ≤ 1023
  | .ageStep zone => 1 ≤ zone ∧ zone ≤ 1023
  | .offerTimeout _ => True
  | .presenceChange _ _ => True
  | .linkAttach _ => True
  | .linkDetach _ => True
  | .crewFrameComplete _ _ => True
  | .crewFrameDiscard _ _ => True
  | .receiveOverrun _ _ => True
  | .crewPartialFrameTimeout _ => True
  | .terminalReadyChange _ _ => True
  | .crewFrameWritten _ => True
  | .accept _ _ => True
  | .decline _ _ => True
  | .release _ _ => True
  | .releaseTop _ => True
  | .poll _ => True
  | .list _ => True
  | .sectors _ _ => True
  | .unknownRequest _ _ payload => payload.length ≤ 11
  | .sheetReqById _ _ => True
  | .sheetReqByZone _ _ => True
  | .sheetStopNamed _ _ => True
  | .sheetStopAll _ => True
  | .fillReadComplete => True
  | .fillReadFail => True
  | .programComplete _ => True
  | .planReadComplete _ => True
  | .unknownOp src _ _ args => 1 ≤ src.toNat ∧ src.toNat ≤ 120 ∧ args.length ≤ 45
  | .tableRead src _ args => 1 ≤ src.toNat ∧ src.toNat ≤ 120 ∧ args.length ≤ 45
  | .tableWritePointMap src _ args => 1 ≤ src.toNat ∧ src.toNat ≤ 120 ∧ args.length ≤ 44
  | .tableWriteNodeFallback src _ args => 1 ≤ src.toNat ∧ src.toNat ≤ 120 ∧ args.length ≤ 44
  | .tableWriteZoneDefinition src _ args => 1 ≤ src.toNat ∧ src.toNat ≤ 120 ∧ args.length ≤ 44
  | .tableWriteHazardBonus src _ args => 1 ≤ src.toNat ∧ src.toNat ≤ 120 ∧ args.length ≤ 44
  | .tableWriteSheetDirectory src _ args => 1 ≤ src.toNat ∧ src.toNat ≤ 120 ∧ args.length ≤ 44
  | .tableWriteCrewProfile src _ args => 1 ≤ src.toNat ∧ src.toNat ≤ 120 ∧ args.length ≤ 44
  | .tableWriteConfiguration src _ args => 1 ≤ src.toNat ∧ src.toNat ≤ 120 ∧ args.length ≤ 44
  | .mapInsert src _ args => 1 ≤ src.toNat ∧ src.toNat ≤ 120 ∧ args.length ≤ 45
  | .mapDelete src _ args => 1 ≤ src.toNat ∧ src.toNat ≤ 120 ∧ args.length ≤ 45
  | .mapClear src _ args => 1 ≤ src.toNat ∧ src.toNat ≤ 120 ∧ args.length ≤ 45
  | .planStage src _ args => 1 ≤ src.toNat ∧ src.toNat ≤ 120 ∧ args.length ≤ 45
  | .planCommit src _ args => 1 ≤ src.toNat ∧ src.toNat ≤ 120 ∧ args.length ≤ 45
  | .planRead src _ args => 1 ≤ src.toNat ∧ src.toNat ≤ 120 ∧ args.length ≤ 45
  | .zoneRead src _ args => 1 ≤ src.toNat ∧ src.toNat ≤ 120 ∧ args.length ≤ 45
  | .statusRead src _ args => 1 ≤ src.toNat ∧ src.toNat ≤ 120 ∧ args.length ≤ 45
  | .pictureClear src _ args => 1 ≤ src.toNat ∧ src.toNat ≤ 120 ∧ args.length ≤ 45
  | .setRotation src _ args => 1 ≤ src.toNat ∧ src.toNat ≤ 120 ∧ args.length ≤ 45
  | .linkDisable src _ args => 1 ≤ src.toNat ∧ src.toNat ≤ 120 ∧ args.length ≤ 45
  | .linkEnable src _ args => 1 ≤ src.toNat ∧ src.toNat ≤ 120 ∧ args.length ≤ 45
  | .configSave src _ args => 1 ≤ src.toNat ∧ src.toNat ≤ 120 ∧ args.length ≤ 45
  | .start => True
  | .startComplete _ => True
  | .holdoverLow => True
  | .resyncTimeout => True
  | .uptimeTick => True
  | .trunkCharacterReceived _ _ => True
  | .trunkReceiveLevelChange _ _ => True
  | .crewCharacterReceived _ _ => True
  | .crewCharacterTaken _ => True
  | .mainPowerLoss => True

/-- What the family states of a command: when it is well formed, its operands are in range. -/
def Statement (i : Instr) : Prop := WellFormed i = true → OperandsInRange i

/-- A management command that is well formed has its requester and its arguments in range. -/
theorem mgmt_inRange {src : Byte} {args : List Byte} {most : Nat} (h : mgmtWellFormed src args most = true) :
    1 ≤ src.toNat ∧ src.toNat ≤ 120 ∧ args.length ≤ most := by
  simp only [mgmtWellFormed, Bool.and_eq_true, decide_eq_true_eq] at h
  exact ⟨h.1.1, h.1.2, h.2⟩

/-- A zone operand that is well formed is a zone number. -/
theorem zone_inRange {z : Nat} (h : isZone z = true) : 1 ≤ z ∧ z ≤ 1023 := by
  simpa only [isZone, Bool.and_eq_true, decide_eq_true_eq] using h

theorem trunkFrameComplete (p : Port) (b : Byte) : Statement (.trunkFrameComplete p b) := fun _ => trivial
theorem trunkFrameDiscard (p : Port) (ch : LineChar) : Statement (.trunkFrameDiscard p ch) := fun _ => trivial
theorem trunkPartialFrameTimeout (p : Port) : Statement (.trunkPartialFrameTimeout p) := fun _ => trivial
theorem breakTimerExpiry (p : Port) : Statement (.breakTimerExpiry p) := fun _ => trivial
theorem silenceTimerExpiry (p : Port) : Statement (.silenceTimerExpiry p) := fun _ => trivial
theorem stripHoldExpiry : Statement (.stripHoldExpiry) := fun _ => trivial
theorem trunkTransmitComplete (p : Port) : Statement (.trunkTransmitComplete p) := fun _ => trivial
theorem verifyWindowExpiry (zone : Nat) : Statement (.verifyWindowExpiry zone) := zone_inRange
theorem ageStep (zone : Nat) : Statement (.ageStep zone) := zone_inRange
theorem offerTimeout (c : Link) : Statement (.offerTimeout c) := fun _ => trivial
theorem presenceChange (c : Link) (high : Bool) : Statement (.presenceChange c high) := fun _ => trivial
theorem linkAttach (a : Attach) : Statement (.linkAttach a) := fun _ => trivial
theorem linkDetach (c : Link) : Statement (.linkDetach c) := fun _ => trivial
theorem crewFrameComplete (c : Link) (b : Byte) : Statement (.crewFrameComplete c b) := fun _ => trivial
theorem crewFrameDiscard (c : Link) (ch : LineChar) : Statement (.crewFrameDiscard c ch) := fun _ => trivial
theorem receiveOverrun (c : Link) (b : Byte) : Statement (.receiveOverrun c b) := fun _ => trivial
theorem crewPartialFrameTimeout (c : Link) : Statement (.crewPartialFrameTimeout c) := fun _ => trivial
theorem terminalReadyChange (c : Link) (high : Bool) : Statement (.terminalReadyChange c high) := fun _ => trivial
theorem crewFrameWritten (c : Link) : Statement (.crewFrameWritten c) := fun _ => trivial
theorem accept (c : Link) (zone : Word16) : Statement (.accept c zone) := fun _ => trivial
theorem decline (c : Link) (zone : Word16) : Statement (.decline c zone) := fun _ => trivial
theorem release (c : Link) (zone : Word16) : Statement (.release c zone) := fun _ => trivial
theorem releaseTop (c : Link) : Statement (.releaseTop c) := fun _ => trivial
theorem poll (c : Link) : Statement (.poll c) := fun _ => trivial
theorem list (c : Link) : Statement (.list c) := fun _ => trivial
theorem sectors (c : Link) (set : Word16) : Statement (.sectors c set) := fun _ => trivial
theorem unknownRequest (c : Link) (kind : Byte) (payload : List Byte) : Statement (.unknownRequest c kind payload) :=
    of_decide_eq_true
theorem sheetReqById (c : Link) (sheet : Word16) : Statement (.sheetReqById c sheet) := fun _ => trivial
theorem sheetReqByZone (c : Link) (zone : Word16) : Statement (.sheetReqByZone c zone) := fun _ => trivial
theorem sheetStopNamed (c : Link) (sheet : Word16) : Statement (.sheetStopNamed c sheet) := fun _ => trivial
theorem sheetStopAll (c : Link) : Statement (.sheetStopAll c) := fun _ => trivial
theorem fillReadComplete : Statement (.fillReadComplete) := fun _ => trivial
theorem fillReadFail : Statement (.fillReadFail) := fun _ => trivial
theorem programComplete (ok : Bool) : Statement (.programComplete ok) := fun _ => trivial
theorem planReadComplete (ok : Bool) : Statement (.planReadComplete ok) := fun _ => trivial
theorem unknownOp (src : Byte) (id : Word16) (op : Byte) (args : List Byte) : Statement (.unknownOp src id op args) :=
    mgmt_inRange
theorem tableRead (src : Byte) (id : Word16) (args : List Byte) : Statement (.tableRead src id args) := mgmt_inRange
theorem tableWritePointMap (src : Byte) (id : Word16) (args : List Byte) : Statement (.tableWritePointMap src id args) :=
    mgmt_inRange
theorem tableWriteNodeFallback (src : Byte) (id : Word16) (args : List Byte) : Statement (.tableWriteNodeFallback src id args) :=
    mgmt_inRange
theorem tableWriteZoneDefinition (src : Byte) (id : Word16) (args : List Byte) : Statement (.tableWriteZoneDefinition src id args) :=
    mgmt_inRange
theorem tableWriteHazardBonus (src : Byte) (id : Word16) (args : List Byte) : Statement (.tableWriteHazardBonus src id args) :=
    mgmt_inRange
theorem tableWriteSheetDirectory (src : Byte) (id : Word16) (args : List Byte) : Statement (.tableWriteSheetDirectory src id args) :=
    mgmt_inRange
theorem tableWriteCrewProfile (src : Byte) (id : Word16) (args : List Byte) : Statement (.tableWriteCrewProfile src id args) :=
    mgmt_inRange
theorem tableWriteConfiguration (src : Byte) (id : Word16) (args : List Byte) : Statement (.tableWriteConfiguration src id args) :=
    mgmt_inRange
theorem mapInsert (src : Byte) (id : Word16) (args : List Byte) : Statement (.mapInsert src id args) := mgmt_inRange
theorem mapDelete (src : Byte) (id : Word16) (args : List Byte) : Statement (.mapDelete src id args) := mgmt_inRange
theorem mapClear (src : Byte) (id : Word16) (args : List Byte) : Statement (.mapClear src id args) := mgmt_inRange
theorem planStage (src : Byte) (id : Word16) (args : List Byte) : Statement (.planStage src id args) := mgmt_inRange
theorem planCommit (src : Byte) (id : Word16) (args : List Byte) : Statement (.planCommit src id args) := mgmt_inRange
theorem planRead (src : Byte) (id : Word16) (args : List Byte) : Statement (.planRead src id args) := mgmt_inRange
theorem zoneRead (src : Byte) (id : Word16) (args : List Byte) : Statement (.zoneRead src id args) := mgmt_inRange
theorem statusRead (src : Byte) (id : Word16) (args : List Byte) : Statement (.statusRead src id args) := mgmt_inRange
theorem pictureClear (src : Byte) (id : Word16) (args : List Byte) : Statement (.pictureClear src id args) :=
    mgmt_inRange
theorem setRotation (src : Byte) (id : Word16) (args : List Byte) : Statement (.setRotation src id args) := mgmt_inRange
theorem linkDisable (src : Byte) (id : Word16) (args : List Byte) : Statement (.linkDisable src id args) := mgmt_inRange
theorem linkEnable (src : Byte) (id : Word16) (args : List Byte) : Statement (.linkEnable src id args) := mgmt_inRange
theorem configSave (src : Byte) (id : Word16) (args : List Byte) : Statement (.configSave src id args) := mgmt_inRange
theorem start : Statement (.start) := fun _ => trivial
theorem startComplete (pageReadOk : Bool) : Statement (.startComplete pageReadOk) := fun _ => trivial
theorem holdoverLow : Statement (.holdoverLow) := fun _ => trivial
theorem resyncTimeout : Statement (.resyncTimeout) := fun _ => trivial
theorem uptimeTick : Statement (.uptimeTick) := fun _ => trivial
theorem trunkCharacterReceived (p : Port) (b : Byte) : Statement (.trunkCharacterReceived p b) := fun _ => trivial
theorem trunkReceiveLevelChange (p : Port) (level : LineChange) : Statement (.trunkReceiveLevelChange p level) :=
    fun _ => trivial
theorem crewCharacterReceived (c : Link) (b : CrewByte) : Statement (.crewCharacterReceived c b) :=
  fun _ => trivial
theorem crewCharacterTaken (c : Link) : Statement (.crewCharacterTaken c) := fun _ => trivial
theorem mainPowerLoss : Statement (.mainPowerLoss) := fun _ => trivial

end Sys2Proof.Laws.WellFormedness
end

