-- ==== Sys2Proof/Laws/Trunk.lean ====
section
/-! SUPPORT. Own frames, the transmit arbiter, picture status and resync: what each does, once. -/

namespace Sys2Proof.Machine

/-! ### The transmit arbiter (R14) -/

/-- The arbiter writes only what the transmitter sends. -/
theorem PortUnit.choose_eq (u : PortUnit) : u.choose = { u with tx := u.choose.tx } := by
  unfold PortUnit.choose
  split
  · rfl
  · split
    · rfl
    · split <;> rfl

/-- What the arbiter leaves the transmitter sending. -/
theorem PortUnit.choose_tx (u : PortUnit) :
    u.choose.tx = match u.tx with
      | some x => some x
      | none => if u.repeatOut ≠ [] then some .repeatFifo else if u.ownQueue ≠ [] then some .ownQueue else none := by
  unfold PortUnit.choose
  split
  · simp_all
  · split
    · simp_all
    · split <;> simp_all

@[simp] theorem PortUnit.choose_up (u : PortUnit) : u.choose.up = u.up := by rw [choose_eq]
@[simp] theorem PortUnit.choose_level (u : PortUnit) : u.choose.level = u.level := by rw [choose_eq]
@[simp] theorem PortUnit.choose_receiver (u : PortUnit) : u.choose.receiver = u.receiver := by rw [choose_eq]
@[simp] theorem PortUnit.choose_asm (u : PortUnit) : u.choose.asm = u.asm := by rw [choose_eq]
@[simp] theorem PortUnit.choose_stage (u : PortUnit) : u.choose.stage = u.stage := by rw [choose_eq]
@[simp] theorem PortUnit.choose_repeatOut (u : PortUnit) : u.choose.repeatOut = u.repeatOut := by rw [choose_eq]
@[simp] theorem PortUnit.choose_ownQueue (u : PortUnit) : u.choose.ownQueue = u.ownQueue := by rw [choose_eq]
@[simp] theorem PortUnit.choose_counters (u : PortUnit) : u.choose.counters = u.counters := by rw [choose_eq]

/-! ### Placement (R9, R13) -/

/-- An own frame stands at the end of a queue with room; a full queue keeps its frames. -/
theorem PortUnit.placeOwn_ownQueue (f : Frame) (u : PortUnit) :
    (u.placeOwn f).ownQueue = if u.ownQueue.length < 4 then u.ownQueue ++ [f] else u.ownQueue := by
  unfold PortUnit.placeOwn
  split <;> simp [PortUnit.countOwnDrop]

/-- Only the drop of an own frame is counted at its placement. -/
theorem PortUnit.placeOwn_counters (f : Frame) (u : PortUnit) :
    (u.placeOwn f).counters =
      if u.ownQueue.length < 4 then u.counters else { u.counters with ownDrops := bump16 u.counters.ownDrops } := by
  unfold PortUnit.placeOwn
  split <;> simp [PortUnit.countOwnDrop]

@[simp] theorem PortUnit.placeOwn_repeatOut (f : Frame) (u : PortUnit) : (u.placeOwn f).repeatOut = u.repeatOut := by
  unfold PortUnit.placeOwn
  split <;> simp [PortUnit.countOwnDrop]
@[simp] theorem PortUnit.placeOwn_up (f : Frame) (u : PortUnit) : (u.placeOwn f).up = u.up := by
  unfold PortUnit.placeOwn
  split <;> simp [PortUnit.countOwnDrop]
@[simp] theorem PortUnit.placeOwn_asm (f : Frame) (u : PortUnit) : (u.placeOwn f).asm = u.asm := by
  unfold PortUnit.placeOwn
  split <;> simp [PortUnit.countOwnDrop]
@[simp] theorem PortUnit.placeOwn_stage (f : Frame) (u : PortUnit) : (u.placeOwn f).stage = u.stage := by
  unfold PortUnit.placeOwn
  split <;> simp [PortUnit.countOwnDrop]

/-- A repeat stands at the end of a FIFO with room; a full FIFO keeps its frames. -/
theorem PortUnit.placeRepeat_repeatOut (f : Frame) (u : PortUnit) :
    (u.placeRepeat f).repeatOut = if u.repeatOut.length < 4 then u.repeatOut ++ [f] else u.repeatOut := by
  unfold PortUnit.placeRepeat
  split <;> simp [PortUnit.countRepeatDrop]

/-- Only the drop of a repeat is counted at its placement. -/
theorem PortUnit.placeRepeat_counters (f : Frame) (u : PortUnit) :
    (u.placeRepeat f).counters =
      if u.repeatOut.length < 4 then u.counters
      else { u.counters with repeatDrops := bump16 u.counters.repeatDrops } := by
  unfold PortUnit.placeRepeat
  split <;> simp [PortUnit.countRepeatDrop]

@[simp] theorem PortUnit.placeRepeat_ownQueue (f : Frame) (u : PortUnit) : (u.placeRepeat f).ownQueue = u.ownQueue := by
  unfold PortUnit.placeRepeat
  split <;> simp [PortUnit.countRepeatDrop]
@[simp] theorem PortUnit.placeRepeat_up (f : Frame) (u : PortUnit) : (u.placeRepeat f).up = u.up := by
  unfold PortUnit.placeRepeat
  split <;> simp [PortUnit.countRepeatDrop]
@[simp] theorem PortUnit.placeRepeat_asm (f : Frame) (u : PortUnit) : (u.placeRepeat f).asm = u.asm := by
  unfold PortUnit.placeRepeat
  split <;> simp [PortUnit.countRepeatDrop]

/-! ### Own frames (R13, R160) -/

/-- An own frame is offered to both own-frame queues. -/
@[simp] theorem port_giveOwn (d k : Byte) (b : List Byte) (s : State) (p : Port) :
    (giveOwn d k b s).port p = (s.port p).placeOwn (s.ownFrame d k b) := by cases p <;> rfl

/-- The own sequence number advances by one, from 255 to 0. -/
@[simp] theorem giveOwn_ownSeq (d k : Byte) (b : List Byte) (s : State) :
    (giveOwn d k b s).ti.ownSeq = s.ti.ownSeq + 1 := rfl

@[simp] theorem reply_ownSeq (d : Byte) (i : Word16) (r : MgmtResult) (b : List Byte) (s : State) :
    (reply d i r b s).ti.ownSeq = s.ti.ownSeq + 1 := rfl

@[simp] theorem reply_running (d : Byte) (i : Word16) (r : MgmtResult) (b : List Byte) (s : State) :
    (reply d i r b s).running = s.running := by simp [State.running]

/-! ### Every attached crew's SYSTEM due flag (R104) -/

theorem systemDueAll_eq (s : State) : systemDueAll s = { s with nr := (systemDueAll s).nr } := by
  refine eachLink_rel (R := CrewsOnly) CrewsOnly.trans (fun c u => ?_) s
  split <;> rfl

@[simp] theorem systemDueAll_ti (s : State) : (systemDueAll s).ti = s.ti := by rw [systemDueAll_eq]
@[simp] theorem systemDueAll_tables (s : State) : (systemDueAll s).tables = s.tables := by rw [systemDueAll_eq]
@[simp] theorem systemDueAll_orphans (s : State) : (systemDueAll s).orphans = s.orphans := by rw [systemDueAll_eq]
@[simp] theorem systemDueAll_zp (s : State) : (systemDueAll s).zp = s.zp := by rw [systemDueAll_eq]
@[simp] theorem systemDueAll_ageSteps (s : State) : (systemDueAll s).ageSteps = s.ageSteps := by rw [systemDueAll_eq]
@[simp] theorem systemDueAll_cl (s : State) : (systemDueAll s).cl = s.cl := by rw [systemDueAll_eq]
@[simp] theorem systemDueAll_ss (s : State) : (systemDueAll s).ss = s.ss := by rw [systemDueAll_eq]
@[simp] theorem systemDueAll_mr (s : State) : (systemDueAll s).mr = s.mr := by rw [systemDueAll_eq]
@[simp] theorem systemDueAll_tb (s : State) : (systemDueAll s).tb = s.tb := by rw [systemDueAll_eq]
@[simp] theorem systemDueAll_sc (s : State) : (systemDueAll s).sc = s.sc := by rw [systemDueAll_eq]
@[simp] theorem systemDueAll_planMem (s : State) : (systemDueAll s).planMem = s.planMem := by rw [systemDueAll_eq]
@[simp] theorem systemDueAll_fresh (s : State) : (systemDueAll s).fresh = s.fresh := by rw [systemDueAll_eq]
@[simp] theorem systemDueAll_pending (s : State) : (systemDueAll s).pending = s.pending := by rw [systemDueAll_eq]

/-- Every attached crew has its flag set; the others are as they were. -/
theorem crew_systemDueAll (s : State) (c : Link) :
    (systemDueAll s).crew c = if s.attached c then (s.crew c).setSystemDue else s.crew c := by
  unfold systemDueAll eachLink
  by_cases h1 : s.attached .l1 <;> by_cases h2 : s.attached .l2 <;> by_cases h3 : s.attached .l3 <;>
    by_cases h4 : s.attached .l4 <;> cases c <;> simp [h1, h2, h3, h4, State.crew_setCrew]

/-! ### Picture status and resync (R184) -/

theorem setStatus_eq (st : PictureStatus) (s : State) :
    setStatus st s = { s with sc := { s.sc with status := st }, nr := (setStatus st s).nr } := by
  unfold setStatus
  dsimp only
  split
  · rfl
  · rw [systemDueAll_eq]

@[simp] theorem setStatus_ti (st : PictureStatus) (s : State) : (setStatus st s).ti = s.ti := by rw [setStatus_eq]
@[simp] theorem setStatus_tables (st : PictureStatus) (s : State) : (setStatus st s).tables = s.tables := by
  rw [setStatus_eq]
@[simp] theorem setStatus_orphans (st : PictureStatus) (s : State) : (setStatus st s).orphans = s.orphans := by
  rw [setStatus_eq]
@[simp] theorem setStatus_zp (st : PictureStatus) (s : State) : (setStatus st s).zp = s.zp := by rw [setStatus_eq]
@[simp] theorem setStatus_ageSteps (st : PictureStatus) (s : State) : (setStatus st s).ageSteps = s.ageSteps := by
  rw [setStatus_eq]
@[simp] theorem setStatus_cl (st : PictureStatus) (s : State) : (setStatus st s).cl = s.cl := by rw [setStatus_eq]
@[simp] theorem setStatus_ss (st : PictureStatus) (s : State) : (setStatus st s).ss = s.ss := by rw [setStatus_eq]
@[simp] theorem setStatus_mr (st : PictureStatus) (s : State) : (setStatus st s).mr = s.mr := by rw [setStatus_eq]
@[simp] theorem setStatus_tb (st : PictureStatus) (s : State) : (setStatus st s).tb = s.tb := by rw [setStatus_eq]
@[simp] theorem setStatus_sc (st : PictureStatus) (s : State) :
    (setStatus st s).sc = { s.sc with status := st } := by rw [setStatus_eq]
@[simp] theorem setStatus_planMem (st : PictureStatus) (s : State) : (setStatus st s).planMem = s.planMem := by
  rw [setStatus_eq]
@[simp] theorem setStatus_fresh (st : PictureStatus) (s : State) : (setStatus st s).fresh = s.fresh := by
  rw [setStatus_eq]
@[simp] theorem setStatus_pending (st : PictureStatus) (s : State) : (setStatus st s).pending = s.pending := by
  rw [setStatus_eq]

/-- A status change sets every attached crew's SYSTEM due flag; a status kept sets none. -/
theorem crew_setStatus (st : PictureStatus) (s : State) (c : Link) :
    (setStatus st s).crew c =
      if s.sc.status ≠ st ∧ s.attached c = true then (s.crew c).setSystemDue else s.crew c := by
  unfold setStatus
  dsimp only
  split
  · rename_i h
    simp [h]
    rfl
  · rename_i h
    rw [crew_systemDueAll]
    simp [h]
    rfl

/-- A resync called: RESYNCING, the broadcast call, the expiry (R184). -/
theorem callResync_eq (s : State) :
    callResync s = { giveOwn 0x00#8 kResyncCall [] s with
      sc := { s.sc with status := .resyncing, expiry := some (s.uptime + s.config.resyncTimeout) },
      nr := (setStatus .resyncing s).nr } := by
  unfold callResync
  rw [setStatus_eq]
  rfl

@[simp] theorem callResync_tables (s : State) : (callResync s).tables = s.tables := by simp [callResync]
@[simp] theorem callResync_orphans (s : State) : (callResync s).orphans = s.orphans := by simp [callResync]
@[simp] theorem callResync_zp (s : State) : (callResync s).zp = s.zp := by simp [callResync]
@[simp] theorem callResync_ageSteps (s : State) : (callResync s).ageSteps = s.ageSteps := by simp [callResync]
@[simp] theorem callResync_cl (s : State) : (callResync s).cl = s.cl := by simp [callResync]
@[simp] theorem callResync_ss (s : State) : (callResync s).ss = s.ss := by simp [callResync]
@[simp] theorem callResync_mr (s : State) : (callResync s).mr = s.mr := by simp [callResync]
@[simp] theorem callResync_tb (s : State) : (callResync s).tb = s.tb := by simp [callResync]
@[simp] theorem callResync_planMem (s : State) : (callResync s).planMem = s.planMem := by simp [callResync]
@[simp] theorem callResync_fresh (s : State) : (callResync s).fresh = s.fresh := by simp [callResync]
@[simp] theorem callResync_pending (s : State) : (callResync s).pending = s.pending := by simp [callResync]

end Sys2Proof.Machine
end

