-- ==== Sys2Proof/Tests/Slice0.lean ====
section
/-! SUPPORT. Tests of the model: ill-formed commands refused, the worked sequences of spec/ one event at a time, and for each
statement with hypotheses a state and operands that meet them. -/

namespace Sys2Proof.Tests
open Sys2Proof Sys2Proof.Machine

/-! ### Small states -/

/-- The state after a command. -/
def after (i : Instr) (s : State) : State :=
  match exec i s with
  | .next t => t
  | _ => s

/-- A link ATTACHED, its controller-ready high and its terminal-ready low. -/
def attach (c : Link) (s : State) : State := s.setLink c { s.link c with state := .attached, ctrlReady := .high }

/-- A zone with a definition and a live record. -/
def withZone (z : Nat) (d : ZoneDef) (l : ZoneLive) (s : State) : State :=
  ({ s with tables := { s.tables with defs := Tab.put ZoneDef.cold s.tables.defs z d } } : State).setZone z l

/-- A definition on a floor, in a sector, of a class. -/
def zoneOn (floor : Int) (sector hazard : Nat) : ZoneDef :=
  { ZoneDef.cold with defined := true, floor := floor, sector := sector, hazard := hazard }

/-- A live record in ALARM since an uptime, with a count and an urgency. -/
def alarmZone (t : Nat) (n : Byte) (u : Nat) : ZoneLive :=
  { ZoneLive.start with cond := .alarm, alarms := n, alarmEntry := some t, urgency := some u }

/-- A live record in TROUBLE with an urgency. -/
def troubleZone (u : Nat) : ZoneLive :=
  { ZoneLive.start with cond := .trouble, troubles := 1, urgency := some u }

/-- A live record in VERIFYING by a report of point 40 of node 22. -/
def verifyZone (t d : Nat) : ZoneLive :=
  { ZoneLive.start with cond := .verifying, points := [⟨22, 40, .prealarm, t⟩], deadline := some d, urgency := some 64 }

/-- An isolated live record. -/
def isolatedZone : ZoneLive := { ZoneLive.start with isolated := true, cond := .isolated }

/-- The uptime set. -/
def at_ (t : Nat) (s : State) : State := { s with tb := { s.tb with uptime := t } }

/-- A crew's state changed. -/
def crewed (c : Link) (f : Crew → Crew) (s : State) : State := s.setCrew c (f (s.crew c))

/-- A configuration with a number of plan pages, a maintenance node 118 and an escalation step. -/
def configured (pages e : Nat) (s : State) : State :=
  { s with tables := { s.tables with
      config := { ConfigTable.default with maint := 118, planPages := pages, escalation := e } } }

/-- A port UP. -/
def upPort (p : Port) (s : State) : State := s.setPort p { s.port p with up := true }

/-- A port whose assembler holds a frame but its last byte. -/
def atLast (p : Port) (f : Frame) (s : State) : State :=
  s.setPort p { s.port p with asm := .collecting f.bytes.dropLast false (crc f.bytes.dropLast) }

/-- The last byte of a frame. -/
def lastByte (f : Frame) : Byte := f.bytes.getLast?.getD 0

/-! ### Ill-formed commands are refused -/

theorem test_wf_zone : WellFormed (.verifyWindowExpiry 0) = false ∧ WellFormed (.ageStep 1024) = false ∧
    WellFormed (.ageStep 1023) = true := by decide

theorem test_wf_request : WellFormed (.unknownRequest .l1 0x33#8 (List.replicate 12 0)) = false := by decide

theorem test_wf_source : WellFormed (.mapClear 0x00#8 0 []) = false ∧ WellFormed (.mapClear 0x79#8 0 []) = false := by
  decide

theorem test_wf_arguments : WellFormed (.planStage 0x01#8 0 (List.replicate 46 0)) = false ∧
    WellFormed (.tableWritePointMap 0x01#8 0 (List.replicate 45 0)) = false := by decide

/-! ### The queue and the idle step -/

theorem test_step_takes_front :
    (match step (State.reset.withPending [.uptimeTick, .stripHoldExpiry]) with
      | .next t => t.uptime == 1 && t.pending == [.stripHoldExpiry]
      | _ => false) = true := by decide

theorem test_step_idles : step State.reset = .next State.reset := rfl

theorem test_no_word (n w : Nat) : decodeTableWord n w = none := rfl

/-! ### Frames and checks -/

/-- 10, "Worked example": ACCEPT of zone 126 stores 7 bytes, and its 7Eh is sent as 7Dh 5Eh. -/
theorem test_escape_example : (crewFrame 0x01#8 [0x00#8, 0x7E#8]).length = 7 ∧
    (escape ((crewFrame 0x01#8 [0x00#8, 0x7E#8]).take 5)) = [0x00#8, 0x03#8, 0x01#8, 0x00#8, 0x7D#8, 0x5E#8] := by decide

/-- The check of polynomial x^16 + x^12 + x^5 + 1 from FFFFh over the digits 1 to 9 is 29B1h; over a frame with its check
it closes to 0 (R4). -/
theorem test_check : crc [0x31#8, 0x32#8, 0x33#8, 0x34#8, 0x35#8, 0x36#8, 0x37#8, 0x38#8, 0x39#8] = 0x29B1#16 ∧
    crc firstResyncCall.bytes = 0 := by decide +kernel

/-! ### Chapter 1, "a point event that arrives twice" -/

def event77 : Frame := makeFrame 0x00#8 0x0E#8 0x4D#8 0x10#8 [0x00#8, 0x05#8, 0x02#8, 0x00#8]

def ring : State :=
  { upPort .a (upPort .b State.reset) with
    ti := { (upPort .a (upPort .b State.reset)).ti with seqTable := [(14, some 0x4C#8)] } }

theorem test_point_event_first :
    (let t := after (.trunkFrameComplete .a (lastByte event77)) (atLast .a event77 ring)
     Tab.get none t.ti.seqTable 14 == some 0x4D#8 && (t.port .b).repeatOut == [event77] && (t.port .a).repeatOut == [] &&
      t.orphans == 1) = true := by decide +kernel

theorem test_point_event_copy :
    (let s := { ring with ti := { ring.ti with seqTable := [(14, some 0x4D#8)] } }
     let t := after (.trunkFrameComplete .b (lastByte event77)) (atLast .b event77 s)
     (t.port .a).repeatOut == [event77] && t.orphans == 0) = true := by decide +kernel

/-! ### Chapter 2, "editing the map and resolving events" -/

def mapped : State :=
  { State.reset with tables := { Retained.cold with
      map := [⟨14, 0, 31, 201⟩, ⟨14, 32, 63, 202⟩, ⟨14, 200, 215, 214⟩, ⟨15, 0, 127, 230⟩], fallback := [(14, 299)] } }

theorem test_map_insert_overlap :
    (after (.mapInsert 0x01#8 0 (MapEntry.bytes ⟨14, 60, 80, 203⟩)) mapped).tables.map = mapped.tables.map := by decide

theorem test_map_insert_placed :
    (after (.mapInsert 0x01#8 0 (MapEntry.bytes ⟨14, 64, 80, 203⟩)) mapped).tables.map =
      [⟨14, 0, 31, 201⟩, ⟨14, 32, 63, 202⟩, ⟨14, 64, 80, 203⟩, ⟨14, 200, 215, 214⟩, ⟨15, 0, 127, 230⟩] := by decide

theorem test_map_write_overlap :
    (after (.tableWritePointMap 0x01#8 0 (nat16 1 ++ MapEntry.bytes ⟨14, 216, 230, 203⟩)) mapped).tables.map =
      mapped.tables.map := by decide

theorem test_map_write :
    (after (.tableWritePointMap 0x01#8 0 (nat16 2 ++ MapEntry.bytes ⟨14, 196, 215, 214⟩)) mapped).tables.map =
      mapped.tables.map.set 2 ⟨14, 196, 215, 214⟩ := by decide

theorem test_map_delete_not_found :
    (after (.mapDelete 0x01#8 0 [0x0E#8, 0x00#8, 0x21#8]) mapped).tables.map = mapped.tables.map := by decide

theorem test_map_delete :
    (let t := after (.mapDelete 0x01#8 0 [0x0E#8, 0x00#8, 0x20#8]) mapped
     decide (mapped.resolve 14 40 = 202) && decide (t.resolve 14 40 = 299) && decide (t.tables.map.length = 3)) = true := by
  decide

/-! ### Chapter 3, "a verified detector zone" -/

def detector (t : Nat) (l : ZoneLive) : State :=
  at_ t (withZone 412 { zoneOn 18 3 0 with verify := true } l State.reset)

theorem test_verification_starts :
    (let m := (zoneEvent 412 ⟨22, 40, .alarm, .detector, false⟩ (detector 500 ZoneLive.start)).zone 412
     m.points == [⟨22, 40, .prealarm, 500⟩] && m.cond == .verifying && m.deadline == some 530 && m.alarms == 0) = true := by
  decide

theorem test_verification_confirmed :
    (let s := detector 556 { verifyZone 541 571 with points := [⟨22, 40, .prealarm, 541⟩, ⟨22, 41, .trouble, 544⟩],
                                                      troubles := 1, lapses := 1 }
     let t := zoneEvent 412 ⟨22, 43, .alarm, .manual, false⟩ s
     (t.zone 412).points == [⟨22, 40, .alarm, 541⟩, ⟨22, 41, .trouble, 544⟩, ⟨22, 43, .alarm, 556⟩] &&
      (t.zone 412).alarms == 2 && (t.zone 412).cond == .alarm && (t.zone 412).alarmEntry == some 556 &&
      (t.zone 412).deadline == none && t.floorCount 18 == 1) = true := by decide

theorem test_window_lapses :
    (let t := after (.verifyWindowExpiry 412) (detector 530 (verifyZone 500 530))
     (t.zone 412).cond == .quiet && (t.zone 412).lapses == 1 && (t.zone 412).points == []) = true := by decide

/-! ### Chapter 4, worked cases and "triggers over time" -/

theorem test_urgency_case1 :
    ((at_ 1047 (withZone 214 (zoneOn 31 1 2) (alarmZone 1000 3 0) State.reset)).setFloor 30 1).urgencyValue 214 = 184 := by
  decide

theorem test_urgency_case2 :
    (({ (at_ 400 (withZone 9 (zoneOn 2 1 3) (alarmZone 0 12 0) State.reset)).setFloor 1 1 with
        tables := { (withZone 9 (zoneOn 2 1 3) (alarmZone 0 12 0) State.reset).tables with
          config := { ConfigTable.default with bonus3 := 80 } } } : State)).urgencyValue 9 = 255 := by decide

theorem test_urgency_case3 :
    ((withZone 9 (zoneOn 5 1 1) { ZoneLive.start with cond := .supervisory, supervisories := 1 } State.reset).setFloor 4
      1).urgencyValue 9 = 72 := by decide

/-- The row of uptime 905: zone 505 enters ALARM and zone 520, one floor up, is recomputed. -/
def floors : State :=
  at_ 905 (withZone 505 (zoneOn 11 1 0) ZoneLive.start (withZone 520 (zoneOn 12 1 1) (troubleZone 36) State.reset))

theorem test_crossing :
    (let t := zoneEvent 505 ⟨3, 1, .alarm, .manual, false⟩ floors
     (t.zone 505).urgency == some 120 && (t.zone 520).urgency == some 48 && t.floorCount 11 == 1 &&
      t.ageStep 505 == some 925) = true := by decide

theorem test_age_step :
    (let t := after (.ageStep 505) (at_ 925 (zoneEvent 505 ⟨3, 1, .alarm, .manual, false⟩ floors))
     (t.zone 505).urgency == some 122 && t.ageStep 505 == some 945) = true := by decide

/-! ### Chapter 5, the table of R84 and the worked sequences -/

/-- Zones 301, 305 and 309 of equal urgency, pending for crew 1. -/
def equals (rc : Nat) : State :=
  crewed .l1 (fun k => { k with live := 0xFFFF#16, pending := [301, 305, 309], rc := rc })
    (attach .l1 (withZone 301 (zoneOn 20 3 0) (alarmZone 0 1 120) (withZone 305 (zoneOn 20 3 0) (alarmZone 0 1 120)
      (withZone 309 (zoneOn 20 3 0) (alarmZone 0 1 120) State.reset))))

theorem test_rank_table : (equals 0).rank .l1 = [301, 305, 309] ∧ (equals 301).rank .l1 = [305, 309, 301] ∧
    (equals 305).rank .l1 = [309, 301, 305] ∧ (equals 700).rank .l1 = [301, 305, 309] := by decide

/-- Sequence 1, uptime 1203: crew 2's ACCEPT 301 makes 309 the zone offered. -/
theorem test_accept :
    (let s := crewed .l1 (fun k => { k with offer := .out 301 15 }) (equals 0)
     let t := after (.accept .l1 0x012D#16) s
     (t.crew .l1).pending == [305, 309] && (t.crew .l1).attended == [301] && (t.crew .l1).offer == .due 305 &&
      (t.zone 301).attendedBy.v1 && (t.link .l1).replies == [⟨0x01#8, 0x00#8, [0x01#8, 0x2D#8, 0x00#8]⟩]) = true := by
  decide

/-- Sequence 1, uptime 1224: the release moves Rc to 305 under AUTO and 309 is offered. -/
theorem test_release :
    (let s := crewed .l1 (fun k => { k with pending := [301, 309], attended := [305] }) (equals 0)
     let t := after (.release .l1 0x0131#16) s
     (t.crew .l1).aside == [305] && (t.crew .l1).rc == 305 && (t.crew .l1).offer == .due 309) = true := by decide

/-- Sequence 3: RELEASE_TOP takes the earliest accepted of the equal highest. -/
theorem test_release_top :
    (let s := crewed .l1 (fun k => { k with pending := [], attended := [305, 301, 309] }) (equals 0)
     let t := after (.releaseTop .l1) s
     (t.crew .l1).attended == [301, 309] && (t.link .l1).replies == [⟨0x04#8, 0x00#8, [0x01#8, 0x31#8]⟩]) = true := by decide

/-- Sequence 3: POLL against a full attended list is answered FULL. -/
def polling : State :=
  { equals 0 with tables := { (equals 0).tables with
      profiles := ⟨{ Profile.cold with delivery := .poll, autoSheet := false }, Profile.cold, Profile.cold, Profile.cold⟩ } }

theorem test_poll_full :
    (let s := crewed .l1 (fun k => { k with pending := [301], attended := [1, 2, 3, 4, 5, 6, 7, 8] }) polling
     let t := after (.poll .l1) s
     (t.crew .l1).pending == [301] && (t.link .l1).replies == [⟨0x05#8, 0x01#8, []⟩]) = true := by decide

theorem test_poll :
    (let t := after (.poll .l1) polling
     (t.crew .l1).attended == [301] && (t.link .l1).replies == [⟨0x05#8, 0x00#8, [0x01#8, 0x2D#8, 0x00#8]⟩]) = true := by
  decide

/-- Sequence 4, uptime 4002: SECTORS withdraws the offer of a zone outside the new set. -/
theorem test_sectors :
    (let s := crewed .l1 (fun k => { k with offer := .out 301 15 }) (equals 0)
     let t := after (.sectors .l1 0x0008#16) s
     (t.crew .l1).pending == [] && (t.crew .l1).mark 301 == some .withdrawn && (t.crew .l1).live == 0x0008#16) = true := by
  decide

/-! ### Chapters 6 to 9 -/

/-- "Presence and attachment": the SYSTEM notice is begun at the attach. -/
theorem test_attach :
    (let s := State.reset.setLink .l2 { State.reset.link .l2 with presence := true }
     let t := after (.linkAttach ⟨.l2, .marking⟩) s
     (t.link .l2).state == .attached && (t.link .l2).ctrlReady == .high &&
      (t.crew .l2).flight == some ⟨.system, 0, false⟩) = true := by decide

/-- R111, R114: a link attached with RX at spacing waits for marking, and a character is formed once RX is back. -/
theorem test_attach_waits :
    (let s := State.reset.setLink .l2 { State.reset.link .l2 with presence := true }
     let t := after (.linkAttach ⟨.l2, .spacing⟩) s
     (t.link .l2).receiver == .waitMarking &&
      ((after (.crewCharacterReceived .l2 ⟨0x7E#8, false⟩) t).link .l2).asm == .hunting &&
      ((after (.crewCharacterReceived .l2 ⟨0x7E#8, true⟩) t).link .l2).asm == .collecting [] false 0xFFFF#16) = true := by
  decide

/-- R1: a line back at marking at the middle of the start bit was noise; a spacing level that is no change opens nothing. -/
theorem test_noise_start :
    (let t := after (.trunkReceiveLevelChange .a .spacing) State.reset
     (t.port .a).receiver == .receiving &&
      ((after (.trunkReceiveLevelChange .a (.marking true)) t).port .a).receiver == .idle &&
      ((after (.trunkReceiveLevelChange .a (.marking false)) t).port .a).receiver == .receiving) = true := by decide

/-- "A terminal that stops reading": the third byte of Q14 leaves 16 free places and takes controller-ready low. -/
theorem test_controller_ready :
    (let s := State.reset.setLink .l3 { (attach .l3 State.reset).link .l3 with
        waiting := List.replicate 9 [0x00#8, 0x01#8, 0x06#8, 0x00#8, 0x00#8],
        asm := .collecting [0x00#8, 0x01#8] false 0 }
     ((after (.crewCharacterReceived .l3 ⟨0x06#8, true⟩) s).link .l3).ctrlReady == .low) = true := by decide

/-- "One sheet, double buffered": the accepted zone's primary sheet is granted its first page at the same event. -/
theorem test_sheet_starts :
    (let s := { configured 600 20 (attach .l2 State.reset) with
        tables := { (configured 600 20 State.reset).tables with dir := [(40, ⟨true, 100, 3, 120, .riser, 0⟩)] } }
     let t := after (.sheetReqById .l2 0x0028#16) s
     t.ss.reader == some (.fill .l2 .bufA 0 100 256) && (t.slot .l2).bufA.state == .filling &&
      (t.slot .l2).transfer.map Transfer.nextPage == some 101) = true := by decide

/-- "A maintenance session", step 6: an accepted commit becomes the request in progress. -/
theorem test_commit_in_progress :
    (after (.planCommit 0x76#8 4 [0x00#8, 0x78#8]) (configured 600 20 State.reset)).mr = some ⟨0x76#8, 4, 0x07#8⟩ := by
  decide

/-- "A cold start": plan pages 3000 takes its default, the other fields load, and the source is PAGE. -/
theorem test_page_judged :
    judgePage ((configPage { ConfigTable.default with maint := 118, planPages := 3000 }).take 16) =
      ({ ConfigTable.default with maint := 118 }, .page) := by decide +kernel

/-- "A cold start", uptime 9: a RESYNC_DONE ends the resync. -/
theorem test_resync_done : (resyncDone State.reset).sc.status = .current ∧ (resyncDone State.reset).sc.expiry = none := by
  decide

/-! ### Hypotheses met: the trunk

Each theorem below names the statement whose hypotheses it meets, clause by clause, at the ends of the ranges. -/

/-- A port collecting some bytes. -/
def collecting (p : Port) (buf : List Byte) (esc : Bool) (r : Word16) (s : State) : State :=
  s.setPort p { s.port p with asm := .collecting buf esc r }

theorem not_whole {l : List Byte} (h : l.length < 5) : ¬ TrunkWhole l := by
  rintro ⟨n, h4, -⟩
  simp [List.getElem?_eq_none (show l.length ≤ 4 by omega)] at h4

theorem test_hyp_TrunkCharacterAssembles :
    (State.reset.running = true ∧ (State.reset.port .a).receiver ≠ .waitMarking ∧ (State.reset.port .a).asm = .hunting) ∧
    ((collecting .a [] true 5 State.reset).port .a).asm = .collecting [] true 5 ∧
    ((collecting .b [1] false 5 State.reset).port .b).asm = .collecting [1] false 5 ∧
    (Decodes false 0x7F#8 0x7F#8 ∧ ¬ HeaderBroken [] 0x7F#8 ∧ ¬ TrunkWhole [0x7F#8]) ∧
    (Decodes true 0x5D#8 0x7D#8 ∧ Decodes true 0x5E#8 0x7E#8) ∧
    (¬ HeaderBroken [0] 0x01#8 ∧ ¬ HeaderBroken [0] 0x78#8 ∧ ¬ HeaderBroken [0, 2, 0, 0] 0x30#8) ∧
    ¬ TrunkWhole [0, 2, 0, 0, 0x30#8] := by
  refine ⟨by decide, rfl, rfl, ⟨by unfold Decodes; decide, by unfold HeaderBroken; decide, not_whole (by decide)⟩,
    by unfold Decodes; decide, by unfold HeaderBroken; decide, ?_⟩
  rintro ⟨n, hn, hl⟩
  obtain rfl : (0x30#8) = n := by simpa using hn
  simp at hl

theorem test_hyp_TrunkFrameDiscarded :
    (State.reset.running = true ∧ ((collecting .a [9] true 5 State.reset).port .a).receiver ≠ .waitMarking ∧
      ((collecting .a [9] true 5 State.reset).port .a).asm = .collecting [9] true 5) ∧
    (([9] : List Byte) ≠ [] ∧ (0x41#8 ^^^ 0x20#8 : Byte) ≠ 0x7E#8 ∧ (0x41#8 ^^^ 0x20#8 : Byte) ≠ 0x7D#8) ∧
    (Decodes false 0x80#8 0x80#8 ∧ HeaderBroken [] 0x80#8) ∧ (Decodes false 0x00#8 0x00#8 ∧ HeaderBroken [0] 0x00#8) ∧
    (Decodes false 0x79#8 0x79#8 ∧ HeaderBroken [0] 0x79#8) ∧
    (Decodes false 0x31#8 0x31#8 ∧ HeaderBroken [0, 2, 0, 0] 0x31#8) := by
  refine ⟨by decide, by decide, ?_, ?_, ?_, ?_⟩ <;> (unfold Decodes HeaderBroken; decide)

/-- Frames of the trunk witnesses: the controller's own, one that does not fit, one taken and not handed, one only repeated,
a panel-only kind from node 2, and an orphan's point event. -/
def ownFrame : Frame := makeFrame 0x00#8 0x78#8 0x01#8 0x33#8 []
def unfitFrame : Frame := makeFrame 0x00#8 0x02#8 0x01#8 0x10#8 []
def takenFrame : Frame := makeFrame 0x78#8 0x02#8 0x01#8 0x33#8 []
def otherFrame : Frame := makeFrame 0x05#8 0x02#8 0x01#8 0x33#8 []
def foreignFrame : Frame := makeFrame 0x00#8 0x02#8 0x01#8 0x11#8 []

/-- A concrete frame arrives sound where its last byte is itself and the check closes with it. -/
theorem arrives (s : State) (p : Port) (f : Frame) (hr : s.running = true) (hw : (s.port p).receiver ≠ .waitMarking)
    (hl : f.payload.length ≤ 48) (ht : Asm.take (.collecting f.bytes.dropLast false (crc f.bytes.dropLast))
      (.good (lastByte f)) = .byte (lastByte f))
    (hb : f.bytes.dropLast ++ [lastByte f] = f.bytes) (hc : crcByte (crc f.bytes.dropLast) (lastByte f) = 0) :
    ArrivesSound (atLast p f s) p (lastByte f) f := by
  have ha : ((atLast p f s).port p).asm = .collecting f.bytes.dropLast false (crc f.bytes.dropLast) := by cases p <;> rfl
  exact ⟨hr, by cases p <;> exact hw, hl, _, _, _, _, ha, by rw [ha]; exact ht, hb, hc⟩

theorem test_hyp_CompleteFrameKept :
    (State.reset.running = true ∧ Decodes false 0x11#8 0x11#8 ∧ TrunkWhole ([0, 2, 0, 0x33#8, 0, 0x22#8] ++ [0x11#8]) ∧
      crcByte (crc [0, 2, 0, 0x33#8, 0, 0x22#8]) 0x11#8 ≠ 0) ∧
    (ArrivesSound (atLast .a ownFrame (upPort .a State.reset)) .a (lastByte ownFrame) ownFrame ∧
      ownFrame.src.toNat = State.reset.config.own) ∧
    (ArrivesSound (atLast .a unfitFrame (upPort .a State.reset)) .a (lastByte unfitFrame) unfitFrame ∧
      observedKind unfitFrame.kind = true ∧ payloadFits unfitFrame.kind unfitFrame.payload = false) ∧
    (ArrivesSound (atLast .a takenFrame (upPort .a State.reset)) .a (lastByte takenFrame) takenFrame ∧
      takenFrame.dst.toNat = State.reset.config.own ∧ observedKind takenFrame.kind = false ∧
      State.reset.ti.former ≠ some takenFrame.src.toNat) ∧
    ((atLast .a ownFrame (upPort .a State.reset)).port .a).up = true := by
  refine ⟨⟨rfl, by unfold Decodes; decide, ⟨0, rfl, rfl⟩, by decide +kernel⟩, ⟨arrives _ _ _ ?_ ?_ ?_ ?_ ?_ ?_, ?_⟩,
    ⟨arrives _ _ _ ?_ ?_ ?_ ?_ ?_ ?_, ?_⟩, ⟨arrives _ _ _ ?_ ?_ ?_ ?_ ?_ ?_, ?_⟩, ?_⟩ <;> decide +kernel

theorem test_hyp_SoundFrameRepeated :
    (ArrivesSound (atLast .b otherFrame (upPort .b State.reset)) .b (lastByte otherFrame) otherFrame ∧
      otherFrame.dst.toNat ≠ State.reset.config.own ∧ observedKind otherFrame.kind = false) ∧
    (ArrivesSound (atLast .b foreignFrame (upPort .b State.reset)) .b (lastByte foreignFrame) foreignFrame ∧
      payloadFits foreignFrame.kind foreignFrame.payload = true ∧ panelOnlyKind foreignFrame.kind = true ∧
      foreignFrame.src.toNat ≠ State.reset.config.panel) ∧
    ((atLast .b otherFrame (upPort .b State.reset)).port .b).up = true := by
  refine ⟨⟨arrives _ _ _ ?_ ?_ ?_ ?_ ?_ ?_, ?_⟩, ⟨arrives _ _ _ ?_ ?_ ?_ ?_ ?_ ?_, ?_⟩, ?_⟩ <;> decide +kernel

/-- Point 5 of node 14 in a defined, isolated zone. -/
def ringIsolated : State :=
  withZone 7 (zoneOn 1 1 0) isolatedZone
    { ring with tables := { ring.tables with map := [⟨14, 5, 5, 7⟩] } }

/-- A frame arrives new where it arrives sound and passes the tests that stand before handing. -/
theorem arrivesNew {s : State} {p : Port} {b : Byte} {f : Frame} (h : ArrivesSound s p b f) (hu : (s.port p).up = true)
    (ho : f.src.toNat ≠ s.config.own ∧ s.ti.former ≠ some f.src.toNat ∧
      (panelOnlyKind f.kind = true → f.src.toNat = s.config.panel) ∧
      Tab.get none s.ti.seqTable f.src.toNat ≠ some f.seq) : ArrivesNew s p b f :=
  ⟨h, hu, ho⟩

/-- Point 5 of node 14 in a defined zone that is not isolated, and its event addressed to the own node. -/
def ringMapped : State :=
  withZone 7 (zoneOn 1 1 0) (troubleZone 16) { ring with tables := { ring.tables with map := [⟨14, 5, 5, 7⟩] } }
def eventOwn : Frame := makeFrame 0x78#8 0x0E#8 0x4D#8 0x10#8 [0x00#8, 0x05#8, 0x02#8, 0x00#8]

theorem test_hyp_PointEventTaken :
    (ArrivesNew (atLast .a event77 ring) .a (lastByte event77) event77 ∧
      ArrivesNew (atLast .a event77 ringIsolated) .a (lastByte event77) event77 ∧
      ArrivesNew (atLast .b eventOwn ringMapped) .b (lastByte eventOwn) eventOwn) ∧
    (readPointEvent 14 event77.payload = some ⟨14, 5, .trouble, .manual, false⟩ ∧ event77.kind = 0x10#8 ∧
      event77.dst.toNat ≠ ring.config.own ∧ eventOwn.dst.toNat = ring.config.own) ∧
    ring.resolve 14 5 = 0 ∧
    (ringIsolated.resolve 14 5 = 7 ∧ (ringIsolated.zoneDef 7).defined = true ∧ (ringIsolated.zone 7).isolated = true) ∧
    (ringMapped.resolve 14 5 = 7 ∧ (ringMapped.zoneDef 7).defined = true ∧ (ringMapped.zone 7).isolated = false) := by
  refine ⟨⟨arrivesNew (arrives _ _ _ ?_ ?_ ?_ ?_ ?_ ?_) ?_ ?_, arrivesNew (arrives _ _ _ ?_ ?_ ?_ ?_ ?_ ?_) ?_ ?_,
    arrivesNew (arrives _ _ _ ?_ ?_ ?_ ?_ ?_ ?_) ?_ ?_⟩, ?_, ?_⟩ <;> decide +kernel

/-- Frames of the panel node, on a ring whose entry for it is empty: ZONE_ISOLATE on for zone 1023, PANEL_RESET, TIME_MARK,
RESYNC_DONE, and two MGMT_REQUESTs for the own node, one too short. -/
def panelFrame (dst kind : Byte) (payload : List Byte) : Frame := makeFrame dst 0x01#8 0x05#8 kind payload
def isolateFrame : Frame := panelFrame 0x00#8 0x12#8 [0x03#8, 0xFF#8, 0x01#8]
def resetFrame : Frame := panelFrame 0x00#8 0x11#8 []
def timeFrame : Frame := panelFrame 0x00#8 0x13#8 [0x65#8, 0x00#8, 0x00#8, 0x00#8]
def doneFrame : Frame := panelFrame 0x00#8 0x15#8 []
def requestFrame : Frame := panelFrame 0x78#8 0x20#8 [0x00#8, 0x09#8, 0x0B#8]
def shortFrame : Frame := panelFrame 0x78#8 0x20#8 [0x00#8, 0x09#8]

theorem test_hyp_panel_frames :
    (ArrivesNew (atLast .a isolateFrame ring) .a (lastByte isolateFrame) isolateFrame ∧
      readZoneIsolate isolateFrame.payload = some (1023, true)) ∧
    ArrivesNew (atLast .a resetFrame ring) .a (lastByte resetFrame) resetFrame ∧
    (ArrivesNew (atLast .b timeFrame ring) .b (lastByte timeFrame) timeFrame ∧
      readTimeMark timeFrame.payload = some 0x65000000#32) ∧
    ArrivesNew (atLast .b doneFrame ring) .b (lastByte doneFrame) doneFrame := by
  refine ⟨⟨arrivesNew (arrives _ _ _ ?_ ?_ ?_ ?_ ?_ ?_) ?_ ?_, ?_⟩,
    arrivesNew (arrives _ _ _ ?_ ?_ ?_ ?_ ?_ ?_) ?_ ?_,
    ⟨arrivesNew (arrives _ _ _ ?_ ?_ ?_ ?_ ?_ ?_) ?_ ?_, ?_⟩,
    arrivesNew (arrives _ _ _ ?_ ?_ ?_ ?_ ?_ ?_) ?_ ?_⟩ <;> decide +kernel

theorem test_hyp_request_frames :
    (ArrivesNew (atLast .a requestFrame ring) .a (lastByte requestFrame) requestFrame ∧
      requestFrame.dst.toNat = ring.config.own ∧
      requestOf (.pictureClear 0x01#8 0x0009#16 []) = some (requestFrame.src, word16 0x00#8 0x09#8, 0x0B#8, [])) ∧
    (ArrivesNew (atLast .a shortFrame ring) .a (lastByte shortFrame) shortFrame ∧ shortFrame.payload.length < 3) := by
  refine ⟨⟨arrivesNew (arrives _ _ _ ?_ ?_ ?_ ?_ ?_ ?_) ?_ ?_, ?_⟩,
    arrivesNew (arrives _ _ _ ?_ ?_ ?_ ?_ ?_ ?_) ?_ ?_, ?_⟩ <;> decide +kernel

theorem test_hyp_ResolutionIsUnique : MapOrdered mapped.tables.map ∧
    (⟨14, 32, 63, 202⟩ ∈ mapped.tables.map ∧ mapped.resolve 14 32 = 202 ∧ mapped.resolve 14 63 = 202) ∧
    (∀ m ∈ mapped.tables.map, m.node = 14 → ¬ (m.first ≤ 64 ∧ 64 ≤ m.last)) := by
  unfold MapOrdered; decide

theorem test_hyp_OwnFramesPlacedAndSent : State.reset.running = true ∧ (State.reset.port .a).tx = some .ownQueue ∧
    ((State.reset.setPort .b { State.reset.port .b with tx := some .repeatFifo }).port .b).tx = some .repeatFifo := by decide

theorem test_hyp_PortGoesDownAndUp :
    ((upPort .a State.reset).running = true ∧ ((upPort .a State.reset).port .a).up = true) ∧
    (((upPort .a State.reset).setPort .a { (upPort .a State.reset).port .a with level := .spacing }).port .a).level =
      .spacing ∧
    (ArrivesSound (atLast .a ownFrame State.reset) .a (lastByte ownFrame) ownFrame ∧
      ((atLast .a ownFrame State.reset).port .a).up = false ∧ ownFrame.src.toNat = State.reset.config.own) ∧
    ((atLast .a ownFrame (upPort .b State.reset)).port .b).up = true := by
  refine ⟨by decide, by decide, ⟨arrives _ _ _ ?_ ?_ ?_ ?_ ?_ ?_, ?_⟩, ?_⟩ <;> decide +kernel

theorem test_hyp_PortGoesDownAndUp_frame :
    (ArrivesSound (atLast .a otherFrame State.reset) .a (lastByte otherFrame) otherFrame ∧
      ((atLast .a otherFrame State.reset).port .a).up = false ∧ otherFrame.src.toNat ≠ State.reset.config.own ∧
      ((atLast .a otherFrame State.reset).port .b).up = false) ∧
    (ArrivesSound (atLast .a otherFrame (upPort .b State.reset)) .a (lastByte otherFrame) otherFrame ∧
      ((atLast .a otherFrame (upPort .b State.reset)).port .b).up = true) ∧
    (State.reset.port .a).ownQueue.length < 4 := by
  refine ⟨⟨arrives _ _ _ ?_ ?_ ?_ ?_ ?_ ?_, ?_⟩, ⟨arrives _ _ _ ?_ ?_ ?_ ?_ ?_ ?_, ?_⟩, ?_⟩ <;> decide +kernel

theorem test_hyp_TrunkTimersAndLevels :
    (collecting .a [1] false 5 State.reset).running = true ∧
    ((collecting .a [1] false 5 State.reset).port .a).asm = .collecting [1] false 5 ∧
    (State.reset.port .a).asm.held = [] ∧
    ((State.reset.port .a).receiver = .idle ∧ (State.reset.port .a).level = .marking) ∧
    (let s := State.reset.setPort .a { State.reset.port .a with level := .spacing }
     (s.port .a).receiver = .idle ∧ (s.port .a).level = .spacing) ∧
    ((State.reset.setPort .a { State.reset.port .a with receiver := .receiving }).port .a).receiver = .receiving ∧
    ((State.reset.setPort .a { State.reset.port .a with receiver := .waitMarking }).port .a).receiver = .waitMarking := by
  decide

theorem test_hyp_FramesSurviveTheLine : otherFrame.dst.toNat ≤ 127 ∧ 1 ≤ otherFrame.src.toNat ∧
    otherFrame.src.toNat ≤ 120 ∧ otherFrame.payload.length ≤ 48 ∧
    otherFrame.check = crc (frameHead otherFrame.dst otherFrame.src otherFrame.seq otherFrame.kind otherFrame.payload) ∧
    (State.reset.port .a).asm = .hunting := by
  decide +kernel

/-! ### Hypotheses met: the picture and urgency -/

/-- Zone 900 holding every record of the pool, so that none can be made. -/
def poolTaken (s : State) : State :=
  s.setZone 900 { troubleZone 16 with points := List.replicate 2048 ⟨9, 1, .trouble, 0⟩ }

/-- A zone in ALARM whose list holds the ALARM records of some points of node 22. -/
def alarmed (n : Nat) : ZoneLive :=
  { alarmZone 3 1 120 with points := List.replicate n ⟨22, 40, .alarm, 3⟩ }

theorem test_hyp_AlarmEventByCase :
    (let s := detector 500 ZoneLive.start
     (s.zone 412).isolated = false ∧ 0 < s.poolFree ∧ (s.zone 412).kindCount .alarm < 255 ∧
      (s.zone 412).holdsRec 22 40 .alarm = false ∧ (s.zone 412).cond ≠ .verifying ∧ (s.zoneDef 412).verify = true ∧
      (s.zone 412).alarms = 0 ∧ (s.zone 412).kindCount .prealarm = 0) ∧
    (let s := detector 556 (verifyZone 541 571)
     (s.zone 412).isolated = false ∧ 0 < s.poolFree ∧ (s.zone 412).cond = .verifying ∧
      (s.zone 412).holdsRec 22 40 .prealarm = true ∧ (s.zone 412).holdsRec 22 43 .prealarm = false ∧
      (s.zone 412).kindCount .prealarm = 1 ∧ (s.zone 412).kindCount .alarm = 0) := by decide

theorem test_hyp_AlarmEventByCase_repeat :
    (let s := detector 500 (alarmed 1)
     (s.zone 412).holdsRec 22 40 .alarm = true ∧ ZoneInv (s.zone 412) ∧ (s.zone 412).cond ≠ .quiet) ∧
    (let s := detector 500 (alarmed 255)
     (s.zone 412).holdsRec 22 41 .alarm = false ∧ 255 ≤ (s.zone 412).kindCount .alarm) := by
  unfold ZoneInv; decide +kernel

theorem test_hyp_AlarmEventByCase_pool :
    (let s := poolTaken (detector 500 ZoneLive.start)
     s.poolFree = 0 ∧ (s.zone 412).cond ≠ .verifying ∧ (s.zone 412).holdsRec 22 40 .alarm = false ∧
      (s.zone 412).kindCount .prealarm = 0) ∧
    (let s := poolTaken (detector 556 (verifyZone 541 571))
     s.poolFree = 0 ∧ (s.zone 412).cond = .verifying ∧ (s.zone 412).holdsRec 22 43 .prealarm = false) := by
  decide +kernel

theorem test_hyp_SupervisoryTroubleNormal :
    (let s := withZone 5 (zoneOn 1 1 0) (troubleZone 16) State.reset
     (s.zone 5).isolated = false ∧ 0 < s.poolFree ∧ (s.zone 5).kindCount .supervisory < 255 ∧
      (s.zone 5).kindCount .trouble < 255 ∧ (s.zone 5).holdsRec 3 1 .supervisory = false ∧
      (s.zone 5).holdsRec 3 1 .trouble = false) ∧
    (let s := withZone 5 (zoneOn 1 1 0) { troubleZone 16 with points := [⟨3, 1, .trouble, 0⟩] } State.reset
     (s.zone 5).holdsRec 3 1 .trouble = true ∧ (s.zone 5).cond ≠ .quiet) ∧
    ZoneInv { troubleZone 16 with points := [⟨3, 1, .trouble, 0⟩] } := by
  unfold ZoneInv; decide

theorem test_hyp_SupervisoryTroubleNormal_pool :
    (let s := poolTaken (withZone 5 (zoneOn 1 1 0) (troubleZone 16) State.reset)
     s.poolFree = 0 ∧ (s.zone 5).holdsRec 3 1 .supervisory = false) ∧
    (let s := withZone 5 (zoneOn 1 1 0) { troubleZone 16 with points := List.replicate 255 ⟨3, 2, .trouble, 0⟩ } State.reset
     255 ≤ (s.zone 5).kindCount .trouble ∧ (s.zone 5).holdsRec 3 1 .trouble = false) := by decide +kernel

theorem test_hyp_VerifyWindowExpires :
    (let s := detector 530 (verifyZone 500 530)
     s.running = true ∧ (s.zone 412).cond = .verifying ∧ (s.zone 412).isolated = false ∧ (s.zone 412).alarms = 0 ∧
      (s.zone 412).deadline = some 530 ∧ 530 ≤ s.uptime) := by decide

theorem test_hyp_ZoneIsolated :
    (let s := withZone 412 (zoneOn 18 3 0) (alarmZone 3 1 120) State.reset
     ZoneInv (s.zone 412) ∧ (s.zoneDef 412).defined = true ∧ (s.zone 412).isolated = false) ∧
    (let s := withZone 412 (zoneOn 18 3 0) isolatedZone State.reset
     ZoneInv (s.zone 412) ∧ (s.zoneDef 412).defined = true ∧ (s.zone 412).isolated = true) := by
  unfold ZoneInv; decide

/-- A zone in ALARM that the attached crew 1 attends. -/
def attending : State :=
  crewed .l1 (fun k => { k with attended := [412] })
    (attach .l1 (withZone 412 (zoneOn 18 3 0) (alarmZone 3 1 120) State.reset))

theorem live_attending (z : Nat) : attending.zone z = if 412 = z then alarmZone 3 1 120 else ZoneLive.start := by
  show Tab.get ZoneLive.start [(412, alarmZone 3 1 120)] z = _
  simp [Tab.get]

theorem test_hyp_PanelResetClears : PictureInv attending ∧ attending.attached .l1 = true ∧
    412 ∈ (attending.crew .l1).attended ∧ attending.zoneActive 412 = true := by
  refine ⟨⟨by decide, fun z => ?_⟩, by decide, by decide, by decide⟩
  rw [live_attending]
  split <;> (unfold ZoneInv; decide)

theorem serves (s : State) (src : Byte) (h : s.running = true ∧ s.admitted src = true ∧ s.mr = none) : Serves s src := h

theorem test_hyp_PictureCleared : Serves attending 0x01#8 ∧ attending.attached .l1 = true ∧
    (attending.port .a).ownQueue.length ≤ 2 := ⟨serves _ _ (by decide), by decide, by decide⟩

theorem test_hyp_AgeStepFalls :
    (let s := at_ 23 (attending.setAgeStep 412 (some 23))
     s.running = true ∧ (s.zone 412).cond = .alarm ∧ (s.zone 412).alarmEntry = some 3 ∧ s.ageStep 412 = some 23 ∧
      23 ≤ s.uptime ∧ s.attached .l1 = true ∧ 412 ∈ (s.crew .l1).attended ∧
      (s.zone 412).urgency ≠ some (s.urgencyValue 412)) ∧
    (attending.zoneActive 412 = true ∧ [attending.config.bonus0, attending.config.bonus1, attending.config.bonus2,
      attending.config.bonus3][(attending.zoneDef 412).hazard]? = some 0) := by decide

theorem test_hyp_HazardBonusWritten : Serves State.reset 0x01#8 ∧ State.reset.lockHolds = false ∧
    (3 < num16 0x00#8 0x04#8 ∧ num16 0x00#8 0x03#8 ≤ 3 ∧ 80 < (0x51#8 : Byte).toNat ∧ (0x50#8 : Byte).toNat ≤ 80) ∧
    (let s := withZone 5 (zoneOn 1 1 3) (troubleZone 16) State.reset
     Serves s 0x01#8 ∧ s.lockHolds = false ∧ s.config.bonus 3 ≠ 80 ∧ s.zoneActive 5 = true ∧ (s.zoneDef 5).hazard = 3) :=
  ⟨serves _ _ (by decide), by decide, by decide, serves _ _ (by decide), by decide⟩

/-! ### Hypotheses met: notices and links -/

theorem test_hyp_RankOrdersPending :
    (let s := crewed .l1 (fun k => { k with pending := [1, 1023] }) State.reset
     (s.crew .l1).pending.Pairwise (· < ·) ∧ ∀ z ∈ (s.crew .l1).pending, 1 ≤ z ∧ z ≤ 1023) ∧
    (301 ∈ ((equals 0).crew .l1).pending ∧ ((equals 0).profile .l1).mode = .openMode) := by decide

/-- Sequence 1, uptime 1217: under NESTED an attended zone of urgency 132 keeps the zones at 120 from being eligible, and so
does one at 120 (R85). -/
theorem test_nested_threshold :
    (let s (u : Nat) := { withZone 310 (zoneOn 20 3 0) (alarmZone 0 1 u) (crewed .l1 (fun k => { k with attended := [310] })
        (equals 0)) with tables := { State.reset.tables with
          profiles := ⟨{ Profile.cold with mode := .nested }, Profile.cold, Profile.cold, Profile.cold⟩ } }
     (s 132).eligible .l1 301 = false ∧ (s 120).eligible .l1 301 = false ∧ (s 119).eligible .l1 301 = true) := by decide

theorem hands (s : State) (c : Link) (h : s.running = true ∧ (s.link c).state = .attached ∧ (s.link c).replies.length < 4) :
    Hands s c := h

/-- Zones 1 and 1023 pending for crew 1, with seven or eight zones attended. -/
def pendingEnds (n : Nat) : State :=
  crewed .l1 (fun k => { k with pending := [1, 1023], attended := (List.range n).map (· + 2) }) (attach .l1 State.reset)

theorem test_hyp_AcceptAndDeclineAnswered :
    (Hands (pendingEnds 7) .l1 ∧ Hands (pendingEnds 8) .l1) ∧
    ((0x0000#16 : Word16).toNat = 0 ∧ 1023 < (0x0400#16 : Word16).toNat) ∧
    ((0x0001#16 : Word16).toNat ∈ ((pendingEnds 7).crew .l1).pending ∧
      (0x03FF#16 : Word16).toNat ∈ ((pendingEnds 7).crew .l1).pending ∧
      (0x0002#16 : Word16).toNat ∉ ((pendingEnds 7).crew .l1).pending) ∧
    (((pendingEnds 7).crew .l1).attended.length < 8 ∧ 8 ≤ ((pendingEnds 8).crew .l1).attended.length) :=
  ⟨⟨hands _ _ (by decide), hands _ _ (by decide)⟩, by decide⟩

theorem test_hyp_ReleaseAnswered :
    (Hands (pendingEnds 7) .l1 ∧ Hands (pendingEnds 0) .l1) ∧
    ((0x0002#16 : Word16).toNat ∈ ((pendingEnds 7).crew .l1).attended ∧
      (0x0001#16 : Word16).toNat ∉ ((pendingEnds 7).crew .l1).attended ∧ ((pendingEnds 0).crew .l1).attended = []) ∧
    (((pendingEnds 1).crew .l1).attended = [] ++ 2 :: []) :=
  ⟨⟨hands _ _ (by decide), hands _ _ (by decide)⟩, by decide⟩

theorem test_hyp_OfferTimesOutAndPollAnswered :
    (let s := crewed .l1 (fun k => { k with offer := .out 301 0 }) (equals 0)
     s.running = true ∧ s.attached .l1 = true ∧ (s.crew .l1).offer = .out 301 0 ∧ 0 ≤ s.uptime) ∧
    (Hands (equals 0) .l1 ∧ ((equals 0).profile .l1).delivery = .push) ∧
    (Hands polling .l1 ∧ (polling.profile .l1).delivery = .poll ∧ (polling.crew .l1).attended.length < 8 ∧
      (polling.rank .l1).find? (polling.eligible .l1) = some 301) ∧
    (let s := crewed .l1 (fun k => { k with pending := [], attended := [1, 2, 3, 4, 5, 6, 7, 8] }) polling
     (s.profile .l1).delivery = .poll ∧ 8 ≤ (s.crew .l1).attended.length) ∧
    (let s := crewed .l1 (fun k => { k with pending := [] }) polling
     (s.profile .l1).delivery = .poll ∧ (s.crew .l1).attended.length < 8 ∧ (s.rank .l1).find? (s.eligible .l1) = none) :=
  ⟨by decide, ⟨hands _ _ (by decide), by decide⟩, ⟨hands _ _ (by decide), by decide⟩, by decide, by decide⟩

theorem test_hyp_ListSectorsUnknownAnswered : Hands (equals 0) .l1 ∧
    ((0x00#8 : Byte).toNat = 0 ∧ 10 ≤ (0x0A#8 : Byte).toNat) ∧
    (let s := crewed .l1 (fun k => { k with offer := .out 301 15 }) (equals 0)
     (s.crew .l1).offer = .out 301 15 ∧ inSectors 0x0008#16 (s.zoneDef 301).sector = false) ∧
    ([0x01#8].length ≠ 2 ∧ [0x00#8, 0x01#8, 0x00#8].length ≠ 2 ∧ [0x00#8] ≠ ([] : List Byte)) :=
  ⟨hands _ _ (by decide), by decide⟩

theorem test_hyp_LinkAttaches :
    (let s := State.reset.setLink .l2 { State.reset.link .l2 with presence := true }
     s.running = true ∧ (s.link .l2).state = .detached ∧ (s.link .l2).presence = true) := by decide

theorem test_hyp_LinkDetaches : attending.running = true ∧ (attending.link .l1).state = .attached ∧
    (attending.link .l1).presence = false ∧
    (let s := attending.setSlot .l1 { attending.slot .l1 with bufA := { SpanBuf.emptied with state := .filling } }
     ((s.slot .l1).buf .bufA).state = .filling ∧ ((s.slot .l1).buf .bufB).state ≠ .filling) := by decide

theorem test_hyp_TransmitterTakesOldest : (State.reset.link .l1).termReady = false ∧
    (let s := State.reset.setLink .l1 { (attach .l1 State.reset).link .l1 with
        termReady := true, txFifo := 0x7E#8 :: List.replicate 63 0 }
     s.running = true ∧ (s.link .l1).state = .attached ∧ (s.link .l1).termReady = true ∧
      (s.link .l1).txFifo = 0x7E#8 :: List.replicate 63 0 ∧ (List.replicate 63 (0 : Byte)).length < 64) ∧
    ((State.reset.link .l1).writing = none ∧
      (let s := State.reset.setLink .l1 { (attach .l1 State.reset).link .l1 with
          termReady := true, txFifo := [0], writing := some ⟨.sheet .bufB, [⟨1, true⟩, ⟨2, true⟩, ⟨3, false⟩]⟩ }
       (s.link .l1).writing = some ⟨.sheet .bufB, [⟨1, true⟩, ⟨2, true⟩, ⟨3, false⟩]⟩)) := by decide

/-- Link 1 ATTACHED and collecting some bytes. -/
def collectingCrew (buf : List Byte) (esc : Bool) (r : Word16) : State :=
  State.reset.setLink .l1 { (attach .l1 State.reset).link .l1 with asm := .collecting buf esc r }

theorem test_hyp_CrewCharacterStored :
    ((attach .l1 State.reset).running = true ∧ ((attach .l1 State.reset).link .l1).state = .attached ∧
      ((attach .l1 State.reset).link .l1).asm = .hunting ∧
      ((attach .l1 State.reset).link .l1).receiver ≠ .waitMarking) ∧
    (let s := (attach .l1 State.reset).setLink .l1 { (attach .l1 State.reset).link .l1 with receiver := .waitMarking }
     (s.link .l1).state = .attached ∧ (s.link .l1).receiver = .waitMarking) ∧
    (((collectingCrew [] true 5).link .l1).asm = .collecting [] true 5 ∧
      ((collectingCrew [0] false 5).link .l1).asm = .collecting [0] false 5) ∧
    (Decodes false 0x0C#8 0x0C#8 ∧ ((collectingCrew [0] false 5).link .l1).rxHeld < 64 ∧
      ((collectingCrew [0] false 5).link .l1).ctrlReady = .high ∧
      (let s := (collectingCrew [0] false 5).setLink .l1 { (collectingCrew [0] false 5).link .l1 with
          ctrlReady := .low, waiting := List.replicate 7 (List.replicate 7 0) }
       (s.link .l1).ctrlReady = .low ∧ (s.link .l1).rxHeld < 64 ∧ 64 - ((s.link .l1).rxHeld + 1) < 32) ∧
      (∀ h l rest, [0x00#8] ++ [0x0C#8] = h :: l :: rest →
        1 ≤ num16 h l ∧ num16 h l ≤ 12 ∧ ([0x00#8] ++ [0x0C#8]).length ≠ num16 h l + 4)) := by
  refine ⟨by decide, by decide, by decide, by unfold Decodes; decide, by decide, by decide, by decide, ?_⟩
  rintro h l rest e
  simp only [List.cons_append, List.nil_append, List.cons.injEq] at e
  obtain ⟨rfl, rfl, -⟩ := e
  decide

theorem test_hyp_CrewFrameDiscarded :
    ((collectingCrew [0] true 5).running = true ∧ ((collectingCrew [0] true 5).link .l1).state = .attached ∧
      ((collectingCrew [0] true 5).link .l1).receiver ≠ .waitMarking ∧
      ((collectingCrew [0] true 5).link .l1).asm = .collecting [0] true 5) ∧
    ((0x41#8 ^^^ 0x20#8 : Byte) ≠ 0x7E#8 ∧ (0x41#8 ^^^ 0x20#8 : Byte) ≠ 0x7D#8) ∧
    (Decodes false 0x00#8 0x00#8 ∧ num16 0x00#8 0x00#8 = 0 ∧ Decodes false 0x0D#8 0x0D#8 ∧ 12 < num16 0x00#8 0x0D#8) ∧
    (let s := (collectingCrew [0] false 5).setLink .l1 { (collectingCrew [0] false 5).link .l1 with
        waiting := List.replicate 9 (List.replicate 7 0) }
     (s.link .l1).rxHeld = 64) := by
  unfold Decodes; decide

/-- A LIST request but its last byte. -/
def listRequest : List Byte := crewFrame 0x06#8 []

def listing (replies : Nat) (waiting : List (List Byte)) : State :=
  State.reset.setLink .l1 { (attach .l1 State.reset).link .l1 with
    asm := .collecting listRequest.dropLast false (crc listRequest.dropLast)
    replies := List.replicate replies ⟨0x06#8, 0, []⟩
    waiting := waiting }

theorem completes (n : Nat) (w : List (List Byte)) (b : Byte) (hw : ((listing n w).link .l1).rxHeld < 64)
    (hb : b ≠ 0x7E#8 ∧ b ≠ 0x7D#8) :
    CrewCompletes (listing n w) .l1 b (listRequest.dropLast ++ [b]) (crcByte (crc listRequest.dropLast) b) := by
  refine ⟨rfl, rfl, by show Receiver.idle ≠ _; decide, hw, _, _, _, b, rfl, ?_, rfl, rfl, by simp; decide,
    by simp; decide, ?_⟩
  · show Asm.take (.collecting _ false _) _ = _
    simp [Asm.take, startMark, escapeByte, hb.1, hb.2]
  · show some _ = _
    simp; decide

theorem test_hyp_CrewFrameCompletes :
    (CrewCompletes (listing 0 []) .l1 0x00#8 (listRequest.dropLast ++ [0x00#8])
        (crcByte (crc listRequest.dropLast) 0x00#8) ∧
      crcByte (crc listRequest.dropLast) 0x00#8 ≠ 0) ∧
    (∃ b, CrewCompletes (listing 4 []) .l1 b (listRequest.dropLast ++ [b]) (crcByte (crc listRequest.dropLast) b) ∧
      crcByte (crc listRequest.dropLast) b = 0 ∧ 4 ≤ ((listing 4 []).link .l1).replies.length) ∧
    (∃ b, CrewCompletes (listing 3 []) .l1 b (listRequest.dropLast ++ [b]) (crcByte (crc listRequest.dropLast) b) ∧
      crcByte (crc listRequest.dropLast) b = 0 ∧ ((listing 3 []).link .l1).replies.length < 4 ∧
      ((listing 3 []).link .l1).waiting = [] ∧ ∃ h l x y, listRequest.dropLast ++ [b] = h :: l :: 0x06#8 :: ([] ++ [x, y]) ∧
        crewRequestOf (.list .l1) = some (.l1, 0x06#8, [])) ∧
    (∃ b, CrewCompletes (listing 2 [listRequest]) .l1 b (listRequest.dropLast ++ [b])
        (crcByte (crc listRequest.dropLast) b) ∧ crcByte (crc listRequest.dropLast) b = 0 ∧
      ((listing 2 [listRequest]).link .l1).waiting ≠ [] ∧ ((listing 2 [listRequest]).link .l1).replies.length < 4) := by
  refine ⟨⟨completes _ _ _ ?_ ?_, ?_⟩, ⟨listRequest.getLast?.getD 0, completes _ _ _ ?_ ?_, ?_⟩,
    ⟨listRequest.getLast?.getD 0, completes _ _ _ ?_ ?_, ?_, ?_, ?_, 0x00#8, 0x01#8, (crc [0, 1, 6]).extractLsb' 8 8,
      (crc [0, 1, 6]).extractLsb' 0 8, ?_, ?_⟩,
    ⟨listRequest.getLast?.getD 0, completes _ _ _ ?_ ?_, ?_⟩⟩ <;> decide +kernel

/-- A frame of an owner with one character left. -/
def finishing (o : Owner) (s : State) : State :=
  s.setLink .l1 { (attach .l1 s).link .l1 with writing := some ⟨o, [⟨0x55#8, false⟩]⟩ }

theorem test_hyp_FrameWrittenCompletes :
    (let s := finishing .reply State.reset
     s.running = true ∧ (s.link .l1).writing = some ⟨.reply, [⟨0x55#8, false⟩]⟩ ∧ (s.link .l1).txFifo.length < 64 ∧
      (s.link .l1).waiting = []) ∧
    (let s := finishing .notice (crewed .l1 (fun k => { k with flight := some ⟨.system, 0, true⟩ }) State.reset)
     (s.crew .l1).flight = some ⟨.system, 0, true⟩) ∧
    (let s := finishing .notice (crewed .l1 (fun k => { k with flight := some ⟨.mark .clear, 7, false⟩ }) State.reset)
     (s.crew .l1).flight = some ⟨.mark .clear, 7, false⟩) ∧
    (let s := finishing .notice (crewed .l1 (fun k => { k with flight := some ⟨.offer, 7, false⟩, pending := [7] }) State.reset)
     (s.crew .l1).flight = some ⟨.offer, 7, false⟩ ∧ 7 ∈ (s.crew .l1).pending) ∧
    (let s := (finishing (.sheet .bufB) State.reset).setSlot .l1 { State.reset.slot .l1 with
        transfer := some ⟨3, 10, 4, 256, 12, 2, 1, none⟩, queue := [4] }
     (s.slot .l1).transfer = some ⟨3, 10, 4, 256, 12, 2, 1, none⟩ ∧ ((s.slot .l1).buf .bufB).discarded = false ∧
      ((s.slot .l1).buf .bufB).final = false) ∧
    (let s := (finishing (.sheet .bufA) State.reset).setSlot .l1 { State.reset.slot .l1 with
        queue := [4], bufA := { SpanBuf.emptied with state := .draining, final := true } }
     ((s.slot .l1).buf .bufA).final = true ∧ ((s.slot .l1).buf .bufA).discarded = false ∧ (s.slot .l1).queue = 4 :: []) := by
  decide

theorem test_hyp_FrameWrittenCompletes_waiting :
    (let s := (finishing .reply State.reset).setLink .l1 { (finishing .reply State.reset).link .l1 with
        replies := List.replicate 4 ⟨0x06#8, 0, []⟩, waiting := [listRequest, listRequest] }
     (s.link .l1).state = .attached ∧ (s.link .l1).writing = some ⟨.reply, [⟨0x55#8, false⟩]⟩ ∧
      (s.link .l1).waiting ≠ []) := by decide

/-- Link 1 ATTACHED with one place free in its transmit FIFO, a crew, a reply queue and a sheet slot as given. -/
def choosing (f : Crew → Crew) (r : List Reply) (x : SheetSlot) : State :=
  ((crewed .l1 f State.reset).setLink .l1 { (attach .l1 State.reset).link .l1 with
    replies := r, txFifo := List.replicate 63 0 }).setSlot .l1 x

theorem may_begin (f : Crew → Crew) (r : List Reply) (x : SheetSlot) : MayBegin (choosing f r x) .l1 :=
  ⟨rfl, rfl, by show (List.replicate 63 (0 : Byte)).length < 64; decide⟩

theorem start_outputs (s : State) (c : Link) :
    ((beginStart s).link c).tx = .highZ ∧ ((beginStart s).link c).ctrlReady = .highZ := by
  unfold beginStart
  dsimp only
  split <;> cases c <;> exact ⟨rfl, rfl⟩

/-- R112, R115 and R116: TX and controller-ready of link 1 attached, sending, detached, disabled and enabled again. -/
theorem test_outputs :
    (let out (s : State) := ((s.link .l1).tx, (s.link .l1).ctrlReady)
     let s := attach .l1 State.reset
     let sent := after (.crewCharacterTaken .l1) (s.setLink .l1 { s.link .l1 with termReady := true, txFifo := [0x41#8] })
     let off := after (.linkDisable 0x01#8 0 [0x01#8]) sent
     out State.reset = (.marking, .low) ∧ out s = (.marking, .high) ∧ out sent = (.sending 0x41#8, .high) ∧
      out (after (.linkDetach .l1) sent) = (.sending 0x41#8, .low) ∧ out off = (.highZ, .highZ) ∧
      out (after (.linkEnable 0x01#8 0 [0x01#8]) off) = (.marking, .low) ∧
      out (after .start sent) = (.highZ, .highZ)) := by
  refine ⟨rfl, rfl, by decide, by decide, by decide +kernel, by decide +kernel, ?_⟩
  exact Prod.ext (start_outputs _ .l1).1 (start_outputs _ .l1).2

/-- The marks of two zones, at the ends of the zone numbers. -/
def marked (m n : Mark) (k : Crew) : Crew := { k with marks := [(1, some m), (1023, some n)] }

theorem mark_marked (m n : Mark) (k : Crew) (y : Nat) :
    (marked m n k).mark y = if 1 = y then some m else if 1023 = y then some n else none := by
  simp [Crew.mark, marked, Tab.get]

theorem test_hyp_FrameWrittenCompletes_choice :
    (¬ MayBegin State.reset .l1 ∧ MayBegin (choosing id [⟨0x06#8, 0, []⟩] SheetSlot.empty) .l1) ∧
    FirstDue (choosing Crew.setSystemDue [] SheetSlot.empty) .l1 .system 0 ∧
    (FirstDue (choosing (marked .update .clear) [] SheetSlot.empty) .l1 (.mark .clear) 1023 ∧
      FirstDue (choosing (marked .withdrawn .clear) [] SheetSlot.empty) .l1 (.mark .withdrawn) 1) ∧
    FirstDue (choosing (marked .update .update) [] SheetSlot.empty) .l1 (.mark .update) 1 ∧
    FirstDue (choosing (fun k => { k with offer := .due 1023 }) [] SheetSlot.empty) .l1 .offer 1023 ∧
    (Tab.wf none (marked .update .clear Crew.empty).marks = true ∧
      NothingDue (choosing id [] SheetSlot.empty) .l1 ∧ (SheetSlot.empty).transfer = none) := by
  refine ⟨⟨fun h => LinkState.noConfusion h.1, may_begin _ _ _⟩, .inl ⟨rfl, rfl, rfl⟩,
    ⟨.inr (.inl ⟨rfl, .clear, by decide, rfl, ?_, fun y hy => ?_⟩),
      .inr (.inl ⟨rfl, .withdrawn, by decide, rfl, ?_, fun y hy => ?_⟩)⟩,
    .inr (.inr (.inl ⟨rfl, fun y => ?_, rfl, ?_, fun y hy => ?_⟩)),
    .inr (.inr (.inr ⟨rfl, fun _ => rfl, rfl, rfl⟩)), by decide, ⟨rfl, fun _ => rfl, fun _ => Offer.noConfusion⟩, rfl⟩
  · exact mark_marked _ _ _ 1023
  · show (marked _ _ _).mark y = _ ∨ (marked _ _ _).mark y = _
    rw [mark_marked, if_neg (by omega : ¬ 1023 = y)]
    split <;> simp
  · exact mark_marked _ _ _ 1
  · show (marked _ _ _).mark y = _ ∨ (marked _ _ _).mark y = _
    rw [mark_marked, if_neg (by omega : ¬ 1 = y), if_neg (by omega : ¬ 1023 = y)]
    exact .inl rfl
  · show (marked _ _ _).mark y = _ ∨ (marked _ _ _).mark y = _
    rw [mark_marked]
    split <;> [simp; split <;> simp]
  · exact mark_marked _ _ _ 1
  · have h : (marked .update .update Crew.empty).mark y = some .update := hy
    rw [mark_marked] at h
    refine .inr ⟨rfl, ?_⟩
    split at h
    · omega
    · split at h
      · omega
      · cases h

theorem test_hyp_FrameWrittenCompletes_span :
    (let x := { SheetSlot.empty with transfer := some ⟨511, 10, 64, 256, 74, 0, 63, none⟩,
                                     bufB := { SpanBuf.emptied with state := .full, span := 63, bytes := [0x7E#8] } }
     ((choosing id [] x).slot .l1).transfer = some ⟨511, 10, 64, 256, 74, 0, 63, none⟩ ∧ bufOf 63 = .bufB ∧
      (((choosing id [] x).slot .l1).buf .bufB).state = .full ∧ (((choosing id [] x).slot .l1).buf .bufB).span = 63) ∧
    DataWritten [0x80#8, 0xFF#8, 0x3F#8] [0x7E#8] 9 1 ∧ DataWritten [0x80#8, 0xFF#8, 0x3F#8] [0x7E#8] 8 0 := by
  unfold DataWritten; decide

/-! ### Hypotheses met: plan sheets -/

/-- Sheet 40 available, link 1 ATTACHED, and a queue and a transfer as given. -/
def sheets (q : List Nat) (t : Option Transfer) : State :=
  let s := configured 600 20 (attach .l1 State.reset)
  ({ s with tables := { s.tables with
      dir := [(40, ⟨true, 100, 3, 120, .riser, 0⟩), (511, ⟨true, 100, 3, 120, .riser, 0⟩)],
      defs := [(1023, { zoneOn 1 1 0 with primary := some 40, secondary := some 40 })] } } : State).setSlot .l1
    { SheetSlot.empty with queue := q, transfer := t }

def transfer40 : Transfer := ⟨40, 100, 3, 120, 101, 2, 0, none⟩

theorem test_hyp_SheetRequestAnswered :
    (Hands (sheets [] none) .l1 ∧ Hands (sheets [40] none) .l1 ∧ Hands (attach .l1 State.reset) .l1) ∧
    (512 ≤ (0x0200#16 : Word16).toNat ∧ (0x01FF#16 : Word16).toNat < 512) ∧
    ([0x00#8, 0x01#8].length ≠ 3 ∧ 2 ≤ (0x02#8 : Byte).toNat ∧ 512 ≤ num16 0x02#8 0x00#8) ∧
    ((attach .l1 State.reset).config.planPages = 0 ∧ (sheets [] none).config.planPages ≠ 0) ∧
    ((sheets [] none).sheetAvailable 41 = false ∧ (sheets [] none).sheetAvailable 40 = true) ∧
    (40 ∈ ((sheets [40] none).slot .l1).queue ∧
      ((sheets [] (some transfer40)).slot .l1).transfer.map Transfer.sheet = some 40) ∧
    (40 ∉ ((sheets [1, 2, 3, 4] none).slot .l1).queue ∧ 4 ≤ ((sheets [1, 2, 3, 4] none).slot .l1).queue.length) ∧
    ((sheets [] none).sheetAvailable 511 = true ∧ ((sheets [] (some transfer40)).slot .l1).transfer ≠ none ∧
      ((sheets [1, 2, 3] (some transfer40)).slot .l1).queue.length < 4) ∧
    (1023 < (0x0400#16 : Word16).toNat ∧ ((sheets [] none).zoneDef 1).primary = none ∧
      ((sheets [] none).zoneDef 1).secondary = none) ∧
    (((sheets [] none).zoneDef 1023).primary = some 40 ∧ ((sheets [] none).zoneDef 1023).secondary = some 40 ∧
      ((sheets [] none).slot .l1).queue = [] ∧ ((sheets [] none).slot .l1).transfer = none) ∧
    (1 ≤ (0x0001#16 : Word16).toNat ∧ (0x03FF#16 : Word16).toNat ≤ 1023) :=
  ⟨⟨hands _ _ (by decide), hands _ _ (by decide), hands _ _ (by decide)⟩, by decide⟩

theorem test_hyp_SheetStopAnswered : Hands (sheets [1] (some transfer40)) .l1 ∧
    (1 ∈ ((sheets [1] (some transfer40)).slot .l1).queue ∧ 40 ∉ ((sheets [1] (some transfer40)).slot .l1).queue ∧
      ((sheets [1] (some transfer40)).slot .l1).transfer.map Transfer.sheet = some 40 ∧
      (0x01FF#16 : Word16).toNat ∉ ((sheets [1] (some transfer40)).slot .l1).queue ∧
      (0x01FF#16 : Word16).toNat < 512 ∧ 512 ≤ (0x0200#16 : Word16).toNat) ∧
    ([0x01#8].length ≠ 3 ∧ 2 ≤ (0xFF#8 : Byte).toNat ∧ 512 ≤ num16 0x02#8 0x00#8 ∧ num16 0x00#8 0x01#8 ≠ 0) ∧
    (let s := (sheets [1] (some transfer40)).setSlot .l1 { (sheets [1] (some transfer40)).slot .l1 with
        bufA := { SpanBuf.emptied with state := .draining } }
     (s.slot .l1).transfer ≠ none ∧ ((s.slot .l1).buf .bufA).state = .draining) ∧
    (let s := (sheets [1] (some transfer40)).setSlot .l1 { (sheets [1] (some transfer40)).slot .l1 with
        bufA := { SpanBuf.emptied with state := .filling }, bufB := { SpanBuf.emptied with state := .full } }
     (s.slot .l1).transfer ≠ none ∧ ((s.slot .l1).buf .bufA).state = .filling ∧ ((s.slot .l1).buf .bufB).state = .full) :=
  ⟨hands _ _ (by decide), by decide⟩

/-- The reader BUSY with an operation. -/
def reading (r : ReaderOp) (s : State) : State := { s with ss := { s.ss with reader := some r } }

theorem test_hyp_FillReadEnds :
    (let s := reading (.fill .l1 .bufA 2 102 120) (sheets [] (some transfer40))
     s.running = true ∧ s.ss.reader = some (.fill .l1 .bufA 2 102 120) ∧ ((s.slot .l1).buf .bufA).discarded = false ∧
      (s.slot .l1).transfer = some transfer40) ∧
    (let s := reading (.fill .l1 .bufA 2 102 120) ((sheets [] none).setSlot .l1 { SheetSlot.empty with
        bufA := { SpanBuf.emptied with state := .filling, discarded := true } })
     s.running = true ∧ ((s.slot .l1).buf .bufA).discarded = true ∧ (s.slot .l1).transfer = none) ∧
    (let s := reading (.fill .l1 .bufA 2 102 120) ((sheets [] (some transfer40)).setSlot .l1
        { (sheets [] (some transfer40)).slot .l1 with
          bufA := { SpanBuf.emptied with state := .filling, discarded := true } })
     s.running = true ∧ ((s.slot .l1).buf .bufA).discarded = true ∧ (s.slot .l1).transfer ≠ none) := by decide

/-- Crew 1's transfer asks for a page, after a grant to some crew, with a management operation waiting or none. -/
def granting (page : Nat) (g : Link) (w : Option WaitingOp) : State :=
  let s := sheets [] (some { transfer40 with nextPage := page })
  { s with ss := { s.ss with lastGranted := g, waiting := w } }

theorem none_enters (page : Nat) (g : Link) (w : Option WaitingOp) (c : Link) (tr : Transfer) (cause : FaultCause) :
    ¬ FaultEnters (granting page g w) c tr cause := by
  rintro ⟨h, hf, -⟩
  cases c
  · obtain rfl := Option.some.inj h
    cases hf
  all_goals injection h

theorem one_qualifies (page : Nat) (g : Link) (c : Link) : Qualifies (granting page g none) c ↔ c = .l1 := by
  constructor
  · rintro ⟨tr, h, -⟩
    cases c <;> first | rfl | injection h
  · rintro rfl
    exact ⟨_, rfl, rfl, by show 0 < 2; decide, rfl⟩

theorem test_hyp_FillReadEnds_choice :
    FaultEnters (sheets [] (some { transfer40 with remaining := 0, faultDue := some .range })) .l1
      { transfer40 with remaining := 0, faultDue := some .range } .range ∧
    (∀ c tr cause, ¬ FaultEnters (granting 599 .l4 (some (.commit 5))) c tr cause) ∧
    (∀ c, ¬ Qualifies State.reset c) ∧
    (GrantedNext (granting 599 .l4 none) .l1 ∧ GrantedNext (granting 600 .l1 none) .l1) ∧
    (599 < (granting 599 .l4 none).config.planPages ∧ (granting 600 .l1 none).config.planPages ≤ 600 ∧
      (granting 599 .l4 none).ss.reader = none) := by
  refine ⟨⟨rfl, rfl, rfl⟩, none_enters _ _ _, ?_, ⟨⟨(one_qualifies _ _ _).2 rfl, [], _, rfl, nofun⟩,
    (one_qualifies _ _ _).2 rfl, [.l2, .l3, .l4], [], rfl, fun d hd => ?_⟩, by decide⟩
  · rintro c ⟨tr, h, -⟩
    cases c <;> injection h
  · rw [one_qualifies]
    rintro rfl
    simp at hd

theorem test_hyp_MemoryOperationEnds :
    (let s := { reading (.program 120 (stagedBytes [])) State.reset with mr := some ⟨0x01#8, 4, 0x07#8⟩ }
     s.running = true ∧ s.mr = some ⟨0x01#8, 4, 0x07#8⟩ ∧ s.ss.reader = some (.program 120 (stagedBytes []))) ∧
    (stagedBytes []).length = 256 ∧ (reading (.read 0 255 1) State.reset).ss.reader = some (.read 0 255 1) :=
  ⟨⟨rfl, rfl, rfl⟩, by simp [stagedBytes], rfl⟩

/-! ### Hypotheses met: management -/

theorem test_hyp_RequestRefused :
    (State.reset.running = true ∧ State.reset.admitted 0x02#8 = false ∧
      requestOf (.mapClear 0x02#8 7 []) = some (0x02#8, 7, 0x05#8, [])) ∧
    (let s := { State.reset with mr := some ⟨0x01#8, 4, 0x07#8⟩ }
     s.running = true ∧ s.admitted 0x01#8 = true ∧ s.mr ≠ none) ∧
    (Serves State.reset 0x01#8 ∧ (0x00#8 : Byte).toNat = 0 ∧ 16 ≤ (0x10#8 : Byte).toNat ∧ 8 ≤ (0x08#8 : Byte).toNat) ∧
    requestOf (.tableRead 0x01#8 7 [0x08#8, 0, 0]) = some (0x01#8, 7, 0x01#8, [0x08#8, 0, 0]) ∧
    (requestOf (.linkEnable 0x01#8 7 []) = some (0x01#8, 7, 0x0E#8, []) ∧ ([] : List Byte).length ≠ 1) :=
  ⟨by decide, by decide, ⟨serves _ _ (by decide), by decide⟩, by decide, by decide⟩

theorem test_hyp_AlarmLockRefuses : Serves attending 0x01#8 ∧ attending.lockHolds = true ∧
    ZoneDef.cold.inRange = true ∧ SheetRec.cold.inRange = true := ⟨serves _ _ (by decide), by decide⟩

theorem test_hyp_MapInsertAnswered : Serves mapped 0x01#8 ∧ mapped.lockHolds = false ∧
    (¬ (1 ≤ 121 ∧ 121 ≤ 120)) ∧
    (∃ x ∈ mapped.tables.map, x.node = 14 ∧ x.first ≤ 80 ∧ 60 ≤ x.last) ∧
    (¬ (∃ x ∈ mapped.tables.map, x.node = 14 ∧ x.first ≤ 80 ∧ 64 ≤ x.last) ∧ mapped.tables.map.length < 2048) ∧
    (let s := { State.reset with tables := { Retained.cold with map := List.replicate 2048 ⟨1, 0, 0, 1⟩ } }
     Serves s 0x01#8 ∧ s.lockHolds = false ∧ ¬ (∃ x ∈ s.tables.map, x.node = 2) ∧ 2048 ≤ s.tables.map.length) := by
  refine ⟨serves _ _ (by decide), by decide, by decide, by decide, by decide, serves _ _ (by decide), by decide, ?_,
    Nat.le_of_eq List.length_replicate.symm⟩
  rintro ⟨x, hx, h⟩
  obtain rfl := List.eq_of_mem_replicate hx
  simp at h

theorem test_hyp_MapDeleteAndClearAnswered : Serves mapped 0x01#8 ∧ mapped.lockHolds = false ∧
    (120 < (0x79#8 : Byte).toNat ∧ 511 < num16 0x02#8 0x00#8) ∧
    (∀ x ∈ mapped.tables.map, ¬ (x.node = 14 ∧ x.first = 33)) ∧
    (MapOrdered mapped.tables.map ∧ mapped.tables.map =
      [⟨14, 0, 31, 201⟩] ++ ⟨14, 32, 63, 202⟩ :: [⟨14, 200, 215, 214⟩, ⟨15, 0, 127, 230⟩]) :=
  ⟨serves _ _ (by decide), by decide, by decide, by decide, by unfold MapOrdered; decide, rfl⟩

theorem test_hyp_MapAndFallbackWriteAnswered : Serves mapped 0x01#8 ∧ mapped.lockHolds = false ∧
    MapOrdered mapped.tables.map ∧ mapped.tables.map.length ≤ num16 0x00#8 0x04#8 ∧
    num16 0x00#8 0x03#8 < mapped.tables.map.length ∧
    ((⟨14, 216, 230, 203⟩ : MapEntry).inRange = true ∧ ¬ MapOrdered (mapped.tables.map.set 1 ⟨14, 216, 230, 203⟩)) ∧
    ((⟨15, 0, 511, 1023⟩ : MapEntry).inRange = true ∧ MapOrdered (mapped.tables.map.set 3 ⟨15, 0, 511, 1023⟩)) ∧
    (num16 0x00#8 0x00#8 = 0 ∧ 120 < num16 0x00#8 0x79#8 ∧ num16 0x00#8 0x78#8 ≤ 120 ∧ 1023 < num16 0x04#8 0x00#8 ∧
      num16 0x03#8 0xFF#8 ≤ 1023) := by
  refine ⟨serves _ _ (by decide), ?_⟩
  unfold MapOrdered; decide

theorem test_hyp_RecordWriteAnswered : Serves State.reset 0x01#8 ∧ State.reset.lockHolds = false ∧
    ((zoneOn (-8) 16 3).inRange = true ∧ (zoneOn 127 1 0).inRange = true) ∧
    (1023 < num16 0x04#8 0x00#8 ∧ num16 0x03#8 0xFF#8 ≤ 1023 ∧ 511 < num16 0x02#8 0x00#8 ∧ num16 0x01#8 0xFF#8 ≤ 511) ∧
    (let s := withZone 5 (zoneOn 1 1 0) (troubleZone 16) State.reset
     Serves s 0x01#8 ∧ s.lockHolds = false ∧ (s.zone 5).cond ≠ .quiet ∧ (s.zone 1023).cond = .quiet) ∧
    ((⟨true, 599, 1, 256, .floor, 0⟩ : SheetRec).inRange = true ∧ (⟨true, 599, 2, 256, .floor, 0⟩ : SheetRec).inRange = true ∧
      (configured 600 20 State.reset).config.planPages < 599 + 2 ∧
      599 + 1 ≤ (configured 600 20 State.reset).config.planPages) ∧
    ((0x84#8 &&& 0x3C#8 : Byte) ≠ 0 ∧ (0x80#8 : Byte).toNat = 128 ∧ (0xF7#8 : Byte).toNat = 247 ∧
      num16 0x02#8 0x00#8 = 512 ∧ num16 0xFF#8 0xFE#8 ≠ 65535 ∧ 24 < (0x19#8 : Byte).toNat ∧
      (0x1F#8 : Byte).toNat < 0x20 ∧ 0x7E < (0x7F#8 : Byte).toNat ∧ (0xC0#8 &&& 0x48#8 : Byte) ≠ 0 ∧
      64 < (0x41#8 : Byte).toNat ∧ 256 < num16 0x01#8 0x01#8) :=
  ⟨serves _ _ (by decide), by decide, by decide, by decide, ⟨serves _ _ (by decide), by decide⟩, by decide, by decide⟩

theorem test_hyp_ProfileAndConfigWriteAnswered : Serves State.reset 0x01#8 ∧ State.reset.lockHolds = false ∧
    (num16 0x00#8 0x00#8 = 0 ∧ 4 < num16 0x00#8 0x05#8 ∧ linkOfNat (num16 0x00#8 0x04#8) = some .l4) ∧
    (ConfigTable.default.inRange = true ∧ ConfigTable.default.own ≠ ConfigTable.default.panel) ∧
    (({ ConfigTable.default with own := 1 } : ConfigTable).inRange = true ∧
      ({ ConfigTable.default with maint := 120 } : ConfigTable).inRange = true) ∧
    ((equals 0).attached .l1 = true ∧ ((equals 0).crew .l1).offer = .none) ∧
    (16 ≤ (0x10#8 : Byte).toNat ∧ 120 < (0x79#8 : Byte).toNat ∧ (0x09#8 : Byte).toNat < 10 ∧ (0x04#8 : Byte).toNat < 5 ∧
      60 < (0x3D#8 : Byte).toNat ∧ 80 < (0x51#8 : Byte).toNat ∧ 2048 < num16 0x08#8 0x01#8) ∧
    (let s := withZone 5 (zoneOn 1 1 3) (troubleZone 16) State.reset
     Serves s 0x01#8 ∧ s.lockHolds = false ∧ s.zoneActive 5 = true ∧
      ({ ConfigTable.default with bonus3 := 80 } : ConfigTable).bonus (s.zoneDef 5).hazard ≠
        s.config.bonus (s.zoneDef 5).hazard) :=
  ⟨serves _ _ (by decide), by decide, by decide, by decide, by decide, by decide, by decide, serves _ _ (by decide), by decide⟩

theorem test_hyp_TableReadAnswered : Serves mapped 0x01#8 ∧
    (mapped.tables.map[num16 0x00#8 0x03#8]? = some ⟨15, 0, 127, 230⟩ ∧ mapped.tables.map.length ≤ num16 0x00#8 0x04#8) ∧
    linkOfNat (num16 0x00#8 0x01#8) = some .l1 := ⟨serves _ _ (by decide), by decide⟩

theorem test_hyp_PlanRequestAnswered :
    (Serves (configured 600 20 State.reset) 0x76#8 ∧ (configured 600 20 State.reset).lockHolds = false) ∧
    (256 < (0xFF#8 : Byte).toNat + 2 ∧ (0xFE#8 : Byte).toNat + 2 ≤ 256) ∧
    (num16 0x02#8 0x57#8 < (configured 600 20 State.reset).config.planPages ∧
      (configured 600 20 State.reset).config.planPages ≤ num16 0x02#8 0x58#8) ∧
    ((configured 600 20 State.reset).pageInUse 100 = false ∧ (sheets [40] none).pageInUse 100 = true ∧
      Serves (sheets [40] none) 0x76#8) ∧
    ((configured 600 20 State.reset).ss.reader = none ∧
      (reading (.read 0 0 1) (configured 600 20 State.reset)).ss.reader = some (.read 0 0 1)) :=
  ⟨⟨serves _ _ (by decide), by decide⟩, by decide, by decide, ⟨by decide, by decide, serves _ _ (by decide)⟩, by decide⟩

theorem test_hyp_RecordsRead : Serves State.reset 0x01#8 ∧ num16 0x03#8 0xFF#8 ≤ 1023 ∧ 1023 < num16 0x04#8 0x00#8 ∧
    (State.reset.port .a).ownQueue.length < 4 := ⟨serves _ _ (by decide), by decide⟩

/-- Log 21: a clearing read whose reply is dropped at a full own-frame queue leaves a drop count of 1 (R18, R178). -/
theorem test_clear_counts_own_drop :
    (let s := State.reset.setPort .a { State.reset.port .a with ownQueue := List.replicate 4 firstResyncCall }
     let t := after (.statusRead 0x01#8 0 [0x01#8]) s
     (t.port .a).counters.ownDrops = 1 ∧ (t.port .b).counters.ownDrops = 0) := by decide +kernel

theorem test_hyp_RotationAndLinkCommandsAnswered :
    (Serves State.reset 0x01#8 ∧ Serves (attach .l4 State.reset) 0x01#8) ∧
    (4 < (0x05#8 : Byte).toNat ∧ linkOfNat (0x04#8 : Byte).toNat = some .l4 ∧ 1023 < num16 0x04#8 0x00#8 ∧
      num16 0x03#8 0xFF#8 ≤ 1023) ∧
    ((attach .l4 State.reset).attached .l4 = true ∧ State.reset.attached .l4 = false ∧
      (State.reset.link .l4).state = .detached) ∧
    (let s := attending.setSlot .l1 { attending.slot .l1 with bufA := { SpanBuf.emptied with state := .filling } }
     Serves s 0x01#8 ∧ (s.link .l1).state = .attached ∧ 412 ∈ (s.crew .l1).attended ∧
      ((s.slot .l1).buf .bufA).state = .filling ∧ ((s.slot .l1).buf .bufB).state ≠ .filling) ∧
    (let s := State.reset.setLink .l4 { State.reset.link .l4 with state := .disabled, ctrlReady := .highZ }
     Serves s 0x01#8 ∧ (s.link .l4).state = .disabled) :=
  ⟨⟨serves _ _ (by decide), serves _ _ (by decide)⟩, by decide, by decide, ⟨serves _ _ (by decide), by decide⟩,
    serves _ _ (by decide), by decide⟩

theorem test_hyp_ConfigAndEntriesReadBack : ConfigTable.default.inRange = true ∧ ConfigTable.default.nodesDiffer = true ∧
    (⟨120, 0, 511, 1023⟩ : MapEntry).inRange = true ∧
    ({ zoneOn (-8) 16 3 with label := List.replicate 24 0x41#8 } : ZoneDef).inRange = true ∧
    (⟨true, 2047, 64, 256, .hazard, 127⟩ : SheetRec).inRange = true := by decide

/-! ### Hypotheses met: time, start and the invariants -/

theorem test_hyp_TimeAndResyncKept :
    (State.reset.running = true ∧ State.reset.uptime < 4294967295 ∧ State.reset.tb.known = false) ∧
    ((at_ 30 State.reset).sc.expiry = some 30 ∧ 30 ≤ (at_ 30 State.reset).uptime ∧
      (at_ 30 State.reset).sc.status = .resyncing) ∧
    (resyncDone State.reset).sc.status ≠ .resyncing := by decide

/-- A program of page 120 in flight when the power goes. -/
def programming : State := reading (.program 120 (stagedBytes [])) State.reset

theorem outside (a : Nat) (h : a < 30720 ∨ 30976 ≤ a) : OutsideProgram programming a := by
  rintro pg bytes e
  obtain ⟨rfl, -⟩ : 120 = pg ∧ _ := by simpa [programming, reading] using e
  omega

theorem test_hyp_StartRuns : (∀ pg bytes, State.reset.ss.reader ≠ some (.program pg bytes)) ∧
    OutsideProgram programming 30719 ∧ OutsideProgram programming 30976 := by
  refine ⟨?_, outside _ (by decide), outside _ (by decide)⟩
  intro _ _ h; cases h

/-- A warm start and a cold one, and a start in progress of each kind. -/
theorem test_hyp_StartRuns_kinds :
    (State.reset.sc.markIntact = true ∧ State.reset.tables.check = State.reset.sc.markCheck ∧
      (after .start State.reset).sc.kind = .warm) ∧
    (let s := { State.reset with sc := { State.reset.sc with markIntact := false } }
     (after .start s).sc.kind = .cold ∧ (after .start s).sc.mainPower = true ∧ (after .start s).ti.relay = .closed) ∧
    ((after .start State.reset).sc.mainPower = true ∧ (after .start State.reset).ti.relay = .closed) := by
  have h : (loseWorking State.reset).startIsWarm = true := by
    show (Retained.cold.check == Retained.cold.check) = true
    exact beq_self_eq_true _
  refine ⟨⟨rfl, rfl, ?_⟩, ⟨rfl, rfl, rfl⟩, ?_⟩
  · show (beginStart State.reset).sc.kind = .warm
    simp only [beginStart]
    rw [if_pos h]
  · show (beginStart State.reset).sc.mainPower = true ∧ (beginStart State.reset).ti.relay = .closed
    simp only [beginStart]
    rw [if_pos h]
    exact ⟨rfl, rfl⟩

theorem test_hyp_PowerLost : (State.reset.sc.mainPower = true ∧ programming.sc.mainPower = true) ∧
    (after .mainPowerLoss State.reset).sc.mainPower = false ∧
    (¬ ActsWhileClosed .uptimeTick ∧ ¬ ActsWhileClosed (.poll .l1) ∧ ¬ ActsWhileClosed (.programComplete true)) := by
  refine ⟨⟨rfl, rfl⟩, rfl, ?_, ?_, ?_⟩ <;> simp [ActsWhileClosed]

/-- The state after the reset with a command waiting meets what the invariants' statements ask of it: a step answers a next
state. -/
theorem test_hyp_StepKeeps : ∃ t, step (State.reset.withPending [.uptimeTick]) = .next t := ⟨_, rfl⟩

theorem test_hyp_StepKeepsQueues : PortsInv State.reset ∧ CollectionsInv State.reset ∧ SheetQueueInv State.reset ∧
    LinksInv State.reset := by
  refine ⟨?_, ?_, ?_, ?_⟩ <;> intro c <;> cases c <;> first | decide | (unfold PortInv; decide)

theorem test_hyp_StepKeepsCollections : CrewsInv State.reset := by
  intro c z
  have hk : State.reset.crew c = Crew.empty := by cases c <;> rfl
  have hz : (State.reset.zone z).attendedBy.get c = false := by cases c <;> rfl
  rw [hk, hz]
  exact ⟨⟨nofun, nofun⟩, nofun, nofun, nofun⟩

theorem test_hyp_StepKeepsTables : TablesInv mapped ∧ MarkInv State.reset := by
  refine ⟨?_, fun _ => rfl⟩
  unfold TablesInv MapOrdered; decide

theorem test_hyp_StepKeepsFloorCounts : PictureInv State.reset ∧ TablesInv State.reset ∧ FloorInv State.reset := by
  refine ⟨⟨rfl, fun z => ?_⟩, ?_, fun f _ _ => rfl⟩
  · show ZoneInv ZoneLive.start
    unfold ZoneInv; decide
  · unfold TablesInv MapOrdered; decide

theorem test_hyp_StepKeepsCanonicalForm : CanonInv State.reset :=
  ⟨rfl, rfl, rfl, rfl, rfl, rfl, rfl, rfl, rfl, fun c => by cases c <;> decide⟩

theorem test_hyp_StepKeepsPicture : PictureInv attending := test_hyp_PanelResetClears.1

end Sys2Proof.Tests
end

section
/-! What every command does to the transmit side of the trunk ports (R9, R13, R14): most of the controller does not touch
the Trunk Interface at all, and what does keeps each queue within 4 frames and no transmitter free with a frame to send. -/

namespace Sys2Proof.Machine

/-! ### Effects that stay on the crews' side of the controller -/

/-- `t` is `s` but for the picture, the age schedules, the crews, their links and the Sheet Streamer. -/
def CrewSideOnly (s t : State) : Prop :=
  t = { s with zp := t.zp, ageSteps := t.ageSteps, nr := t.nr, cl := t.cl, ss := t.ss }

theorem CrewSideOnly.refl (s : State) : CrewSideOnly s s := rfl

theorem CrewSideOnly.trans {s t u : State} (h : CrewSideOnly s t) (g : CrewSideOnly t u) : CrewSideOnly s u := by
  unfold CrewSideOnly at *
  rw [g, h]

theorem CrewSideOnly.ti {s t : State} (h : CrewSideOnly s t) : t.ti = s.ti := by rw [h]

theorem CrewsOnly.crewSideOnly {s t : State} (h : CrewsOnly s t) : CrewSideOnly s t := by
  unfold CrewsOnly CrewSideOnly at *
  rw [h]

theorem PictureOnly.crewSideOnly {s t : State} (h : PictureOnly s t) : CrewSideOnly s t := by
  unfold PictureOnly CrewSideOnly at *
  rw [h]

theorem ArbitersOnly.crewSideOnly {s t : State} (h : ArbitersOnly s t) : CrewSideOnly s t := by
  unfold CrewSideOnly
  rw [h.1]

/-- What ends an event stays on the crews' side. -/
theorem CrewSideOnly.settle {s t : State} (h : CrewSideOnly s t) : CrewSideOnly s (settle t) :=
  h.trans (arbitersOnly_settle t).crewSideOnly

/-- A command's effect stays on the crews' side when what it does while the controller runs does. -/
theorem crewSideOnly_whenRunning {s : State} {f : State → State} (h : CrewSideOnly s (f s)) :
    CrewSideOnly s (whenRunning s f) := by
  unfold whenRunning
  split
  · exact h
  · exact .refl s

/-! ### The picture's events (R44 to R56) -/

theorem crewSideOnly_commitZone (z : Nat) (l : ZoneLive) (s : State) : CrewSideOnly s (commitZone z l s) := by
  unfold commitZone
  dsimp only
  split
  · exact CrewSideOnly.trans (by rfl) (pictureOnly_takeZoneReport _ _).crewSideOnly
  · split
    · exact CrewSideOnly.trans (by rfl) (pictureOnly_takeZoneReport _ _).crewSideOnly
    · exact CrewSideOnly.trans (by rfl) (pictureOnly_takeZoneReport _ _).crewSideOnly

theorem crewSideOnly_zoneEvent (z : Nat) (e : PointEvent) (s : State) : CrewSideOnly s (zoneEvent z e s) := by
  unfold zoneEvent
  dsimp only
  split
  · rfl
  · exact crewSideOnly_commitZone z _ s

theorem crewSideOnly_zoneIsolate (z : Nat) (on : Bool) (s : State) : CrewSideOnly s (zoneIsolate z on s) := by
  unfold zoneIsolate
  dsimp only
  split
  · exact .refl s
  · split
    · exact .refl s
    · split
      · exact crewSideOnly_commitZone z _ s
      · exact crewSideOnly_commitZone z _ s

theorem crewSideOnly_panelReset (s : State) : CrewSideOnly s (panelReset s) :=
  CrewSideOnly.trans (by rfl) (pictureOnly_takeZoneReport _ _).crewSideOnly

theorem crewSideOnly_pictureClear (s : State) : CrewSideOnly s (pictureClear s) :=
  CrewSideOnly.trans (by rfl) (pictureOnly_takeCleared _).crewSideOnly

theorem crewSideOnly_offerStep (c : Link) (s : State) : CrewSideOnly s (offerStep c s) :=
  (crewsOnly_offerStep c s).crewSideOnly

theorem crewSideOnly_setRotation (c : Link) (v : Nat) (s : State) : CrewSideOnly s (setRotation c v s) := by
  unfold setRotation
  split
  · exact CrewSideOnly.trans (by rfl) (crewSideOnly_offerStep c _)
  · exact .refl s

/-! ### The Sheet Streamer -/

theorem crewSideOnly_startTransfer (c : Link) (s : State) : CrewSideOnly s (startTransfer c s) := by
  unfold startTransfer
  dsimp only
  split <;> rfl

theorem crewSideOnly_queueSheet (c : Link) (i : Nat) (s : State) : CrewSideOnly s (queueSheet c i s).2 := by
  unfold queueSheet
  split
  · rfl
  · split
    · rfl
    · split
      · rfl
      · exact CrewSideOnly.trans (by rfl) (crewSideOnly_startTransfer c _)

theorem crewSideOnly_requestSheet (c : Link) (i : Nat) (s : State) : CrewSideOnly s (requestSheet c i s).2 := by
  unfold requestSheet
  split
  · rfl
  · exact crewSideOnly_queueSheet c i s

theorem crewSideOnly_queueField (c : Link) (f : Option Nat) (s : State) : CrewSideOnly s (queueField c f s).2 := by
  cases f with
  | none => rfl
  | some i => exact crewSideOnly_queueSheet c i s

theorem crewSideOnly_requestByZone (c : Link) (z : Nat) (s : State) : CrewSideOnly s (requestByZone c z s).2.2 := by
  unfold requestByZone
  split
  · rfl
  · split
    · rfl
    · exact (crewSideOnly_queueField c _ s).trans (crewSideOnly_queueField c _ _)

theorem crewSideOnly_stopSheet (c : Link) (i : Nat) (s : State) : CrewSideOnly s (stopSheet c i s).2 := by
  unfold stopSheet
  dsimp only
  split
  · rfl
  · split
    · split
      · exact CrewSideOnly.trans (by rfl) (crewSideOnly_startTransfer c _)
      · rfl
    · rfl

theorem crewSideOnly_spanComplete (c : Link) (i : BufId) (s : State) : CrewSideOnly s (spanComplete c i s) := by
  unfold spanComplete
  dsimp only
  split
  · rfl
  · split
    · exact CrewSideOnly.trans (by rfl) (crewSideOnly_startTransfer c _)
    · rfl

theorem crewSideOnly_fillComplete (s : State) : CrewSideOnly s (fillComplete s) := by
  unfold fillComplete
  split
  · dsimp only
    split <;> rfl
  · rfl

theorem crewSideOnly_fillFail (s : State) : CrewSideOnly s (fillFail s) := by
  unfold fillFail
  split
  · dsimp only
    split <;> rfl
  · rfl

/-! ### The crews' requests (R92 to R100, R123) -/

theorem crewSideOnly_acceptZone (c : Link) (z : Nat) (s : State) : CrewSideOnly s (acceptZone c z s).2 := by
  unfold acceptZone autoSheet
  split
  · split
    · exact CrewSideOnly.trans (by rfl) (crewSideOnly_requestSheet c _ _)
    · rfl
  · rfl

theorem crewSideOnly_reqAccept (c : Link) (z : Nat) (s : State) : CrewSideOnly s (reqAccept c z s).2.2 := by
  unfold reqAccept
  split
  · rfl
  · split
    · rfl
    · split
      · rfl
      · exact crewSideOnly_acceptZone c z s

theorem crewSideOnly_reqDecline (c : Link) (z : Nat) (s : State) : CrewSideOnly s (reqDecline c z s).2.2 := by
  unfold reqDecline
  split
  · rfl
  · split <;> rfl

theorem crewSideOnly_reqRelease (c : Link) (z : Nat) (s : State) : CrewSideOnly s (reqRelease c z s).2.2 := by
  unfold reqRelease
  split
  · rfl
  · split <;> rfl

theorem crewSideOnly_reqReleaseTop (c : Link) (s : State) : CrewSideOnly s (reqReleaseTop c s).2.2 := by
  unfold reqReleaseTop
  split <;> rfl

theorem crewSideOnly_reqPoll (c : Link) (s : State) : CrewSideOnly s (reqPoll c s).2.2 := by
  unfold reqPoll
  split
  · rfl
  · split
    · rfl
    · split
      · rfl
      · exact crewSideOnly_acceptZone c _ s

theorem crewSideOnly_reqSectors (c : Link) (w : Word16) (s : State) : CrewSideOnly s (reqSectors c w s).2.2 :=
  CrewSideOnly.trans (t := s.modCrew c _) rfl
    (foldl_rel (R := CrewSideOnly) CrewSideOnly.refl CrewSideOnly.trans
      (fun s z => (crewsOnly_admit c z s).crewSideOnly) _ _)

theorem crewSideOnly_answerNR {c : Link} {kind : Byte} {a : Answer} {s : State} (h : CrewSideOnly s a.2.2) :
    CrewSideOnly s (answerNR c kind a) :=
  h.trans (CrewSideOnly.trans (t := placeReply c (mkReply kind a.1 a.2.1) a.2.2) rfl (crewSideOnly_offerStep c _))

theorem crewSideOnly_answerSS {c : Link} {kind : Byte} {a : Answer} {s : State} (h : CrewSideOnly s a.2.2) :
    CrewSideOnly s (answerSS c kind a) :=
  h.trans rfl

/-- A crew's request stays on the crews' side, whatever it asks. -/
theorem crewSideOnly_takeRequest (c : Link) (kind : Byte) (r : Request) (s : State) :
    CrewSideOnly s (takeRequest c kind r s) := by
  cases r with
  | accept z => exact crewSideOnly_answerNR (crewSideOnly_reqAccept c z s)
  | decline z => exact crewSideOnly_answerNR (crewSideOnly_reqDecline c z s)
  | release z => exact crewSideOnly_answerNR (crewSideOnly_reqRelease c z s)
  | releaseTop => exact crewSideOnly_answerNR (crewSideOnly_reqReleaseTop c s)
  | poll => exact crewSideOnly_answerNR (crewSideOnly_reqPoll c s)
  | list => exact crewSideOnly_answerNR (a := reqList c s) rfl
  | sectors w => exact crewSideOnly_answerNR (crewSideOnly_reqSectors c w s)
  | sheetById i => exact crewSideOnly_answerSS (crewSideOnly_requestSheet c i s)
  | sheetByZone z => exact crewSideOnly_answerSS (crewSideOnly_requestByZone c z s)
  | stopNamed i => exact crewSideOnly_answerSS (crewSideOnly_stopSheet c i s)
  | stopAll => exact crewSideOnly_answerSS (a := (.ok, [], stopAllSheets c s)) rfl
  | unknown =>
    simp only [takeRequest]
    split
    · exact crewSideOnly_answerSS (a := (.unknown, [], s)) rfl
    · exact crewSideOnly_answerNR (a := (.unknown, [], s)) rfl

theorem crewSideOnly_crewRow (c : Link) (kind : Byte) (r : Request) (s : State) :
    CrewSideOnly s (crewRow c kind r s) := by
  refine crewSideOnly_whenRunning ?_
  split
  · exact (crewSideOnly_takeRequest c kind r s).settle
  · exact .refl s

theorem crewSideOnly_handOldest (c : Link) (s : State) : CrewSideOnly s (handOldest c s) := by
  unfold handOldest
  split
  · exact .refl s
  · split
    · exact CrewSideOnly.trans (t := s.modLink c _) rfl (crewSideOnly_takeRequest c _ _ _)
    · exact .refl s

theorem crewSideOnly_handWaiting (c : Link) (s : State) : CrewSideOnly s (handWaiting c s) := by
  have once : ∀ {u}, CrewSideOnly s u → CrewSideOnly s (handOldest c u) := fun h => h.trans (crewSideOnly_handOldest c _)
  exact once (once (once (once (.refl s))))

/-! ### The lines of the crews (R111 to R129) -/

theorem crewSideOnly_modLink (c : Link) (f : LinkUnit → LinkUnit) (s : State) : CrewSideOnly s (s.modLink c f) := rfl

theorem crewSideOnly_crewFrameDone (c : Link) (buf : List Byte) (reg : Word16) (s : State) :
    CrewSideOnly s (crewFrameDone c buf reg s) := by
  unfold crewFrameDone
  split
  · exact ((crewSideOnly_modLink c _ s).trans (crewSideOnly_handWaiting c _)).settle
  · exact crewSideOnly_modLink c _ s

theorem crewSideOnly_crewByte (c : Link) (b : Byte) (s : State) : CrewSideOnly s (crewByte c b s) := by
  unfold crewByte
  dsimp only
  split
  · exact crewSideOnly_modLink c _ s
  · split
    · exact crewSideOnly_modLink c _ s
    · split
      · exact (crewSideOnly_modLink c _ s).trans (crewSideOnly_modLink c _ _)
      · split
        · exact (crewSideOnly_modLink c _ s).trans (crewSideOnly_crewFrameDone c _ _ _)
        · exact crewSideOnly_modLink c _ s

theorem crewSideOnly_crewChar (c : Link) (ch : LineChar) (s : State) : CrewSideOnly s (crewChar c ch s) := by
  unfold crewChar
  split
  · dsimp only
    cases (s.link c).asm.take ch with
    | byte b => exact (crewSideOnly_modLink c _ s).trans (crewSideOnly_crewByte c b _)
    | _ => rfl
  · exact .refl s

theorem crewSideOnly_rxBack (c : Link) (back : Bool) (s : State) : CrewSideOnly s (rxBack c back s) := by
  unfold rxBack
  split <;> rfl

theorem crewSideOnly_writerFill (c : Link) (s : State) : CrewSideOnly s (writerFill c s) :=
  (arbitersOnly_writerFill c s).crewSideOnly

theorem crewSideOnly_takeChar (c : Link) (s : State) : CrewSideOnly s (takeChar c s) := by
  unfold takeChar
  dsimp only
  split
  · split
    · exact .refl s
    · exact (CrewSideOnly.trans (t := s.setLink c _) rfl (crewSideOnly_writerFill c _)).settle
  · exact .refl s

theorem crewSideOnly_offerComplete (c : Link) (z : Nat) (s : State) : CrewSideOnly s (offerComplete c z s) := by
  unfold offerComplete
  dsimp only
  split
  · rfl
  · split <;> rfl

theorem crewSideOnly_noticeComplete (c : Link) (s : State) : CrewSideOnly s (noticeComplete c s) := by
  unfold noticeComplete
  split
  · exact .refl s
  · rename_i f _
    refine CrewSideOnly.trans ?_ (crewSideOnly_offerStep c _)
    cases f.kind with
    | system => rfl
    | mark m => rfl
    | offer => exact (crewSideOnly_offerComplete c _ s).trans (by rfl)

theorem crewSideOnly_ownerComplete (c : Link) (o : Owner) (s : State) : CrewSideOnly s (ownerComplete c o s) := by
  cases o with
  | reply => exact (crewSideOnly_modLink c _ s).trans (crewSideOnly_handWaiting c _)
  | notice => exact crewSideOnly_noticeComplete c s
  | sheet i => exact crewSideOnly_spanComplete c i s

theorem crewSideOnly_frameWritten (c : Link) (s : State) : CrewSideOnly s (frameWritten c s) := by
  unfold frameWritten
  dsimp only
  split
  · split
    · refine CrewSideOnly.settle (CrewSideOnly.trans ?_ (crewSideOnly_ownerComplete c _ _))
      exact CrewSideOnly.trans (t := s.setLink c _) rfl (arbitersOnly_noteDrained ..).crewSideOnly
    · exact .refl s
  · exact .refl s

theorem crewSideOnly_attachLink (c : Link) (rx : Level) (s : State) : CrewSideOnly s (attachLink c rx s) :=
  (crewSideOnly_modLink c _ s).trans (crewsOnly_crewAttach c _).crewSideOnly

theorem crewSideOnly_leaveAttached (c : Link) (st : LinkState) (s : State) : CrewSideOnly s (leaveAttached c st s) :=
  ((crewSideOnly_modLink c _ s).trans (pictureOnly_crewDetach c _).crewSideOnly).trans rfl

theorem crewSideOnly_disableLink (c : Link) (s : State) : CrewSideOnly s (disableLink c s) := by
  unfold disableLink
  split
  · exact .refl s
  · rfl
  · exact crewSideOnly_leaveAttached c _ s

theorem crewSideOnly_enableLink (c : Link) (s : State) : CrewSideOnly s (enableLink c s) := by
  unfold enableLink
  split <;> rfl

end Sys2Proof.Machine
end

section
/-! Every step keeps the trunk queues within 4 frames and no transmitter free with a frame to send (R9, R13, R14). -/

namespace Sys2Proof.Machine

/-! ### One port -/

/-- A port's transmit side alone decides its invariant. -/
theorem PortInv.of_txSide {u v : PortUnit} (h : PortInv u) (hr : v.repeatOut = u.repeatOut) (ho : v.ownQueue = u.ownQueue)
    (ht : v.tx = u.tx) : PortInv v := by
  unfold PortInv at *
  rwa [hr, ho, ht]

/-- Whatever the queues hold, the arbiter's choice leaves no transmitter free with a frame to send, if what the transmitter
was sending is still at the head of its queue (R14). -/
theorem PortInv.choose {u : PortUnit} (hr : u.repeatOut.length ≤ 4) (ho : u.ownQueue.length ≤ 4)
    (hrep : u.tx = some .repeatFifo → u.repeatOut ≠ []) (hown : u.tx = some .ownQueue → u.ownQueue ≠ []) :
    PortInv u.choose := by
  unfold PortInv
  simp only [PortUnit.choose_repeatOut, PortUnit.choose_ownQueue, PortUnit.choose_tx]
  refine ⟨hr, ho, ?_⟩
  cases htx : u.tx with
  | some x => exact ⟨by simp, fun hx => hrep (htx.trans hx), fun hx => hown (htx.trans hx)⟩
  | none =>
    by_cases hre : u.repeatOut = []
    · by_cases hoe : u.ownQueue = [] <;> simp [hre, hoe]
    · simp [hre]

theorem PortInv.placeOwn {u : PortUnit} (h : PortInv u) (f : Frame) : PortInv (u.placeOwn f) := by
  obtain ⟨hr, ho, -, hrep, -⟩ := id h
  unfold PortUnit.placeOwn
  split
  · rename_i hlt
    exact PortInv.choose hr (by simpa using Nat.succ_le_of_lt hlt) hrep (by simp)
  · exact h

theorem PortInv.placeRepeat {u : PortUnit} (h : PortInv u) (f : Frame) : PortInv (u.placeRepeat f) := by
  obtain ⟨hr, ho, -, -, hown⟩ := id h
  unfold PortUnit.placeRepeat
  split
  · rename_i hlt
    exact PortInv.choose (by simpa using Nat.succ_le_of_lt hlt) ho (by simp) hown
  · exact h

theorem PortInv.sent {u : PortUnit} (h : PortInv u) : PortInv u.sent := by
  obtain ⟨hr, ho, -⟩ := id h
  unfold PortUnit.sent
  split
  · exact h
  · exact PortInv.choose (by simp only [List.length_drop]; omega) ho (by simp) (by simp)
  · exact PortInv.choose hr (by simp only [List.length_drop]; omega) (by simp) (by simp)

theorem PortInv.start (l : Level) : PortInv (PortUnit.start l) := by simp [PortInv, PortUnit.start]

/-! ### Both ports -/

/-- The ports alone decide the invariant. -/
theorem PortsInv.of_ports {s t : State} (h : PortsInv s) (ht : t.ti.ports = s.ti.ports) : PortsInv t := by
  intro p
  unfold State.port
  rw [ht]
  exact h p

theorem PortsInv.of_ti {s t : State} (h : PortsInv s) (ht : t.ti = s.ti) : PortsInv t := h.of_ports (by rw [ht])

theorem PortsInv.crewSide {s t : State} (h : PortsInv s) (ht : CrewSideOnly s t) : PortsInv t := h.of_ti ht.ti

theorem PortsInv.settle {s : State} (h : PortsInv s) : PortsInv (settle s) := h.of_ti (settle_ti s)

/-- A change of one port keeps the invariant when it does at that port. -/
theorem PortsInv.modPort {s : State} (h : PortsInv s) (p : Port) {f : PortUnit → PortUnit}
    (hf : ∀ u, PortInv u → PortInv (f u)) : PortsInv (s.modPort p f) := by
  intro q
  rw [State.port_modPort]
  split
  · exact hf _ (h p)
  · exact h q

/-- A change of one port that leaves its transmit side keeps the invariant. -/
theorem PortsInv.modPort_txSide {s : State} (h : PortsInv s) (p : Port) {f : PortUnit → PortUnit}
    (hf : ∀ u, (f u).repeatOut = u.repeatOut ∧ (f u).ownQueue = u.ownQueue ∧ (f u).tx = u.tx) :
    PortsInv (s.modPort p f) :=
  h.modPort p (fun u hu => hu.of_txSide (hf u).1 (hf u).2.1 (hf u).2.2)

theorem PortsInv.giveOwn {s : State} (h : PortsInv s) (d k : Byte) (b : List Byte) : PortsInv (giveOwn d k b s) := by
  intro p
  rw [port_giveOwn]
  exact (h p).placeOwn _

theorem PortsInv.whenRunning {s : State} {f : State → State} (h : PortsInv s) (hf : PortsInv (f s)) :
    PortsInv (whenRunning s f) := by
  unfold Machine.whenRunning
  split
  · exact hf
  · exact h

/-! ### Start Control (R179, R184, R186) -/

theorem PortsInv.callResync {s : State} (h : PortsInv s) : PortsInv (callResync s) := by
  rw [callResync_eq]
  exact (h.giveOwn 0x00#8 kResyncCall []).of_ti rfl

theorem PortsInv.trunkChanged {s : State} (h : PortsInv s) (old new : TrunkState) : PortsInv (trunkChanged old new s) := by
  have hd : PortsInv (systemDueAll s) := h.of_ti (systemDueAll_ti s)
  unfold Machine.trunkChanged
  dsimp only
  split
  · exact h
  · split
    · exact h.of_ti (by simp)
    · split
      · exact hd.callResync
      · exact hd

theorem PortsInv.setUp {s : State} (h : PortsInv s) (p : Port) (up : Bool) : PortsInv (setUp p up s) :=
  (h.modPort_txSide p (f := fun u => { u with up := up }) (fun _ => ⟨rfl, rfl, rfl⟩)).trunkChanged _ _

theorem portsInv_workingStart (r : Relay) (st : LinkState) (out : ReadyOut) (s : State) :
    PortsInv (workingStart r st out s) := by
  intro p
  cases p <;> exact PortInv.start _

theorem portsInv_beginStart (s : State) : PortsInv (beginStart s) := by
  have h : PortsInv (loseWorking s) := portsInv_workingStart _ _ _ _
  unfold beginStart
  dsimp only
  split
  · exact h.of_ti rfl
  · exact h.of_ti rfl

theorem portsInv_finishStart (ok : Bool) (s : State) : PortsInv (finishStart ok s) :=
  (portsInv_workingStart _ _ _ _).callResync

theorem portsInv_losePower (s : State) : PortsInv (losePower s) :=
  (portsInv_workingStart .closed .disabled .highZ (cutProgram s)).of_ti rfl

/-! ### The Management Responder (R157 to R178) -/

theorem PortsInv.reply {s : State} (h : PortsInv s) (src : Byte) (id : Word16) (r : MgmtResult) (b : List Byte) :
    PortsInv (reply src id r b s) := h.giveOwn _ _ _

theorem PortsInv.answer {s : State} {a : MgmtResult × State} (h : PortsInv s) (src : Byte) (id : Word16)
    (ha : a.2.ti = s.ti) : PortsInv (answer src id a) := (h.of_ti ha).reply _ _ _ _

@[simp] theorem setConfig_ti (t : ConfigTable) (s : State) : (setConfig t s).ti = s.ti :=
  (pictureOnly_takeConfigChange _ _).crewSideOnly.ti

@[simp] theorem writeMap_ti (i : Nat) (e : MapEntry) (s : State) : (writeMap i e s).2.ti = s.ti := by
  unfold writeMap
  dsimp only
  split
  · rfl
  · split
    · rfl
    · split <;> rfl

@[simp] theorem writeFallback_ti (n z : Nat) (s : State) : (writeFallback n z s).2.ti = s.ti := by
  unfold writeFallback
  split
  · rfl
  · split <;> rfl

@[simp] theorem writeZoneDef_ti (z : Nat) (d : ZoneDef) (s : State) : (writeZoneDef z d s).2.ti = s.ti := by
  unfold writeZoneDef
  split
  · rfl
  · split
    · rfl
    · split <;> rfl

@[simp] theorem writeBonus_ti (i b : Nat) (s : State) : (writeBonus i b s).2.ti = s.ti := by
  unfold writeBonus
  split
  · rfl
  · split
    · rfl
    · exact setConfig_ti _ s

@[simp] theorem writeSheet_ti (i : Nat) (r : SheetRec) (s : State) : (writeSheet i r s).2.ti = s.ti := by
  unfold writeSheet
  split <;> rfl

@[simp] theorem profileWritten_ti (c : Link) (s : State) : (profileWritten c s).ti = s.ti := by
  unfold profileWritten
  split
  · exact offerStep_ti c s
  · rfl

@[simp] theorem writeProfile_ti (n : Nat) (p : Profile) (s : State) : (writeProfile n p s).2.ti = s.ti := by
  unfold writeProfile
  split
  · rfl
  · simp

@[simp] theorem mapInsert_ti (e : MapEntry) (s : State) : (mapInsert e s).2.2.ti = s.ti := by
  unfold mapInsert
  split
  · rfl
  · split
    · rfl
    · split <;> rfl

@[simp] theorem mapDelete_ti (n f : Nat) (s : State) : (mapDelete n f s).2.ti = s.ti := by
  unfold mapDelete
  split
  · rfl
  · split <;> rfl

@[simp] theorem planStage_ti (o : Nat) (bs : List Byte) (s : State) : (planStage o bs s).2.ti = s.ti := by
  unfold planStage
  split <;> rfl

theorem PortsInv.writeConfig {s : State} (h : PortsInv s) (src : Byte) (id : Word16) (i : Nat) (t : ConfigTable) :
    PortsInv (writeConfig src id i t s) := by
  unfold Machine.writeConfig
  split
  · exact h.reply _ _ _ _
  · split
    · exact h.reply _ _ _ _
    · split
      · exact h.reply _ _ _ _
      · split
        · exact (h.of_ti (setConfig_ti t s)).reply _ _ _ _
        · exact ((h.reply src id .ok []).of_ti (setConfig_ti t _)).of_ports rfl

theorem PortsInv.statusRead {s : State} (h : PortsInv s) (src : Byte) (id : Word16) (clear : Bool) :
    PortsInv (statusRead src id clear s) := by
  refine PortsInv.reply ?_ _ _ _ _
  split
  · intro p
    refine (h p).of_txSide ?_ ?_ ?_ <;> cases p <;> rfl
  · exact h

theorem PortsInv.linkCommand {s : State} {f : Link → State → State} (h : PortsInv s)
    (hf : ∀ c, CrewSideOnly s (f c s)) (src : Byte) (id : Word16) (n : Nat) :
    PortsInv (linkCommand f src id n s) := by
  unfold Machine.linkCommand
  split
  · exact h.reply _ _ _ _
  · exact (h.crewSide (hf _)).reply _ _ _ _

theorem PortsInv.rotationCommand {s : State} (h : PortsInv s) (src : Byte) (id : Word16) (n v : Nat) :
    PortsInv (rotationCommand src id n v s) := by
  unfold Machine.rotationCommand
  split
  · exact h.reply _ _ _ _
  · split
    · exact h.reply _ _ _ _
    · exact (h.crewSide (crewSideOnly_setRotation _ v s)).reply _ _ _ _

theorem PortsInv.readerRequest {s : State} (h : PortsInv s) (src : Byte) (id : Word16) (op : Byte) (r : MgmtResult)
    (w : WaitingOp) : PortsInv (readerRequest src id op r w s) := by
  unfold Machine.readerRequest
  split
  · exact h.of_ti rfl
  · exact h.reply _ _ _ _

/-- A management request that is carried out keeps the transmit sides: of the trunk it touches its reply's queues, the port
counters and the former own node. -/
theorem PortsInv.carryOut {s : State} (h : PortsInv s) (src : Byte) (id : Word16) (r : MgmtReq) :
    PortsInv (carryOut src id r s) := by
  cases r with
  | tableRead t i => exact h.reply _ _ _ _
  | writeMap i e => exact h.answer src id (writeMap_ti i e s)
  | writeFallback i z => exact h.answer src id (writeFallback_ti i z s)
  | writeZoneDef i d => exact h.answer src id (writeZoneDef_ti i d s)
  | writeBonus i b => exact h.answer src id (writeBonus_ti i b s)
  | writeSheet i x => exact h.answer src id (writeSheet_ti i x s)
  | writeProfile i p => exact h.answer src id (writeProfile_ti i p s)
  | writeConfig i t => exact h.writeConfig src id i t
  | mapInsert e => exact (h.of_ti (mapInsert_ti e s)).reply _ _ _ _
  | mapDelete n f => exact h.answer src id (mapDelete_ti n f s)
  | mapClear => exact (h.of_ti (t := mapClear s) rfl).reply _ _ _ _
  | planStage o bs => exact h.answer src id (planStage_ti o bs s)
  | planCommit p => exact h.readerRequest _ _ _ _ _
  | planRead p o n => exact h.readerRequest _ _ _ _ _
  | zoneRead z =>
    simp only [Machine.carryOut]
    split
    · exact h.reply _ _ _ _
    · exact h.reply _ _ _ _
  | statusRead clear => exact h.statusRead src id clear
  | pictureClear => exact (h.crewSide (crewSideOnly_pictureClear s)).callResync.reply _ _ _ _
  | setRotation n v => exact h.rotationCommand src id n v
  | linkDisable n => exact h.linkCommand (fun c => crewSideOnly_disableLink c s) src id n
  | linkEnable n => exact h.linkCommand (fun c => crewSideOnly_enableLink c s) src id n
  | configSave => exact h.of_ti rfl

theorem PortsInv.takeMgmt {s : State} (h : PortsInv s) (src : Byte) (id : Word16) (op : Byte) (args : List Byte) :
    PortsInv (takeMgmt src id op args s) := by
  unfold Machine.takeMgmt
  split
  · exact h.reply _ _ _ _
  · split
    · exact h.reply _ _ _ _
    · split
      · exact h.reply _ _ _ _
      · exact h.reply _ _ _ _
      · exact h.reply _ _ _ _
      · split
        · exact h.reply _ _ _ _
        · exact h.carryOut _ _ _

theorem PortsInv.mgmtRow {s : State} (h : PortsInv s) (src : Byte) (id : Word16) (op : Byte) (args : List Byte) :
    PortsInv (mgmtRow src id op args s) := h.whenRunning (h.takeMgmt _ _ _ _).settle

theorem PortsInv.completeRequest {s : State} (h : PortsInv s) (r : MgmtResult) (b : List Byte) :
    PortsInv (completeRequest r b s) := by
  unfold Machine.completeRequest
  split
  · exact h
  · exact (h.of_ti (t := { s with mr := none }) rfl).reply _ _ _ _

theorem PortsInv.programDone {s : State} (h : PortsInv s) (ok : Bool) : PortsInv (programDone ok s) := by
  unfold Machine.programDone
  split
  · refine (PortsInv.completeRequest (h.of_ti ?_) _ _).settle
    unfold finishProgram
    cases ok <;> rfl
  · exact h

theorem PortsInv.planReadDone {s : State} (h : PortsInv s) (ok : Bool) : PortsInv (planReadDone ok s) := by
  unfold Machine.planReadDone
  split
  · refine (PortsInv.completeRequest (h.of_ti ?_) _ _).settle
    unfold finishRead
    cases ok <;> rfl
  · exact h

/-! ### Frames received (R1 to R12) -/

@[simp] theorem resyncDone_ti (s : State) : (resyncDone s).ti = s.ti := by
  unfold resyncDone
  split
  · simp
  · rfl

@[simp] theorem pointEvent_ti (e : PointEvent) (s : State) : (pointEvent e s).ti = s.ti := by
  unfold pointEvent
  dsimp only
  split
  · rfl
  · exact (crewSideOnly_zoneEvent _ e s).ti

theorem PortsInv.hand {s : State} (h : PortsInv s) (f : Frame) : PortsInv (hand f s) := by
  unfold Machine.hand
  split
  · split
    · exact h.of_ti (pointEvent_ti _ s)
    · exact h
  · split
    · exact h.crewSide (crewSideOnly_panelReset s)
    · split
      · split
        · exact h.crewSide (crewSideOnly_zoneIsolate _ _ s)
        · exact h
      · split
        · split
          · exact h.of_ti rfl
          · exact h
        · split
          · exact h.of_ti (resyncDone_ti s)
          · split
            · unfold takeMgmtPayload
              split
              · exact h.takeMgmt _ _ _ _
              · exact h
            · exact h

theorem PortsInv.handTests {s : State} (h : PortsInv s) (p : Port) (f : Frame) : PortsInv (handTests p f s) := by
  unfold Machine.handTests
  split
  · exact h.modPort_txSide p (fun _ => ⟨rfl, rfl, rfl⟩)
  · split
    · exact h
    · exact (h.of_ports (t := setSeq f s) rfl).hand f

theorem PortsInv.dispatch {s : State} (h : PortsInv s) (p : Port) (f : Frame) : PortsInv (dispatch p f s) := by
  have hrep : PortsInv (s.modPort (otherPort p) (PortUnit.placeRepeat f)) :=
    h.modPort _ (fun _ hu => hu.placeRepeat f)
  unfold Machine.dispatch
  dsimp only
  split
  · exact h
  · split
    · exact h.modPort_txSide p (fun _ => ⟨rfl, rfl, rfl⟩)
    · split
      · split
        · exact h.handTests p f
        · exact h
      · split
        · exact hrep.handTests p f
        · exact hrep

theorem PortsInv.soundFrame {s : State} (h : PortsInv s) (p : Port) (f : Frame) : PortsInv (soundFrame p f s) := by
  have hin : PortsInv ((Machine.setUp p true s).modPort p (fun u => { u with stage := some f })) :=
    (h.setUp p true).modPort_txSide p (fun _ => ⟨rfl, rfl, rfl⟩)
  have hout := (hin.dispatch p f).modPort_txSide p (f := fun u => { u with stage := none })
    (fun _ => ⟨rfl, rfl, rfl⟩)
  exact PortsInv.settle hout

theorem PortsInv.trunkFrameDone {s : State} (h : PortsInv s) (p : Port) (buf : List Byte) (reg : Word16) :
    PortsInv (trunkFrameDone p buf reg s) := by
  have hh := h.modPort_txSide p (f := fun u => { u with asm := .hunting }) (fun _ => ⟨rfl, rfl, rfl⟩)
  unfold Machine.trunkFrameDone
  dsimp only
  split
  · split
    · exact hh.soundFrame p _
    · exact hh
  · exact hh.modPort_txSide p (fun _ => ⟨rfl, rfl, rfl⟩)

theorem PortsInv.trunkByte {s : State} (h : PortsInv s) (p : Port) (b : Byte) : PortsInv (trunkByte p b s) := by
  unfold Machine.trunkByte
  dsimp only
  split
  · exact h.modPort_txSide p (fun _ => ⟨rfl, rfl, rfl⟩)
  · split
    · exact h.trunkFrameDone _ _ _
    · exact h.modPort_txSide p (fun _ => ⟨rfl, rfl, rfl⟩)

theorem PortsInv.trunkChar {s : State} (h : PortsInv s) (p : Port) (ch : LineChar) : PortsInv (trunkChar p ch s) := by
  have hr := h.modPort_txSide p (f := fun u => { u with receiver := receiverAfter ch }) (fun _ => ⟨rfl, rfl, rfl⟩)
  unfold Machine.trunkChar
  dsimp only
  split
  · exact h
  · cases (s.port p).asm.take ch with
    | ignored => exact hr
    | byte b => exact hr.trunkByte p b
    | _ => exact hr.modPort_txSide p (fun _ => ⟨rfl, rfl, rfl⟩)

/-! ### Every command (R9, R13, R14) -/

/-- A command's effect made where a condition holds keeps the invariant when the effect does. -/
theorem PortsInv.ite {s t : State} {c : Prop} [Decidable c] (h : PortsInv s) (ht : PortsInv t) :
    PortsInv (if c then t else s) := by
  split
  · exact ht
  · exact h

/-- What a command answers keeps the transmit sides of the ports. -/
theorem PortsInv.exec {s : State} (h : PortsInv s) (i : Instr) : ∃ t, exec i s = .next t ∧ PortsInv t := by
  cases i with
  | trunkFrameComplete p b | trunkCharacterReceived p b => exact ⟨_, rfl, h.whenRunning (h.trunkChar p _)⟩
  | trunkFrameDiscard p ch => exact ⟨_, rfl, h.whenRunning (h.trunkChar p ch)⟩
  | trunkPartialFrameTimeout p => exact ⟨_, rfl, h.whenRunning (h.ite (h.modPort_txSide p (fun _ => ⟨rfl, rfl, rfl⟩)))⟩
  | breakTimerExpiry p | silenceTimerExpiry p => exact ⟨_, rfl, h.whenRunning (h.ite (h.setUp p false).settle)⟩
  | stripHoldExpiry => exact ⟨_, rfl, h.whenRunning (h.of_ports rfl)⟩
  | trunkTransmitComplete p => exact ⟨_, rfl, h.whenRunning (h.modPort p (fun _ hu => hu.sent))⟩
  | trunkReceiveLevelChange p l => exact ⟨_, rfl, h.modPort_txSide p (fun u => by split <;> exact ⟨rfl, rfl, rfl⟩)⟩
  | verifyWindowExpiry z => exact ⟨_, rfl, h.whenRunning (h.ite (h.crewSide (crewSideOnly_commitZone z _ s)).settle)⟩
  | ageStep z => exact ⟨_, rfl, h.whenRunning (h.ite (h.crewSide
      (CrewSideOnly.trans (by rfl) (pictureOnly_recomputeAndReport _ _).crewSideOnly)).settle)⟩
  | offerTimeout c => exact ⟨_, rfl, h.whenRunning (h.ite (h.crewSide
      (CrewSideOnly.trans (by rfl) (crewSideOnly_offerStep c _))).settle)⟩
  | resyncTimeout => exact ⟨_, rfl, h.whenRunning (h.ite (h.of_ti (t := resyncExpires s) (setStatus_ti _ _)).settle)⟩
  | uptimeTick => exact ⟨_, rfl, h.whenRunning (h.of_ti rfl)⟩
  | presenceChange c high | terminalReadyChange c high => exact ⟨_, rfl, h.of_ti rfl⟩
  | linkAttach a => exact ⟨_, rfl, h.whenRunning (h.ite (h.crewSide (crewSideOnly_attachLink a.link a.rx s)).settle)⟩
  | linkDetach c => exact ⟨_, rfl, h.whenRunning (h.ite (h.crewSide (crewSideOnly_leaveAttached c _ s)))⟩
  | crewFrameComplete c b | receiveOverrun c b => exact ⟨_, rfl, h.whenRunning (h.crewSide (crewSideOnly_crewChar c _ s))⟩
  | crewFrameDiscard c ch => exact ⟨_, rfl, h.whenRunning (h.crewSide (crewSideOnly_crewChar c ch s))⟩
  | crewCharacterReceived c b => exact ⟨_, rfl, h.whenRunning (h.crewSide
      ((crewSideOnly_rxBack c b.back s).trans (crewSideOnly_crewChar c _ _)))⟩
  | crewPartialFrameTimeout c => exact ⟨_, rfl, h.whenRunning (h.ite (h.crewSide (crewSideOnly_modLink c _ s)))⟩
  | crewCharacterTaken c => exact ⟨_, rfl, h.whenRunning (h.crewSide (crewSideOnly_takeChar c s))⟩
  | crewFrameWritten c => exact ⟨_, rfl, h.whenRunning (h.crewSide (crewSideOnly_frameWritten c s))⟩
  | accept c z | decline c z | release c z | sectors c z | sheetReqById c z | sheetReqByZone c z
  | sheetStopNamed c z => exact ⟨_, rfl, h.crewSide (crewSideOnly_crewRow c _ _ s)⟩
  | releaseTop c | poll c | list c | sheetStopAll c => exact ⟨_, rfl, h.crewSide (crewSideOnly_crewRow c _ _ s)⟩
  | unknownRequest c kind payload => exact ⟨_, rfl, h.crewSide (crewSideOnly_crewRow c kind _ s)⟩
  | fillReadComplete => exact ⟨_, rfl, h.whenRunning (h.ite (h.crewSide (crewSideOnly_fillComplete s)).settle)⟩
  | fillReadFail => exact ⟨_, rfl, h.whenRunning (h.ite (h.crewSide (crewSideOnly_fillFail s)).settle)⟩
  | programComplete ok => exact ⟨_, rfl, h.whenRunning (h.programDone ok)⟩
  | planReadComplete ok => exact ⟨_, rfl, h.whenRunning (h.planReadDone ok)⟩
  | start => exact ⟨_, rfl, portsInv_beginStart s⟩
  | startComplete ok => exact ⟨_, rfl, h.ite (portsInv_finishStart ok s)⟩
  | holdoverLow => exact ⟨_, rfl, by split <;> exact h.of_ti rfl⟩
  | mainPowerLoss => exact ⟨_, rfl, h.ite (portsInv_losePower s)⟩
  | unknownOp src id op args => exact ⟨_, rfl, h.mgmtRow src id op args⟩
  | tableRead src id args | tableWritePointMap src id args | tableWriteNodeFallback src id args
  | tableWriteZoneDefinition src id args | tableWriteHazardBonus src id args | tableWriteSheetDirectory src id args
  | tableWriteCrewProfile src id args | tableWriteConfiguration src id args | mapInsert src id args
  | mapDelete src id args | mapClear src id args | planStage src id args | planCommit src id args | planRead src id args
  | zoneRead src id args | statusRead src id args | pictureClear src id args | setRotation src id args
  | linkDisable src id args | linkEnable src id args | configSave src id args => exact ⟨_, rfl, h.mgmtRow src id _ _⟩

/-- Settles O55: the waiting command keeps the transmit sides, and with none waiting nothing changes. -/
theorem stepKeepsTrunkQueues : Obligations.StepKeepsTrunkQueues := by
  unfold Obligations.StepKeepsTrunkQueues
  intro s t h ht
  unfold step at ht
  split at ht
  · obtain rfl := Host.Outcome.next.inj ht
    exact h
  · rename_i c rest _
    obtain ⟨u, hu, hinv⟩ := PortsInv.exec (h.of_ti (t := s.withPending rest) rfl) c
    obtain rfl := Host.Outcome.next.inj (hu.symm.trans ht)
    exact hinv

end Sys2Proof.Machine
end

section
/-! What a character does to a trunk port, once for each outcome of the assembler (R1 to R4), and the port's timers and
levels (R1, R5, R8). -/

namespace Sys2Proof.Machine

/-! ### One port written twice -/

@[simp] theorem PerPort.set_set {α : Type} (q : PerPort α) (p : Port) (x y : α) : (q.set p x).set p y = q.set p y := by
  cases p <;> rfl

@[simp] theorem PerPort.set_get_self {α : Type} (q : PerPort α) (p : Port) : q.set p (q.get p) = q := by cases p <;> rfl

@[simp] theorem State.setPort_setPort (s : State) (p : Port) (u v : PortUnit) :
    (s.setPort p u).setPort p v = s.setPort p v := by simp [State.setPort]

@[simp] theorem State.setPort_port (s : State) (p : Port) : s.setPort p (s.port p) = s := by
  simp [State.setPort, State.port]

@[simp] theorem otherPort_ne (p : Port) : otherPort p ≠ p := by cases p <;> decide

@[simp] theorem ne_otherPort (p : Port) : p ≠ otherPort p := by cases p <;> decide

@[simp] theorem State.port_setPort_other (s : State) (p : Port) (u : PortUnit) :
    (s.setPort p u).port (otherPort p) = s.port (otherPort p) := by simp [State.port_setPort]

theorem State.modPort_eq (s : State) (p : Port) (f : PortUnit → PortUnit) :
    s.modPort p f = s.setPort p (f (s.port p)) := rfl

/-! ### The assembler (R2, R3) -/

/-- A character that stands for a decoded byte is taken as that byte. -/
theorem Asm.take_of_decodes {buf : List Byte} {esc : Bool} {r : Word16} {b d : Byte} (h : Decodes esc b d) :
    (Asm.collecting buf esc r).take (.good b) = .byte d := by
  obtain ⟨hs, he, ⟨rfl, rfl⟩ | ⟨rfl, rfl, hd⟩⟩ := h
  · simp [Asm.take, startMark, escapeByte, hs, he]
  · have hn : needsEscape (b ^^^ escapeMask) = true := by
      simpa [needsEscape, startMark, escapeByte, escapeMask] using hd
    simp only [Asm.take, startMark, escapeByte, hs, he, if_false, if_true, hn]
    rfl

/-- The header tests as the model makes them on the bytes collected (R3). -/
theorem badHeader_iff (buf : List Byte) (d : Byte) : badHeader (buf ++ [d]) = true ↔ HeaderBroken buf d := by
  unfold HeaderBroken
  match buf with
  | [] => simp [badHeader]
  | [_] => simp [badHeader]
  | [_, _] => simp [badHeader]
  | [_, _, _] => simp [badHeader]
  | [_, _, _, _] => simp [badHeader]
  | _ :: _ :: _ :: _ :: _ :: _ => simp [badHeader]

/-- The bytes collected are all of a frame when their number is the size that the fifth gives (R2). -/
theorem trunkFrameSize_iff (bs : List Byte) : trunkFrameSize bs = some bs.length ↔ TrunkWhole bs := by
  unfold TrunkWhole
  match bs with
  | [] | [_] | [_, _] | [_, _, _] | [_, _, _, _] => simp [trunkFrameSize]
  | _ :: _ :: _ :: _ :: n :: _ => simp [trunkFrameSize, eq_comm]

/-! ### A character, by its outcome: a receiver that does not wait for marking forms it (R1) -/

section character
variable {s : State} {p : Port} {ch : LineChar} (hr : (s.port p).receiver ≠ .waitMarking)
include hr

theorem trunkChar_ignored (ht : (s.port p).asm.take ch = .ignored) :
    trunkChar p ch s = s.setPort p { s.port p with receiver := receiverAfter ch } := by
  simp [trunkChar, hr, ht, State.modPort_eq]

theorem trunkChar_opened (ht : (s.port p).asm.take ch = .opened) :
    trunkChar p ch s = s.setPort p { s.port p with receiver := receiverAfter ch, asm := Asm.fresh } := by
  simp [trunkChar, hr, ht, State.modPort_eq]

theorem trunkChar_escaped (ht : (s.port p).asm.take ch = .escaped) :
    trunkChar p ch s =
      s.setPort p { s.port p with receiver := receiverAfter ch, asm := (s.port p).asm.withEscape } := by
  simp [trunkChar, hr, ht, State.modPort_eq]

theorem trunkChar_reopened (ht : (s.port p).asm.take ch = .reopened) :
    trunkChar p ch s =
      s.setPort p { (s.port p).withFramingError with receiver := receiverAfter ch, asm := Asm.fresh } := by
  simp [trunkChar, hr, ht, State.modPort_eq, PortUnit.giveUp, PortUnit.countFraming, PortUnit.withFramingError]

theorem trunkChar_bad (ht : (s.port p).asm.take ch = .bad) :
    trunkChar p ch s =
      s.setPort p { (s.port p).withFramingError with receiver := receiverAfter ch, asm := .hunting } := by
  simp [trunkChar, hr, ht, State.modPort_eq, PortUnit.giveUp, PortUnit.countFraming, PortUnit.withFramingError]

theorem trunkChar_byte {d : Byte} (ht : (s.port p).asm.take ch = .byte d) :
    trunkChar p ch s = trunkByte p d (s.setPort p { s.port p with receiver := receiverAfter ch }) := by
  simp [trunkChar, hr, ht, State.modPort_eq]

end character

theorem trunkChar_unformed {s : State} {p : Port} (ch : LineChar) (hr : (s.port p).receiver = .waitMarking) :
    trunkChar p ch s = s := by simp [trunkChar, hr]

/-! ### A decoded byte (R2, R3, R4) -/

section decoded
variable {s : State} {p : Port} {buf : List Byte} {esc : Bool} {r : Word16} {d : Byte}
  (ha : (s.port p).asm = .collecting buf esc r)
include ha

/-- A byte that breaks a header test discards the frame. -/
theorem trunkByte_broken (hb : HeaderBroken buf d) :
    trunkByte p d s = s.setPort p { (s.port p).withFramingError with asm := .hunting } := by
  simp [trunkByte, ha, Asm.push, Asm.held, (badHeader_iff buf d).2 hb, State.modPort_eq, PortUnit.giveUp,
    PortUnit.countFraming, PortUnit.withFramingError]

/-- A byte that does not complete the frame is appended and taken into the check register. -/
theorem trunkByte_appended (hb : ¬ HeaderBroken buf d) (hw : ¬ TrunkWhole (buf ++ [d])) :
    trunkByte p d s = s.setPort p { s.port p with asm := .collecting (buf ++ [d]) false (crcByte r d) } := by
  have hb' : badHeader (buf ++ [d]) = false := by simpa using mt (badHeader_iff buf d).1 hb
  have hw' := mt (trunkFrameSize_iff (buf ++ [d])).1 hw
  simp only [trunkByte, ha, Asm.push, Asm.held, hb', hw', Bool.false_eq_true, if_false]
  rfl

/-- The byte that completes the frame brings its check test. -/
theorem trunkByte_whole (hw : TrunkWhole (buf ++ [d])) :
    trunkByte p d s = trunkFrameDone p (buf ++ [d]) (crcByte r d) s := by
  have hb : ¬ HeaderBroken buf d := by
    obtain ⟨n, -, hl⟩ := hw
    simp only [List.length_append, List.length_singleton] at hl
    unfold HeaderBroken
    omega
  have hb' : badHeader (buf ++ [d]) = false := by simpa using mt (badHeader_iff buf d).1 hb
  have hw' := (trunkFrameSize_iff (buf ++ [d])).2 hw
  simp only [trunkByte, ha, Asm.push, Asm.held, Asm.crcReg, hb', hw', Bool.false_eq_true, if_false, if_true]

end decoded

/-! ### The three character rows (log 3) -/

section rows
variable {s : State} (hrun : s.running = true)
include hrun

theorem exec_trunkCharacterReceived (p : Port) (b : Byte) :
    exec (.trunkCharacterReceived p b) s = .next (trunkChar p (.good b) s) := by
  simp [exec, execTrunkCharacterReceived, hrun]

theorem exec_trunkFrameDiscard (p : Port) (ch : LineChar) :
    exec (.trunkFrameDiscard p ch) s = .next (trunkChar p ch s) := by
  simp [exec, execTrunkFrameDiscard, hrun]

theorem exec_trunkFrameComplete (p : Port) (b : Byte) :
    exec (.trunkFrameComplete p b) s = .next (trunkChar p (.good b) s) := by
  simp [exec, execTrunkFrameComplete, hrun]

end rows

/-- Settles O3, by the outcome of each kind of good character that ends no frame. -/
theorem trunkCharacterAssembles : Obligations.TrunkCharacterAssembles := by
  unfold Obligations.TrunkCharacterAssembles
  intro s p b hrun hr
  simp only [exec_trunkCharacterReceived hrun]
  refine ⟨fun ha => ?_, fun esc r ha hb => ?_, fun buf r ha hb => ?_, fun buf esc r d ha hd hh hw => ?_⟩
  · by_cases hb : b = 0x7E#8
    · rw [trunkChar_opened hr (by simp [ha, hb, Asm.take, startMark]), if_pos hb]
      rfl
    · rw [trunkChar_ignored hr (by simp [ha, hb, Asm.take, startMark]), if_neg hb, ← ha]
      rfl
  · rw [trunkChar_opened hr (by simp [ha, hb, Asm.take, startMark])]
    rfl
  · rw [trunkChar_escaped hr (by simp [ha, hb, Asm.take, startMark, escapeByte]), ha]
    rfl
  · rw [trunkChar_byte hr (by rw [ha]; exact Asm.take_of_decodes hd),
      trunkByte_appended (by simpa using ha) hh hw]
    simp [receiverAfter]

/-- Settles O4, by the outcome of each kind of character that ends the frame being collected. -/
theorem trunkFrameDiscarded : Obligations.TrunkFrameDiscarded := by
  unfold Obligations.TrunkFrameDiscarded
  intro s p ch buf esc r hrun hr ha
  simp only [exec_trunkFrameDiscard hrun]
  refine ⟨?_, ?_, ?_, ?_, ?_⟩
  · rintro rfl
    rw [trunkChar_bad hr (by simp [ha, Asm.take])]
    rfl
  · rintro rfl hbuf
    rw [trunkChar_reopened hr (by simp [ha, Asm.take, startMark, hbuf])]
    rfl
  · rintro rfl rfl
    rw [trunkChar_bad hr (by simp [ha, Asm.take, startMark, escapeByte])]
    rfl
  · rintro b rfl rfl hs he hxs hxe
    rw [trunkChar_bad hr (by
      simp [ha, Asm.take, startMark, escapeByte, needsEscape, escapeMask, hs, he, hxs, hxe])]
    rfl
  · rintro b d rfl hd hh
    rw [trunkChar_byte hr (by rw [ha]; exact Asm.take_of_decodes hd), trunkByte_broken (by simpa using ha) hh]
    simp [receiverAfter, PortUnit.withFramingError]

/-! ### Timers and levels (R1, R5, R8) -/

/-- The partial-frame timer discards a frame with one byte or more. -/
theorem exec_trunkPartialFrameTimeout {s : State} (hrun : s.running = true) (p : Port) :
    exec (.trunkPartialFrameTimeout p) s = .next (if (s.port p).asm.held = [] then s
      else s.setPort p { (s.port p).withFramingError with asm := .hunting }) := by
  simp only [exec, execTrunkPartialFrameTimeout, whenRunning_of_running hrun, Asm.timed]
  by_cases h : (s.port p).asm.held = []
  · simp [h]
  · simp [h, State.modPort_eq, PortUnit.giveUp, PortUnit.countFraming, PortUnit.withFramingError]

/-- While the controller runs, the receiver follows its line. -/
theorem exec_trunkReceiveLevelChange {s : State} (hrun : s.running = true) (p : Port) (l : LineChange) :
    exec (.trunkReceiveLevelChange p l) s = .next (s.setPort p ((s.port p).lineLevel l)) := by
  simp [exec, execTrunkReceiveLevelChange, hrun, State.modPort_eq]

/-- Settles O11, timer by timer and level by level. -/
theorem trunkTimersAndLevels : Obligations.TrunkTimersAndLevels := by
  unfold Obligations.TrunkTimersAndLevels
  refine ⟨fun s p hrun => ⟨fun buf esc r ha hbuf => ?_, fun hheld => ?_⟩, fun s p m hrun => ?_⟩
  · rw [exec_trunkPartialFrameTimeout hrun, if_neg (by simpa [ha, Asm.held] using hbuf)]
  · rw [exec_trunkPartialFrameTimeout hrun, if_pos hheld]
  · simp only [exec_trunkReceiveLevelChange hrun, exec_trunkFrameDiscard hrun, exec_trunkCharacterReceived hrun]
    refine ⟨fun hr hl => ?_, fun hr hl => ?_, fun hr => ?_, fun hr => ⟨?_, fun ch => ?_, fun b => ?_⟩, ?_⟩
    · simp [PortUnit.lineLevel, hr, hl]
    · have hsame : (s.port p).lineLevel .spacing = s.port p := by
        simp only [PortUnit.lineLevel, hr, hl, lineTo_spacing, noiseStart_spacing, Receiver.follow_same]
        rw [← hr, ← hl]
      rw [hsame, State.setPort_port]
    · simp [PortUnit.lineLevel, hr]
    · simp [PortUnit.lineLevel, hr]
    · rw [trunkChar_unformed ch hr]
    · rw [trunkChar_unformed _ hr]
    · simp [exec, execStripHoldExpiry, hrun]

end Sys2Proof.Machine
end

section
/-! What the picture, the Urgency Unit, the Notice Resolver and Start Control do to a state does not depend on the Trunk
Interface, which they leave as it is: a frame handed to them may be taken out of its receive stage before or after (R6). -/

namespace Sys2Proof.Machine

/-- The state with another Trunk Interface. -/
def State.withTi (s : State) (x : Trunk) : State := { s with ti := x }

@[simp] theorem State.withTi_zone (s : State) (x : Trunk) (z : Nat) : (s.withTi x).zone z = s.zone z := rfl
@[simp] theorem State.withTi_zoneDef (s : State) (x : Trunk) (z : Nat) : (s.withTi x).zoneDef z = s.zoneDef z := rfl
@[simp] theorem State.withTi_floorCount (s : State) (x : Trunk) (f : Int) :
    (s.withTi x).floorCount f = s.floorCount f := rfl
@[simp] theorem State.withTi_uptime (s : State) (x : Trunk) : (s.withTi x).uptime = s.uptime := rfl
@[simp] theorem State.withTi_config (s : State) (x : Trunk) : (s.withTi x).config = s.config := rfl
@[simp] theorem State.withTi_setZone (s : State) (x : Trunk) (z : Nat) (l : ZoneLive) :
    (s.withTi x).setZone z l = (s.setZone z l).withTi x := rfl
@[simp] theorem State.withTi_setFloor (s : State) (x : Trunk) (f : Int) (n : Nat) :
    (s.withTi x).setFloor f n = (s.setFloor f n).withTi x := rfl

/-- An effect that neither reads nor writes the Trunk Interface. -/
def TrunkBlind (F : State → State) : Prop := ∀ s x, F (s.withTi x) = (F s).withTi x

theorem TrunkBlind.ti {F : State → State} (h : TrunkBlind F) (s : State) : (F s).ti = s.ti := by
  have hs : F s = (F s).withTi s.ti := h s s.ti
  rw [hs]
  rfl

theorem TrunkBlind.comp {F G : State → State} (hG : TrunkBlind G) (hF : TrunkBlind F) :
    TrunkBlind (fun s => G (F s)) := fun s x => (congrArg G (hF s x)).trans (hG _ x)

/-- An effect that does not see the Trunk Interface may be made before or after a port is written. -/
theorem TrunkBlind.setPort {F : State → State} (h : TrunkBlind F) (s : State) (p : Port) (u : PortUnit) :
    F (s.setPort p u) = (F s).setPort p u := by
  have hs : (F s).setPort p u = (F s).withTi { s.ti with ports := s.ti.ports.set p u } := by
    rw [← h.ti s]
    rfl
  rw [hs]
  exact h s _

theorem TrunkBlind.port {F : State → State} (h : TrunkBlind F) (s : State) (p : Port) : (F s).port p = s.port p := by
  unfold State.port
  rw [h.ti]

/-- Effects for the members of a list in turn see the Trunk Interface only if one of them does. -/
theorem TrunkBlind.foldl {α : Type} {f : State → α → State} (h : ∀ a, TrunkBlind (fun s => f s a)) (l : List α) :
    TrunkBlind (fun s => l.foldl f s) := by
  intro s x
  induction l generalizing s with
  | nil => rfl
  | cons a l ih =>
    have ha : f (s.withTi x) a = (f s a).withTi x := h a s x
    simp only [List.foldl_cons, ha]
    exact ih _

theorem TrunkBlind.eachLink {f : Link → State → State} (h : ∀ c, TrunkBlind (f c)) : TrunkBlind (eachLink f) :=
  (h .l4).comp ((h .l3).comp ((h .l2).comp (h .l1)))

/-- An effect made where a condition holds that does not see the Trunk Interface. -/
theorem TrunkBlind.ite {c : State → Prop} [∀ s, Decidable (c s)] (hc : ∀ s x, c (s.withTi x) ↔ c s)
    {F G : State → State} (hF : TrunkBlind F) (hG : TrunkBlind G) : TrunkBlind (fun s => if c s then F s else G s) := by
  intro s x
  by_cases h : c s
  · simp only [h, (hc s x).2 h, if_true]
    exact hF s x
  · simp only [h, mt (hc s x).1 h, if_false]
    exact hG s x

theorem trunkBlind_id : TrunkBlind (fun s => s) := fun _ _ => rfl

/-! ### The Notice Resolver (R88, R101, R104) -/

theorem State.rankPlace_withTi (s : State) (x : Trunk) (rc : Nat) (l : List Nat) (z : Nat) :
    (s.withTi x).rankPlace rc l z = s.rankPlace rc l z := by
  induction l with
  | nil => rfl
  | cons y l ih =>
    simp only [State.rankPlace, ih]
    rfl

theorem State.topEligible_withTi (s : State) (x : Trunk) (c : Link) : (s.withTi x).topEligible c = s.topEligible c := by
  have hr : (s.withTi x).rank c = s.rank c := by
    have hp : (s.withTi x).rankPlace (s.crew c).rc = s.rankPlace (s.crew c).rc := by
      funext l z
      exact s.rankPlace_withTi x _ l z
    exact congrArg (fun g => (s.crew c).pending.foldl g []) hp
  unfold State.topEligible
  rw [hr]
  rfl

theorem State.offerAfter_withTi (s : State) (x : Trunk) (c : Link) : (s.withTi x).offerAfter c = s.offerAfter c := by
  unfold State.offerAfter
  rw [State.topEligible_withTi]
  rfl

theorem trunkBlind_offerStep (c : Link) : TrunkBlind (offerStep c) := by
  intro s x
  rw [offerStep_eq, offerStep_eq, State.offerAfter_withTi]
  rfl

theorem trunkBlind_admitZone (c : Link) (z : Nat) : TrunkBlind (admitZone c z) :=
  TrunkBlind.ite (c := fun s => s.member c z = true) (fun _ _ => Iff.rfl) (fun _ _ => rfl) trunkBlind_id

theorem trunkBlind_zoneMoved (c : Link) (z : Nat) : TrunkBlind (zoneMoved c z) :=
  (trunkBlind_admitZone c z).comp (F := fun s => s.modCrew c _) (fun _ _ => rfl)

theorem trunkBlind_crewCarried (chs : List Change) (us : List UrgencyChange) (c : Link) :
    TrunkBlind (crewCarried chs us c) := by
  refine TrunkBlind.ite (c := fun s => s.attached c = true) (fun _ _ => Iff.rfl) ?_ trunkBlind_id
  have hgone := TrunkBlind.foldl (f := fun s ch => zoneGone c ch s) (fun _ _ _ => rfl)
    (chs.filter (fun ch => !ch.after.active))
  have hmoved := TrunkBlind.foldl (f := fun s (ch : Change) => zoneMoved c ch.zone s)
    (fun ch => trunkBlind_zoneMoved c ch.zone) (chs.filter (fun ch => ch.after.active))
  have hurgency := TrunkBlind.foldl (f := fun s (u : UrgencyChange) => urgencyMoved c u.zone s) (fun _ _ _ => rfl) us
  exact (trunkBlind_offerStep c).comp (hurgency.comp (hmoved.comp hgone))

theorem trunkBlind_takeCarried (chs : List Change) (us : List UrgencyChange) : TrunkBlind (takeCarried chs us) :=
  TrunkBlind.eachLink (trunkBlind_crewCarried chs us)

theorem trunkBlind_systemDueAll : TrunkBlind systemDueAll :=
  TrunkBlind.eachLink (fun c => TrunkBlind.ite (c := fun s => s.attached c = true) (fun _ _ => Iff.rfl)
    (fun _ _ => rfl) trunkBlind_id)

/-! ### The Urgency Unit (R70 to R72) -/

theorem trunkBlind_listedZone (ch : Change) : TrunkBlind (listedZone ch) := by
  intro s x
  unfold listedZone
  dsimp only
  split
  · split
    · rw [State.withTi_config]
      split <;> rfl
    · rfl
  · rfl

theorem trunkBlind_writeUrgencies (us : List UrgencyChange) : TrunkBlind (writeUrgencies us) :=
  TrunkBlind.foldl (f := fun s (u : UrgencyChange) => setUrgency u.zone u.after s) (fun _ _ _ => rfl) us

theorem trunkBlind_takeZoneReport (r : ZoneReport) : TrunkBlind (takeZoneReport r) := by
  intro s x
  unfold takeZoneReport
  split
  · rfl
  · have hl : r.changes.foldl (fun s ch => listedZone ch s) (s.withTi x) =
        (r.changes.foldl (fun s ch => listedZone ch s) s).withTi x :=
      TrunkBlind.foldl (f := fun s ch => listedZone ch s) trunkBlind_listedZone r.changes s x
    dsimp only
    rw [hl]
    exact (trunkBlind_takeCarried _ _).comp (trunkBlind_writeUrgencies _) _ x

/-! ### The picture (R44 to R56) and Start Control (R185) -/

theorem trunkBlind_commitZone (z : Nat) (mid : State → ZoneLive) (hm : ∀ s x, mid (s.withTi x) = mid s) :
    TrunkBlind (fun s => commitZone z (mid s) s) := by
  intro s x
  simp only [hm, commitZone, State.withTi_zone, State.withTi_zoneDef, State.withTi_floorCount, State.withTi_uptime,
    State.withTi_setZone, State.withTi_setFloor]
  split
  · exact trunkBlind_takeZoneReport _ _ x
  · split
    · exact trunkBlind_takeZoneReport _ _ x
    · exact trunkBlind_takeZoneReport _ _ x

theorem trunkBlind_zoneEvent (z : Nat) (e : PointEvent) : TrunkBlind (zoneEvent z e) :=
  TrunkBlind.ite (c := fun s => (s.zone z).isolated = true) (fun _ _ => Iff.rfl) (fun _ _ => rfl)
    (trunkBlind_commitZone z (fun s => applyEvent s z (s.zone z) e) (fun _ _ => rfl))

/-- A point event that resolves to no zone, or to an undefined one, is counted as an orphan (R22, R32). -/
theorem pointEvent_orphan {e : PointEvent} {s : State} {z : Nat} (hz : z = s.resolve e.node e.point)
    (h : z = 0 ∨ (s.zoneDef z).defined = false) : pointEvent e s = { s with orphans := bump16 s.orphans } := by
  subst hz
  exact if_pos h

/-- Any other point event is handed to the Zone Picture (R22). -/
theorem pointEvent_zone {e : PointEvent} {s : State} {z : Nat} (hz : z = s.resolve e.node e.point) (h0 : z ≠ 0)
    (h : (s.zoneDef z).defined = true) : pointEvent e s = zoneEvent z e s := by
  subst hz
  exact if_neg (by simp [h0, h])

theorem trunkBlind_pointEvent (e : PointEvent) : TrunkBlind (pointEvent e) := by
  intro s x
  by_cases h : s.resolve e.node e.point = 0 ∨ (s.zoneDef (s.resolve e.node e.point)).defined = false
  · rw [pointEvent_orphan rfl h, pointEvent_orphan (s := s.withTi x) rfl h]
    rfl
  · obtain ⟨h0, hd⟩ := not_or.1 h
    rw [Bool.not_eq_false] at hd
    rw [pointEvent_zone rfl h0 hd, pointEvent_zone (s := s.withTi x) rfl h0 hd]
    exact trunkBlind_zoneEvent _ e s x

theorem trunkBlind_zoneIsolate (z : Nat) (on : Bool) : TrunkBlind (zoneIsolate z on) := by
  refine TrunkBlind.ite (c := fun s => (s.zoneDef z).defined = false) (fun _ _ => Iff.rfl) trunkBlind_id ?_
  refine TrunkBlind.ite (c := fun s => (s.zone z).isolated = on) (fun _ _ => Iff.rfl) trunkBlind_id ?_
  refine TrunkBlind.ite (c := fun _ => on = true) (fun _ _ => Iff.rfl) ?_ ?_
  · exact trunkBlind_commitZone z (fun s => { (s.zone z).emptied with isolated := true }) (fun _ _ => rfl)
  · exact trunkBlind_commitZone z (fun s => { s.zone z with isolated := false }) (fun _ _ => rfl)

theorem trunkBlind_panelReset : TrunkBlind panelReset := fun s x =>
  trunkBlind_takeZoneReport ⟨s.resetChanges, s.resetCrossings⟩
    { s with zp := { live := Tab.mapAll ZoneLive.start ZoneLive.panelReset s.zp.live, floors := [] } } x

theorem trunkBlind_setStatus (st : PictureStatus) : TrunkBlind (setStatus st) := by
  refine TrunkBlind.ite (c := fun s => s.sc.status = st) (fun _ _ => Iff.rfl) (fun _ _ => rfl) ?_
  exact trunkBlind_systemDueAll.comp (F := fun s => { s with sc := { s.sc with status := st } }) (fun _ _ => rfl)

theorem trunkBlind_resyncDone : TrunkBlind resyncDone :=
  TrunkBlind.ite (c := fun s => s.sc.status = .resyncing) (fun _ _ => Iff.rfl)
    ((trunkBlind_setStatus .current).comp (F := fun s => { s with sc := { s.sc with expiry := none } }) (fun _ _ => rfl))
    trunkBlind_id

/-- A frame of one of the five observed kinds is handed to blocks that do not see the Trunk Interface (R12). -/
theorem trunkBlind_hand {f : Frame} (hk : f.kind ≠ kMgmtRequest) : TrunkBlind (hand f) := by
  unfold hand
  simp only [hk, if_false]
  split
  · split
    · exact trunkBlind_pointEvent _
    · exact trunkBlind_id
  · split
    · exact trunkBlind_panelReset
    · split
      · split
        · exact trunkBlind_zoneIsolate _ _
        · exact trunkBlind_id
      · split
        · split
          · exact fun _ _ => rfl
          · exact trunkBlind_id
        · split
          · exact trunkBlind_resyncDone
          · exact trunkBlind_id

end Sys2Proof.Machine
end

section
/-! A sound frame on a trunk port, from its last character to the end of its event (R2, R4, R6 to R12), and the own frames
that answer (R13, R14, R160). -/

namespace Sys2Proof.Machine

/-! ### The bytes of a frame (10.1, 10.2) -/

/-- The two bytes of a 16-bit field give it back. -/
@[simp] theorem word16_be16 (w : Word16) : word16 (w.extractLsb' 8 8) (w.extractLsb' 0 8) = w := by
  apply BitVec.eq_of_toNat_eq
  have hw := w.isLt
  simp only [word16, num16, BitVec.toNat_ofNat, BitVec.extractLsb'_toNat, Nat.shiftRight_eq_div_pow]
  omega

@[simp] theorem length_be16 (w : Word16) : (be16 w).length = 2 := rfl

theorem toNat_byteOf {n : Nat} (h : n < 256) : (byteOf n).toNat = n := by
  simp only [byteOf, BitVec.toNat_ofNat]
  omega

@[simp] theorem length_frameBytes (f : Frame) : f.bytes.length = f.payload.length + 7 := by
  simp [Frame.bytes, frameHead]

/-- The bytes of a frame with a valid payload length are all of it (R2). -/
theorem trunkWhole_bytes {f : Frame} (h : f.payload.length ≤ 48) : TrunkWhole f.bytes := by
  refine ⟨byteOf f.payload.length, by simp [Frame.bytes, frameHead], ?_⟩
  rw [length_frameBytes, toNat_byteOf (by omega)]
  omega

/-- The bytes of a frame with a valid payload length read back as the frame. -/
theorem readFrame_bytes {f : Frame} (h : f.payload.length ≤ 48) : readFrame f.bytes = some f := by
  have hl : (byteOf f.payload.length).toNat = f.payload.length := toNat_byteOf (by omega)
  simp [Frame.bytes, frameHead, readFrame, hl, be16]

/-! ### The last character of a sound frame (R2, R4) -/

/-- The character that completes a sound frame brings the frame to its port, whose receiver is idle and whose assembler is
HUNTING again. -/
theorem exec_sound {s : State} {p : Port} {b : Byte} {f : Frame} (h : ArrivesSound s p b f) :
    exec (.trunkFrameComplete p b) s =
      .next (soundFrame p f (s.setPort p { s.port p with receiver := .idle, asm := .hunting })) := by
  obtain ⟨hrun, hr, hl, buf, esc, r, d, ha, ht, hb, hc⟩ := h
  have hw : TrunkWhole (buf ++ [d]) := hb ▸ trunkWhole_bytes hl
  rw [exec_trunkFrameComplete hrun, trunkChar_byte hr ht, trunkByte_whole (by simpa using ha) hw, hb, hc]
  simp [trunkFrameDone, readFrame_bytes hl, receiverAfter, State.modPort_eq]

/-! ### A port that is UP already (R15) -/

@[simp] theorem trunkChanged_same (t : TrunkState) (s : State) : trunkChanged t t s = s := by simp [trunkChanged]

/-- A port set to the state it has: nothing changes. -/
theorem setUp_same {s : State} {p : Port} {up : Bool} (h : (s.port p).up = up) : setUp p up s = s := by
  subst h
  have hs : s.setPort p { s.port p with up := (s.port p).up } = s := s.setPort_port p
  simp only [setUp, hs, trunkChanged_same]

/-- The state in which a sound frame stands in the receive stage of its port (R6). -/
def State.inStage (s : State) (p : Port) (f : Frame) : State :=
  s.setPort p { (s.port p).received with stage := some f }

@[simp] theorem State.inStage_config (s : State) (p : Port) (f : Frame) : (s.inStage p f).config = s.config := rfl
@[simp] theorem State.inStage_former (s : State) (p : Port) (f : Frame) : (s.inStage p f).ti.former = s.ti.former := rfl
@[simp] theorem State.inStage_seqTable (s : State) (p : Port) (f : Frame) :
    (s.inStage p f).ti.seqTable = s.ti.seqTable := rfl
@[simp] theorem State.port_inStage_self (s : State) (p : Port) (f : Frame) :
    (s.inStage p f).port p = { (s.port p).received with stage := some f } := State.port_setPort_self ..
@[simp] theorem State.port_inStage_other (s : State) (p : Port) (f : Frame) :
    (s.inStage p f).port (otherPort p) = s.port (otherPort p) := State.port_setPort_other ..

/-- A frame taken out of the receive stage (R6). -/
def PortUnit.unstaged (u : PortUnit) : PortUnit := { u with stage := none }

@[simp] theorem State.inStage_unstaged (s : State) (p : Port) (f : Frame) :
    (s.inStage p f).modPort p PortUnit.unstaged = s.setPort p (s.port p).received := by
  simp [State.inStage, State.modPort_eq, PortUnit.unstaged, PortUnit.received]

/-- A sound frame on an UP port is dispatched from the receive stage, and the event ends (R6, R7). -/
theorem exec_sound_up {s : State} {p : Port} {b : Byte} {f : Frame} (h : ArrivesSound s p b f)
    (hup : (s.port p).up = true) :
    exec (.trunkFrameComplete p b) s = .next (settle ((dispatch p f (s.inStage p f)).modPort p PortUnit.unstaged)) := by
  rw [exec_sound h, soundFrame, setUp_same (by simpa using hup)]
  simp only [State.modPort_eq, State.port_setPort_self, State.setPort_setPort]
  rfl

/-! ### The tests of dispatch (R7, R8) -/

theorem State.ownSource_iff (s : State) (src : Byte) :
    s.ownSource src = true ↔ src.toNat = s.config.own ∨ s.ti.former = some src.toNat := by simp [State.ownSource]

/-- The controller's own frame, or one of its former own node, is stripped. -/
theorem dispatch_own {s : State} {f : Frame} (p : Port)
    (h : f.src.toNat = s.config.own ∨ s.ti.former = some f.src.toNat) : dispatch p f s = s := by
  simp only [dispatch, (s.ownSource_iff f.src).2 h, if_true]

section others
variable {s : State} {f : Frame} (p : Port) (ho : f.src.toNat ≠ s.config.own) (hf : s.ti.former ≠ some f.src.toNat)
include ho hf

theorem State.ownSource_eq_false : s.ownSource f.src = false := by
  rw [← Bool.not_eq_true, s.ownSource_iff]
  simp [ho, hf]

/-- A frame that does not fit its kind is counted as a framing error. -/
theorem dispatch_unfit (hk : observedKind f.kind = true) (hfit : payloadFits f.kind f.payload = false) :
    dispatch p f s = s.modPort p PortUnit.countFraming := by
  simp [dispatch, State.ownSource_eq_false ho hf, hk, hfit]

/-- A frame for the own node of a kind that is not handed is only taken. -/
theorem dispatch_unhanded (hd : f.dst.toNat = s.config.own) (hk : observedKind f.kind = false)
    (hm : f.kind ≠ kMgmtRequest) : dispatch p f s = s := by
  simp [dispatch, State.ownSource_eq_false ho hf, hk, hd, hm]

/-- A frame for another node of a kind that is not observed is repeated. -/
theorem dispatch_repeated (hd : f.dst.toNat ≠ s.config.own) (hk : observedKind f.kind = false) :
    dispatch p f s = s.modPort (otherPort p) (PortUnit.placeRepeat f) := by
  simp [dispatch, State.ownSource_eq_false ho hf, hk, hd]

/-- A frame of an observed kind for another node is repeated and put to the handing tests. -/
theorem dispatch_observed (hd : f.dst.toNat ≠ s.config.own) (hk : observedKind f.kind = true)
    (hfit : payloadFits f.kind f.payload = true) :
    dispatch p f s = handTests p f (s.modPort (otherPort p) (PortUnit.placeRepeat f)) := by
  simp [dispatch, State.ownSource_eq_false ho hf, hk, hfit, hd]

/-- A frame of an observed kind for the own node is put to the handing tests. -/
theorem dispatch_observed_own (hd : f.dst.toNat = s.config.own) (hk : observedKind f.kind = true)
    (hfit : payloadFits f.kind f.payload = true) : dispatch p f s = handTests p f s := by
  simp [dispatch, State.ownSource_eq_false ho hf, hk, hfit, hd]

end others

/-! ### The handing tests (R10, R11) -/

theorem handTests_foreign {s : State} {f : Frame} (p : Port)
    (h : panelOnlyKind f.kind = true ∧ f.src.toNat ≠ s.config.panel) :
    handTests p f s = s.modPort p PortUnit.countForeign := if_pos h

theorem handTests_copy {s : State} {f : Frame} (p : Port)
    (h : ¬ (panelOnlyKind f.kind = true ∧ f.src.toNat ≠ s.config.panel))
    (hc : Tab.get none s.ti.seqTable f.src.toNat = some f.seq) : handTests p f s = s := by
  unfold handTests
  rw [if_neg h, if_pos hc]

theorem handTests_handed {s : State} {f : Frame} (p : Port)
    (h : panelOnlyKind f.kind = true → f.src.toNat = s.config.panel)
    (hc : Tab.get none s.ti.seqTable f.src.toNat ≠ some f.seq) : handTests p f s = hand f (setSeq f s) := by
  unfold handTests
  rw [if_neg (fun hn => hn.2 (h hn.1)), if_neg hc]

/-- The panel's kinds are observed. -/
theorem observedKind_of_panelOnlyKind {k : Byte} (h : panelOnlyKind k = true) : observedKind k = true := by
  simp only [panelOnlyKind, observedKind, Bool.or_eq_true] at h ⊢
  tauto

/-- Settles O5: the check test, then the tests of R7 up to the one that decides. -/
theorem completeFrameKept : Obligations.CompleteFrameKept := by
  unfold Obligations.CompleteFrameKept
  refine ⟨fun s p b buf esc r d hrun hr ha hd hw hc => ?_, fun s p b f h hup =>
    ⟨fun hown => ?_, fun ho hf hk hfit => ?_, fun ho hf hdst hk hm => ?_⟩⟩
  · rw [exec_trunkFrameComplete hrun, trunkChar_byte hr (by rw [ha]; exact Asm.take_of_decodes hd),
      trunkByte_whole (by simpa using ha) hw, trunkFrameDone, if_neg hc]
    simp [receiverAfter, State.modPort_eq, PortUnit.countCheckFail]
  · refine ⟨_, exec_sound_up h hup, ?_⟩
    rw [dispatch_own p (by simpa using hown), State.inStage_unstaged]
    exact arbitersOnly_settle _
  · refine ⟨_, exec_sound_up h hup, ?_⟩
    rw [dispatch_unfit p (by simpa using ho) (by simpa using hf) hk hfit]
    have hx : ((s.inStage p f).modPort p PortUnit.countFraming).modPort p PortUnit.unstaged =
        s.setPort p (s.port p).received.withFramingError := by
      simp [State.inStage, State.modPort_eq, PortUnit.unstaged, PortUnit.received, PortUnit.countFraming,
        PortUnit.withFramingError]
    rw [hx]
    exact arbitersOnly_settle _
  · refine ⟨_, exec_sound_up h hup, ?_⟩
    rw [dispatch_unhanded p (by simpa using ho) (by simpa using hf) (by simpa using hdst) hk hm, State.inStage_unstaged]
    exact arbitersOnly_settle _

/-! ### Frames repeated and not handed (R9 to R11) -/

/-- A frame for another node that is not observed, foreign, or a copy is repeated and handed to no block; a foreign one is
counted. -/
theorem dispatch_notHanded {s : State} {f : Frame} (p : Port) (ho : f.src.toNat ≠ s.config.own)
    (hf : s.ti.former ≠ some f.src.toNat) (hd : f.dst.toNat ≠ s.config.own)
    (h : observedKind f.kind = false ∨ payloadFits f.kind f.payload = true ∧
      (panelOnlyKind f.kind = true ∧ f.src.toNat ≠ s.config.panel ∨
        Tab.get none s.ti.seqTable f.src.toNat = some f.seq)) :
    dispatch p f s =
      (s.modPort (otherPort p) (PortUnit.placeRepeat f)).modPort p
        (fun u => if panelOnlyKind f.kind = true ∧ f.src.toNat ≠ s.config.panel then u.countForeign else u) := by
  have keep : ∀ t : State, t.modPort p (fun u => u) = t := fun t => t.setPort_port p
  by_cases hk : observedKind f.kind = true
  · obtain ⟨hfit, hnot⟩ := h.resolve_left (by simp [hk])
    rw [dispatch_observed p ho hf hd hk hfit]
    by_cases hfor : panelOnlyKind f.kind = true ∧ f.src.toNat ≠ s.config.panel
    · rw [handTests_foreign p (by simpa using hfor)]
      simp only [if_pos hfor]
    · rw [handTests_copy p (by simpa using hfor) (by simpa using hnot.resolve_left hfor)]
      simp only [if_neg hfor, keep]
  · have hfor : ¬ (panelOnlyKind f.kind = true ∧ f.src.toNat ≠ s.config.panel) := fun hp =>
      hk (observedKind_of_panelOnlyKind hp.1)
    rw [dispatch_repeated p ho hf hd (by simpa using hk)]
    simp only [if_neg hfor, keep]

/-- Settles O6, by what the opposite port and the arrival port are left with. -/
theorem soundFrameRepeated : Obligations.SoundFrameRepeated := by
  unfold Obligations.SoundFrameRepeated
  intro s p b f h hup ho hf hd hn
  refine ⟨_, exec_sound_up h hup, ?_⟩
  rw [dispatch_notHanded p (by simpa using ho) (by simpa using hf) (by simpa using hd) (by simpa using hn)]
  simp only [settle_port, settle_ti]
  refine ⟨?_, ?_, ?_, ?_, ?_, rfl⟩
  · simp [State.port_modPort, PortUnit.placeRepeat_repeatOut]
  · simp [State.port_modPort, PortUnit.placeRepeat_counters]
  · simp [State.port_modPort]
  · simp only [State.port_modPort_self, State.port_modPort, ne_otherPort, if_false, State.port_inStage_self,
      State.inStage_config]
    split <;> rfl
  · exact arbitersOnly_settle _

/-! ### Frames passed on (R6, R7, R9, R11, R12) -/

theorem PortUnit.placeRepeat_placed (u : PortUnit) (f : Frame) : RepeatPlaced u (u.placeRepeat f) f := by
  refine ⟨?_, u.placeRepeat_repeatOut f, u.placeRepeat_counters f⟩
  unfold PortUnit.placeRepeat
  split
  · rw [PortUnit.choose_eq]
  · rfl

/-- The entry of a frame's source takes its sequence number; the other entries stay (R11). -/
theorem get_setSeq (f : Frame) (s : State) (n : Nat) :
    Tab.get none (setSeq f s).ti.seqTable n =
      if n = f.src.toNat then some f.seq else Tab.get none s.ti.seqTable n :=
  Tab.get_put none s.ti.seqTable f.src.toNat n (some f.seq)

/-- The state once the Trunk Interface has passed a frame on for handing. -/
def passOn (p : Port) (f : Frame) (s : State) : State :=
  setSeq f (if f.dst.toNat = s.config.own then s.setPort p (s.port p).received
    else (s.setPort p (s.port p).received).modPort (otherPort p) (PortUnit.placeRepeat f))

theorem passedOn_passOn (p : Port) (f : Frame) (s : State) : PassedOn s (passOn p f s) p f := by
  unfold passOn
  have hport : ∀ (t : State) (q : Port), (setSeq f t).port q = t.port q := fun _ _ => rfl
  refine ⟨?_, fun n => ?_, ?_, fun hd => ?_, fun hd => ?_⟩
  · split <;> rfl
  · split <;> exact get_setSeq f _ n
  · rw [hport]
    split <;> simp [State.port_modPort]
  · rw [hport, if_pos hd, State.port_setPort_other]
  · rw [hport, if_neg hd, State.port_modPort_self, State.port_setPort_other]
    exact PortUnit.placeRepeat_placed _ f

/-- An effect that does not see the Trunk Interface, and then a frame leaving the receive stage, are the frame leaving and
then the effect. -/
theorem TrunkBlind.modPort {F : State → State} (h : TrunkBlind F) (s : State) (p : Port) (g : PortUnit → PortUnit) :
    (F s).modPort p g = F (s.modPort p g) := by
  rw [State.modPort_eq, State.modPort_eq, h.port, h.setPort]

theorem setSeq_inStage_unstaged (p : Port) (f : Frame) (s : State) :
    (setSeq f (if f.dst.toNat = s.config.own then s.inStage p f
      else (s.inStage p f).modPort (otherPort p) (PortUnit.placeRepeat f))).modPort p PortUnit.unstaged =
      passOn p f s := by
  unfold passOn
  split <;> cases p <;> rfl

/-- A frame of an observed kind that arrives new and fits its kind is passed on and handed, and the event ends. -/
theorem exec_arrivesNew {s : State} {p : Port} {b : Byte} {f : Frame} (h : ArrivesNew s p b f)
    (hk : observedKind f.kind = true) (hfit : payloadFits f.kind f.payload = true) :
    exec (.trunkFrameComplete p b) s = .next (settle (hand f (passOn p f s))) := by
  obtain ⟨hs, hup, ho, hf, hpanel, hnew⟩ := h
  have hm : f.kind ≠ kMgmtRequest := by
    rintro hm
    rw [hm] at hk
    exact absurd hk (by decide)
  rw [exec_sound_up hs hup, ← setSeq_inStage_unstaged, ← (trunkBlind_hand hm).modPort]
  by_cases hd : f.dst.toNat = s.config.own
  · rw [dispatch_observed_own p (by simpa using ho) (by simpa using hf) (by simpa using hd) hk hfit,
      handTests_handed p (by simpa using hpanel) (by simpa using hnew), if_pos hd]
  · rw [dispatch_observed p (by simpa using ho) (by simpa using hf) (by simpa using hd) hk hfit,
      handTests_handed p (by simpa using hpanel) (by simpa using hnew), if_neg hd]

/-- Whether a payload holds a point event does not depend on the node that sent it. -/
theorem payloadFits_pointEvent {node : Nat} {payload : List Byte} {e : PointEvent}
    (h : readPointEvent node payload = some e) : payloadFits kPointEvent payload = true := by
  unfold readPointEvent at h
  simp only [payloadFits, if_true]
  split at h
  · split at h
    · rename_i hin
      simp [readPointEvent, hin]
    · simp at h
  · simp at h

theorem hand_pointEvent {f : Frame} (hk : f.kind = kPointEvent) {e : PointEvent}
    (he : readPointEvent f.src.toNat f.payload = some e) (s : State) : hand f s = pointEvent e s := by
  simp [hand, hk, he]

/-- An event for an isolated zone raises its isolated-event count and nothing else (R43). -/
theorem zoneEvent_isolated {z : Nat} {s : State} (e : PointEvent) (h : (s.zone z).isolated = true) :
    zoneEvent z e s = s.setZone z { s.zone z with isolatedEvents := bump8 (s.zone z).isolatedEvents } := if_pos h

/-- Settles O7: the frame is passed on and handed to the Point Mapper, which resolves it. -/
theorem pointEventTaken : Obligations.PointEventTaken := by
  unfold Obligations.PointEventTaken
  intro s p b f e z h hk he hz
  have hp := passedOn_passOn p f s
  have hu := hp.1
  refine ⟨passOn p f s, settle (pointEvent e (passOn p f s)), ?_, hp, fun h0 => ?_, fun h0 hdef hiso => ?_,
    fun h0 hdef _ => ?_⟩
  · have hk' : f.kind = kPointEvent := hk
    rw [exec_arrivesNew h (by rw [hk]; decide) (by rw [hk']; exact payloadFits_pointEvent he),
      hand_pointEvent hk' he]
  · rw [pointEvent_orphan (z := z) (by rw [hu]; exact hz) (by rw [hu]; exact h0)]
    have ho : (passOn p f s).orphans = s.orphans := by rw [hu]
    rw [ho]
    exact arbitersOnly_settle _
  · have hzone : (passOn p f s).zone = s.zone := by
      rw [hu]
      rfl
    rw [pointEvent_zone (z := z) (by rw [hu]; exact hz) h0 (by rw [hu]; exact hdef),
      zoneEvent_isolated e (by rw [hzone]; exact hiso), hzone]
    refine ⟨fun y => ?_, ?_⟩
    · rw [settle_zone, State.zone_setZone, hzone]
    · rw [settle_zp]
      have hzp : (passOn p f s).zp = s.zp := by rw [hu]
      rw [← hzp]
      exact arbitersOnly_settle _
  · rw [pointEvent_zone (z := z) (by rw [hu]; exact hz) h0 (by rw [hu]; exact hdef)]
    exact arbitersOnly_settle _

/-! ### Own frames and the transmit arbiter (R13, R14, R160) -/

/-- A management reply is offered to each port as one own frame. -/
theorem port_reply (src : Byte) (id : Word16) (r : MgmtResult) (data : List Byte) (s : State) (p : Port) :
    (reply src id r data s).port p =
      (s.port p).placeOwn (s.ownFrame src kMgmtReply (be16 id ++ r.code :: (if r = .ok then data else []))) :=
  port_giveOwn ..

/-- A repeat whose last character has left the line leaves its FIFO, and the arbiter chooses. -/
theorem PortUnit.sent_repeat {u : PortUnit} (h : u.tx = some .repeatFifo) :
    u.sent = { u with
      repeatOut := u.repeatOut.drop 1
      tx := if u.repeatOut.drop 1 ≠ [] then some .repeatFifo
            else if u.ownQueue ≠ [] then some .ownQueue else none } := by
  simp only [PortUnit.sent, h]
  rw [PortUnit.choose_eq, PortUnit.choose_tx]

/-- An own frame whose last character has left the line leaves its queue, and the arbiter chooses. -/
theorem PortUnit.sent_own {u : PortUnit} (h : u.tx = some .ownQueue) :
    u.sent = { u with
      ownQueue := u.ownQueue.drop 1
      tx := if u.repeatOut ≠ [] then some .repeatFifo
            else if u.ownQueue.drop 1 ≠ [] then some .ownQueue else none } := by
  simp only [PortUnit.sent, h]
  rw [PortUnit.choose_eq, PortUnit.choose_tx]

theorem exec_trunkTransmitComplete {s : State} (hrun : s.running = true) (p : Port) :
    exec (.trunkTransmitComplete p) s = .next (s.setPort p (s.port p).sent) := by
  simp [exec, execTrunkTransmitComplete, hrun, State.modPort_eq]

/-- Settles O9: the reply's frame at each port, then what leaves the line. -/
theorem ownFramesPlacedAndSent : Obligations.OwnFramesPlacedAndSent := by
  unfold Obligations.OwnFramesPlacedAndSent
  refine ⟨fun s src id res data => ⟨?_, ?_⟩, fun s p hrun => ⟨fun h => ?_, fun h => ?_⟩⟩
  · rw [reply_ownSeq, BitVec.toNat_add]
    rfl
  · refine ⟨s.ownFrame src kMgmtReply (be16 id ++ res.code :: (if res = .ok then data else [])), rfl, rfl, rfl, rfl, rfl,
      fun p => ?_⟩
    rw [port_reply]
    exact ⟨PortUnit.placeOwn_ownQueue _ _, PortUnit.placeOwn_counters _ _, PortUnit.placeOwn_repeatOut _ _⟩
  · rw [exec_trunkTransmitComplete hrun, PortUnit.sent_repeat h]
  · rw [exec_trunkTransmitComplete hrun, PortUnit.sent_own h]

end Sys2Proof.Machine
end

section
/-! A port going DOWN or UP (R15, R16): the trunk state's change as the crews (R104) and Start Control (R184, R186) take
it, and a sound frame that brings its port UP before it is dispatched. -/

namespace Sys2Proof.Machine

/-! ### The trunk state by one port and its opposite (R16) -/

theorem State.trunkState_bothUp {s : State} (p : Port) (hp : (s.port p).up = true)
    (ho : (s.port (otherPort p)).up = true) : s.trunkState = .bothUp := by
  cases p <;> simp_all [State.trunkState, otherPort]

theorem State.trunkState_bothDown {s : State} (p : Port) (hp : (s.port p).up = false)
    (ho : (s.port (otherPort p)).up = false) : s.trunkState = .bothDown := by
  cases p <;> simp_all [State.trunkState, otherPort]

theorem State.trunkState_oneDown {s : State} (p : Port) (ho : (s.port (otherPort p)).up = !(s.port p).up) :
    s.trunkState = .oneDown := by
  cases p <;> cases h : (s.port .a).up <;> simp_all [State.trunkState, otherPort]

/-- A port's state written. -/
def State.withUp (s : State) (p : Port) (up : Bool) : State := s.setPort p { s.port p with up := up }

@[simp] theorem State.port_withUp_self (s : State) (p : Port) (up : Bool) :
    (s.withUp p up).port p = { s.port p with up := up } := State.port_setPort_self ..
@[simp] theorem State.port_withUp_other (s : State) (p : Port) (up : Bool) :
    (s.withUp p up).port (otherPort p) = s.port (otherPort p) := State.port_setPort_other ..

/-- Of each port, its state alone may have moved. -/
theorem State.port_withUp (s : State) (p q : Port) (up : Bool) :
    (s.withUp p up).port q = { s.port q with up := if q = p then up else (s.port q).up } := by
  unfold State.withUp
  rw [State.port_setPort]
  split
  · subst_vars
    rfl
  · rfl

/-- An UP port going DOWN: with the other UP the crews are told; with the other DOWN the picture is STALE as well and no
expiry runs (R186). -/
theorem setUp_down {s : State} {p : Port} (hp : (s.port p).up = true) :
    setUp p false s = if (s.port (otherPort p)).up then systemDueAll (s.withUp p false)
      else setStatus .stale { systemDueAll (s.withUp p false) with sc := { s.sc with expiry := none } } := by
  have hs : setUp p false s = trunkChanged s.trunkState (s.withUp p false).trunkState (s.withUp p false) := rfl
  cases ho : (s.port (otherPort p)).up
  · rw [hs, State.trunkState_oneDown p (by simp [hp, ho]), State.trunkState_bothDown p (by simp) (by simpa using ho)]
    simp [trunkChanged, State.withUp]
  · rw [hs, State.trunkState_bothUp p hp ho, State.trunkState_oneDown p (by simp [ho])]
    simp [trunkChanged]

/-- A DOWN port coming UP: the crews are told, and when the trunk leaves BOTH_DOWN a resync is called (R186). -/
theorem setUp_up {s : State} {p : Port} (hp : (s.port p).up = false) :
    setUp p true s = if (s.port (otherPort p)).up then systemDueAll (s.withUp p true)
      else callResync (systemDueAll (s.withUp p true)) := by
  have hs : setUp p true s = trunkChanged s.trunkState (s.withUp p true).trunkState (s.withUp p true) := rfl
  cases ho : (s.port (otherPort p)).up
  · rw [hs, State.trunkState_bothDown p hp ho, State.trunkState_oneDown p (by simp [ho])]
    simp [trunkChanged]
  · rw [hs, State.trunkState_oneDown p (by simp [hp, ho]), State.trunkState_bothUp p (by simp) (by simpa using ho)]
    simp [trunkChanged]

/-! ### What Start Control's part touches -/

/-- `t` is `s` but for the Trunk Interface, Start Control and the crews. -/
def TrunkStateOnly (s t : State) : Prop := t = { s with ti := t.ti, sc := t.sc, nr := t.nr }

theorem TrunkStateOnly.trans {s t u : State} (h : TrunkStateOnly s t) (g : TrunkStateOnly t u) : TrunkStateOnly s u := by
  unfold TrunkStateOnly at *
  rw [g, h]

theorem trunkStateOnly_systemDueAll (s : State) : TrunkStateOnly s (systemDueAll s) := by
  unfold TrunkStateOnly
  rw [systemDueAll_eq]

theorem trunkStateOnly_setStatus (st : PictureStatus) (s : State) : TrunkStateOnly s (setStatus st s) := by
  unfold TrunkStateOnly
  rw [setStatus_eq]

theorem trunkStateOnly_callResync (s : State) : TrunkStateOnly s (callResync s) := by
  unfold TrunkStateOnly
  rw [callResync_eq]
  rfl

theorem trunkStateOnly_setUp (p : Port) (up : Bool) (s : State) : TrunkStateOnly s (setUp p up s) := by
  refine TrunkStateOnly.trans (t := s.withUp p up) rfl ?_
  have hd := trunkStateOnly_systemDueAll (s.withUp p up)
  show TrunkStateOnly _ (trunkChanged s.trunkState (s.withUp p up).trunkState (s.withUp p up))
  unfold trunkChanged
  dsimp only
  split
  · rfl
  · split
    · refine TrunkStateOnly.trans ?_ (trunkStateOnly_setStatus _ _)
      exact hd.trans rfl
    · split
      · exact hd.trans (trunkStateOnly_callResync _)
      · exact hd

theorem ArbitersOnly.withNr {s t : State} (h : ArbitersOnly s t) : ArbitersOnly { s with nr := t.nr } t := by
  obtain ⟨heq, -, hlink, hss, hqueue, hsheet, hdrain⟩ := h
  refine ⟨?_, fun _ => rfl, hlink, hss, hqueue, hsheet, hdrain⟩
  rw [heq]

theorem TrunkStateOnly.withNr {s t : State} (h : TrunkStateOnly s t) (n : PerLink Crew) :
    { s with ti := t.ti, sc := t.sc, nr := n } = { t with nr := n } := by
  unfold TrunkStateOnly at h
  rw [h]

/-- An event that touches the Trunk Interface, Start Control and the crews ends with the arbiters' tests. -/
theorem TrunkStateOnly.settle {s t : State} (h : TrunkStateOnly s t) :
    ArbitersOnly { s with ti := (Machine.settle t).ti, sc := (Machine.settle t).sc, nr := (Machine.settle t).nr }
      (Machine.settle t) := by
  rw [settle_ti, settle_sc, h.withNr]
  exact (arbitersOnly_settle t).withNr

/-! ### Every attached crew owed a SYSTEM notice (R104) -/

/-- Every attached crew is owed a SYSTEM notice in `t`; of the crews nothing else has moved but a notice in flight. -/
def SystemOwed (s t : State) : Prop :=
  ∀ c, t.crew c = { s.crew c with systemDue := (s.crew c).systemDue || s.attached c, flight := (t.crew c).flight }

theorem State.attached_of_cl {s t : State} (h : t.cl = s.cl) (c : Link) : t.attached c = s.attached c := by
  unfold State.attached State.link
  rw [h]

@[simp] theorem attached_systemDueAll (s : State) (c : Link) : (systemDueAll s).attached c = s.attached c :=
  State.attached_of_cl (systemDueAll_cl s) c

theorem systemOwed_systemDueAll (s : State) : SystemOwed s (systemDueAll s) := by
  intro c
  rw [crew_systemDueAll]
  cases h : s.attached c
  · simp
  · simp [Crew.setSystemDue]

theorem SystemOwed.of_nr {s t u : State} (h : SystemOwed s t) (hn : u.nr = t.nr) : SystemOwed s u := by
  have hc : ∀ c, u.crew c = t.crew c := fun c => congrArg (fun q => q.get c) hn
  intro c
  rw [hc]
  exact h c

/-- A change of the picture status owes the crews no more. -/
theorem SystemOwed.setStatus {s t : State} (h : SystemOwed s t) (ha : ∀ c, t.attached c = s.attached c)
    (st : PictureStatus) : SystemOwed s (setStatus st t) := by
  intro c
  rw [crew_setStatus]
  split
  · rename_i hc
    have hac : s.attached c = true := (ha c).symm.trans hc.2
    rw [h c]
    simp [Crew.setSystemDue, hac]
  · exact h c

theorem SystemOwed.callResync {s t : State} (h : SystemOwed s t) (ha : ∀ c, t.attached c = s.attached c) :
    SystemOwed s (callResync t) := by
  refine (h.setStatus ha .resyncing).of_nr ?_
  rw [callResync_eq]

theorem SystemOwed.settle {s t : State} (h : SystemOwed s t) (c : Link) :
    ((settle t).crew c).systemDue = ((s.crew c).systemDue || s.attached c) := by
  rw [(arbitersOnly_settle t).crew c, h c]

theorem systemOwed_setUp_down {s : State} {p : Port} (hp : (s.port p).up = true) :
    SystemOwed s (setUp p false s) := by
  have hd : SystemOwed s (systemDueAll (s.withUp p false)) := systemOwed_systemDueAll (s.withUp p false)
  rw [setUp_down hp]
  split
  · exact hd
  · have ho : SystemOwed s { systemDueAll (s.withUp p false) with sc := { s.sc with expiry := none } } :=
      hd.of_nr rfl
    exact ho.setStatus (State.attached_of_cl (by exact systemDueAll_cl (s.withUp p false))) .stale

theorem systemOwed_setUp_up {s : State} {p : Port} (hp : (s.port p).up = false) : SystemOwed s (setUp p true s) := by
  have hd : SystemOwed s (systemDueAll (s.withUp p true)) := systemOwed_systemDueAll (s.withUp p true)
  rw [setUp_up hp]
  split
  · exact hd
  · exact hd.callResync (attached_systemDueAll (s.withUp p true))

/-! ### A port going DOWN (R15, R186) -/

theorem setUp_down_ti {s : State} {p : Port} (hp : (s.port p).up = true) :
    (setUp p false s).ti = (s.withUp p false).ti := by
  rw [setUp_down hp]
  split <;> simp

theorem setUp_down_sc {s : State} {p : Port} (hp : (s.port p).up = true) :
    (setUp p false s).sc =
      if (s.port (otherPort p)).up then s.sc else { s.sc with status := .stale, expiry := none } := by
  rw [setUp_down hp]
  split <;> simp [State.withUp]

/-- A break, or silence, takes an UP port DOWN. -/
theorem exec_portDown {s : State} {p : Port} {i : Instr} (hrun : s.running = true) (hp : (s.port p).up = true)
    (hi : i = .silenceTimerExpiry p ∨ i = .breakTimerExpiry p ∧ (s.port p).level = .spacing) :
    exec i s = .next (settle (setUp p false s)) := by
  rcases hi with rfl | ⟨rfl, hl⟩
  · simp [exec, execSilenceTimerExpiry, hrun, hp]
  · simp [exec, execBreakTimerExpiry, PortUnit.breakRuns, hrun, hp, hl]

/-! ### A port coming UP (R15, R184) -/

theorem PortUnit.placeOwn_eq (f : Frame) (u : PortUnit) :
    u.placeOwn f = { u with ownQueue := (u.placeOwn f).ownQueue, tx := (u.placeOwn f).tx,
                            counters := (u.placeOwn f).counters } := by
  unfold PortUnit.placeOwn
  split
  · rw [PortUnit.choose_eq]
  · rfl

theorem port_callResync (s : State) (q : Port) :
    (callResync s).port q = (s.port q).placeOwn (s.ownFrame 0x00#8 kResyncCall []) := by
  rw [callResync_eq]
  exact port_giveOwn ..

theorem ownFrame_systemDueAll (s : State) (d k : Byte) (b : List Byte) :
    (systemDueAll s).ownFrame d k b = s.ownFrame d k b := by
  simp [State.ownFrame, State.config]

theorem port_systemDueAll (s : State) (q : Port) : (systemDueAll s).port q = s.port q :=
  trunkBlind_systemDueAll.port s q

section goesUp
variable {s : State} {p : Port} (hp : (s.port p).up = false)
include hp

/-- With the other port UP the ports and Start Control are left but for the port's own state. -/
theorem setUp_up_ti (ho : (s.port (otherPort p)).up = true) :
    (setUp p true s).ti = (s.withUp p true).ti ∧ (setUp p true s).sc = s.sc := by
  rw [setUp_up hp, if_pos ho]
  exact ⟨systemDueAll_ti _, systemDueAll_sc _⟩

/-- When the trunk leaves BOTH_DOWN each port is given the RESYNC_CALL. -/
theorem port_setUp_up_resync (ho : (s.port (otherPort p)).up = false) (q : Port) :
    (setUp p true s).port q = ((s.withUp p true).port q).placeOwn (s.ownFrame 0x00#8 kResyncCall []) := by
  rw [setUp_up hp, if_neg (by simp [ho]), port_callResync, port_systemDueAll, ownFrame_systemDueAll]
  rfl

theorem ownQueue_setUp_up_resync (ho : (s.port (otherPort p)).up = false) (q : Port) :
    ((setUp p true s).port q).ownQueue = if (s.port q).ownQueue.length < 4
      then (s.port q).ownQueue ++ [s.ownFrame 0x00#8 kResyncCall []] else (s.port q).ownQueue := by
  rw [port_setUp_up_resync hp ho, PortUnit.placeOwn_ownQueue, State.port_withUp]

theorem counters_setUp_up_resync (ho : (s.port (otherPort p)).up = false) (q : Port) :
    ((setUp p true s).port q).counters = if (s.port q).ownQueue.length < 4 then (s.port q).counters
      else { (s.port q).counters with ownDrops := bump16 (s.port q).counters.ownDrops } := by
  rw [port_setUp_up_resync hp ho, PortUnit.placeOwn_counters, State.port_withUp]

theorem setUp_up_sc_resync (ho : (s.port (otherPort p)).up = false) :
    (setUp p true s).sc =
      { s.sc with status := .resyncing, expiry := some (s.uptime + s.config.resyncTimeout) } := by
  rw [setUp_up hp, if_neg (by simp [ho]), callResync_eq]
  simp [State.uptime, State.config, State.withUp]

/-- Coming UP writes, of each port, its state, its own-frame queue, its transmitter and its counters. -/
theorem port_setUp_up (q : Port) :
    (setUp p true s).port q =
      { s.port q with up := ((setUp p true s).port q).up, ownQueue := ((setUp p true s).port q).ownQueue,
                      tx := ((setUp p true s).port q).tx, counters := ((setUp p true s).port q).counters } := by
  cases ho : (s.port (otherPort p)).up
  · rw [port_setUp_up_resync hp ho, PortUnit.placeOwn_eq, State.port_withUp]
  · have ht : (setUp p true s).port q = (s.withUp p true).port q := by
      unfold State.port
      rw [(setUp_up_ti hp ho).1]
    rw [ht, State.port_withUp]

theorem up_setUp_up : ((setUp p true s).port p).up = true ∧
    ((setUp p true s).port (otherPort p)).up = (s.port (otherPort p)).up := by
  cases ho : (s.port (otherPort p)).up
  · rw [port_setUp_up_resync hp ho, port_setUp_up_resync hp ho]
    simp [ho]
  · unfold State.port at *
    rw [(setUp_up_ti hp ho).1]
    exact ⟨congrArg PortUnit.up (State.port_withUp_self s p true),
      (congrArg PortUnit.up (State.port_withUp_other s p true)).trans ho⟩

/-- Coming UP leaves all but the ports, the own sequence number, Start Control and the crews. -/
theorem setUp_up_eq :
    setUp p true s = { s with sc := (setUp p true s).sc, nr := (setUp p true s).nr, ti := { s.ti with
      ports := (setUp p true s).ti.ports,
      ownSeq := if (s.port (otherPort p)).up then s.ti.ownSeq else s.ti.ownSeq + 1 } } := by
  have ht : (setUp p true s).ti = { s.ti with
      ports := (setUp p true s).ti.ports,
      ownSeq := if (s.port (otherPort p)).up then s.ti.ownSeq else s.ti.ownSeq + 1 } := by
    cases ho : (s.port (otherPort p)).up
    · have hw : (systemDueAll (s.withUp p true)).ti = (s.withUp p true).ti := systemDueAll_ti _
      rw [setUp_up hp, if_neg (by simp [ho]), callResync_eq]
      simp only [giveOwn, hw]
      rfl
    · rw [(setUp_up_ti hp ho).1]
      rfl
  rw [← ht]
  exact trunkStateOnly_setUp p true s

end goesUp

/-! ### A sound frame on a DOWN port (R15) -/

/-- A port that has taken the last character of a frame (R1, R4). -/
def PortUnit.heardLast (u : PortUnit) : PortUnit := { u with receiver := .idle, asm := .hunting }

theorem PortUnit.placeOwn_heardLast (u : PortUnit) (f : Frame) :
    u.heardLast.placeOwn f = (u.placeOwn f).heardLast := by
  have hc : ∀ v : PortUnit, v.heardLast.choose = v.choose.heardLast := fun v => by
    rw [PortUnit.choose_eq, PortUnit.choose_eq v, PortUnit.choose_tx, PortUnit.choose_tx]
    rfl
  unfold PortUnit.placeOwn
  split
  · exact (if_pos ‹_›).symm ▸ hc { u with ownQueue := u.ownQueue ++ [f] }
  · exact (if_neg ‹_›).symm ▸ rfl

theorem giveOwn_heardLast (d k : Byte) (b : List Byte) (s : State) (p : Port) :
    giveOwn d k b (s.modPort p PortUnit.heardLast) = (giveOwn d k b s).modPort p PortUnit.heardLast := by
  have hf : (s.modPort p PortUnit.heardLast).ownFrame d k b = s.ownFrame d k b := rfl
  unfold giveOwn
  dsimp only
  rw [hf]
  cases p
  · have hu : (s.modPort .a PortUnit.heardLast).ti.ports = ⟨s.ti.ports.va.heardLast, s.ti.ports.vb⟩ := rfl
    rw [hu, PortUnit.placeOwn_heardLast]
    rfl
  · have hu : (s.modPort .b PortUnit.heardLast).ti.ports = ⟨s.ti.ports.va, s.ti.ports.vb.heardLast⟩ := rfl
    rw [hu, PortUnit.placeOwn_heardLast]
    rfl

theorem callResync_heardLast (s : State) (p : Port) :
    callResync (s.modPort p PortUnit.heardLast) = (callResync s).modPort p PortUnit.heardLast := by
  unfold callResync
  rw [← (trunkBlind_setStatus .resyncing).modPort, giveOwn_heardLast]
  rfl

/-- A DOWN port may come UP before or after it takes the last character of a frame. -/
theorem setUp_up_heardLast {s : State} {p : Port} (hp : (s.port p).up = false) :
    setUp p true (s.modPort p PortUnit.heardLast) = (setUp p true s).modPort p PortUnit.heardLast := by
  have hp' : ((s.modPort p PortUnit.heardLast).port p).up = false := by
    rw [State.port_modPort_self]
    exact hp
  have hw : (s.modPort p PortUnit.heardLast).withUp p true = (s.withUp p true).modPort p PortUnit.heardLast := by
    simp [State.withUp, State.modPort_eq, PortUnit.heardLast]
  have ho : (s.modPort p PortUnit.heardLast).port (otherPort p) = s.port (otherPort p) := by simp [State.port_modPort]
  rw [setUp_up hp', setUp_up hp, hw, ho, ← trunkBlind_systemDueAll.modPort, callResync_heardLast]
  split <;> rfl

/-- A frame that arrives on a DOWN port arrives on the port once it is UP. -/
theorem ArrivesSound.setUp {s : State} {p : Port} {b : Byte} {f : Frame} (h : ArrivesSound s p b f)
    (hp : (s.port p).up = false) : ArrivesSound (setUp p true s) p b f := by
  obtain ⟨hrun, hr, hl, hbuf⟩ := h
  have hr' : (Machine.setUp p true s).running = s.running := by
    unfold State.running
    rw [setUp_up_eq hp]
  unfold ArrivesSound
  rw [hr', port_setUp_up hp]
  exact ⟨hrun, hr, hl, hbuf⟩

/-- A sound frame on a DOWN port is taken as on the port once it is UP. -/
theorem exec_sound_down {s : State} {p : Port} {b : Byte} {f : Frame} (h : ArrivesSound s p b f)
    (hp : (s.port p).up = false) :
    exec (.trunkFrameComplete p b) s = exec (.trunkFrameComplete p b) (setUp p true s) := by
  have hup : (((setUp p true s).modPort p PortUnit.heardLast).port p).up = true := by
    rw [State.port_modPort_self]
    exact (up_setUp_up hp).1
  rw [exec_sound h, exec_sound (h.setUp hp)]
  show Host.Outcome.next (soundFrame p f (s.modPort p PortUnit.heardLast)) =
    .next (soundFrame p f ((setUp p true s).modPort p PortUnit.heardLast))
  unfold soundFrame
  rw [setUp_same hup, setUp_up_heardLast hp]

/-- A port that has taken a frame is as UP as before, with the own frames it had. -/
theorem State.setPort_received (s : State) (p q : Port) :
    ((s.setPort p (s.port p).received).port q).up = (s.port q).up ∧
      ((s.setPort p (s.port p).received).port q).ownQueue = (s.port q).ownQueue := by
  rw [State.port_setPort]
  split
  · subst_vars
    exact ⟨rfl, rfl⟩
  · exact ⟨rfl, rfl⟩

/-- Settles O10: DOWN at a timer; UP at a sound frame, and there the controller's own frame, which is stripped. -/
theorem portGoesDownAndUp : Obligations.PortGoesDownAndUp := by
  unfold Obligations.PortGoesDownAndUp
  refine ⟨fun s p i hrun hp hi => ?_, fun s p b f h hp => ?_, fun s p b f h hp hown => ?_⟩
  · refine ⟨_, exec_portDown hrun hp hi, ?_, ?_, (systemOwed_setUp_down hp).settle,
      (trunkStateOnly_setUp p false s).settle⟩
    · rw [settle_ti, setUp_down_ti hp]
      rfl
    · rw [settle_sc, setUp_down_sc hp]
  · refine ⟨setUp p true s, exec_sound_down h hp, h.setUp hp, (up_setUp_up hp).1, (up_setUp_up hp).2,
      systemOwed_setUp_up hp, port_setUp_up hp, setUp_up_ti hp, fun ho => ⟨setUp_up_sc_resync hp ho, ?_⟩,
      setUp_up_eq hp⟩
    refine ⟨s.ownFrame 0x00#8 kResyncCall [], rfl, rfl, rfl, rfl, rfl, fun q => ?_⟩
    exact ⟨ownQueue_setUp_up_resync hp ho q, counters_setUp_up_resync hp ho q⟩
  · have hu := exec_sound_up (h.setUp hp) (up_setUp_up hp).1
    have hcfg : (setUp p true s).config = s.config := by rw [State.config, setUp_up_eq hp, State.config]
    rw [dispatch_own p (by simpa [hcfg] using Or.inl hown), State.inStage_unstaged] at hu
    have hrec := (setUp p true s).setPort_received p
    refine ⟨_, (exec_sound_down h hp).trans hu, ?_, ?_, ?_, fun ho => ⟨?_, ?_⟩, fun ho => ⟨?_, ?_, fun q hq => ?_⟩, ?_⟩
    · rw [settle_port, (hrec p).1, (up_setUp_up hp).1]
    · rw [settle_port, (hrec _).1, (up_setUp_up hp).2]
    · exact ((systemOwed_setUp_up hp).of_nr (State.setPort_nr _ p _)).settle
    · rw [settle_sc]
      exact (setUp_up_ti hp ho).2
    · rw [settle_ti, State.setPort_ti_ownSeq, (setUp_up_ti hp ho).1]
      rfl
    · rw [settle_sc]
      exact setUp_up_sc_resync hp ho
    · rw [settle_ti, State.setPort_ti_ownSeq, setUp_up_eq hp]
      simp [ho]
    · refine ⟨s.ownFrame 0x00#8 kResyncCall [], rfl, rfl, rfl, rfl, ?_⟩
      rw [settle_port, (hrec q).2, ownQueue_setUp_up_resync hp ho, if_pos hq]
    · refine ((trunkStateOnly_setUp p true s).trans ?_).settle
      rfl

end Sys2Proof.Machine
end

section
/-! A trunk frame sent as line characters is read back as exactly that frame (00 Conventions, "Escapes" and "Checks"; R2,
R4, R14). -/

namespace Sys2Proof.Machine

/-! ### The check closes over a frame (00 Conventions, "Checks") -/

/-- A bit step shifts a register whose top bit is clear. -/
theorem crcBit_shiftLeft {x : Word16} {i : Nat} (hx : x.toNat < 256) (hi : i < 8) :
    crcBit (x <<< i) = x <<< (i + 1) := by
  have hm : (x <<< i).msb = false := by
    have hle : x.toNat * 2 ^ i ≤ x.toNat * 2 ^ 7 :=
      Nat.mul_le_mul_left _ (Nat.pow_le_pow_right (by omega) (by omega))
    rw [BitVec.msb_eq_decide, decide_eq_false_iff_not, BitVec.toNat_shiftLeft, Nat.shiftLeft_eq]
    omega
  rw [crcBit, hm, BitVec.shiftLeft_add]
  simp

/-- Eight bit steps shift a register whose high byte is clear by that byte. -/
theorem crcByte_of_lowByte {r x : Word16} {b : Byte} (h : r ^^^ (b.setWidth 16 <<< 8) = x) (hx : x.toNat < 256) :
    crcByte r b = x <<< 8 := by
  have hstep : ∀ i, i < 8 → crcBit (x <<< i) = x <<< (i + 1) := fun i hi => crcBit_shiftLeft hx hi
  have h0 : x = x <<< 0 := by simp
  unfold crcByte
  dsimp only
  rw [h]
  conv_lhs => rw [h0]
  rw [hstep 0 (by omega), hstep 1 (by omega), hstep 2 (by omega), hstep 3 (by omega), hstep 4 (by omega),
    hstep 5 (by omega), hstep 6 (by omega), hstep 7 (by omega)]

/-- A register with its high byte taken out of it. -/
theorem xor_highByte (c : Word16) :
    c ^^^ ((c.extractLsb' 8 8).setWidth 16 <<< 8) = (c.extractLsb' 0 8).setWidth 16 := by
  ext i hi
  by_cases h : i < 8
  · simp [h]
    rfl
  · have hsum : 8 + (i - 8) = i := by omega
    have hlt : i - 8 < 8 := by omega
    simp [h, hlt, hsum, BitVec.getLsbD_eq_getElem hi]

theorem crcByte_highByte (c : Word16) : crcByte c (c.extractLsb' 8 8) = (c.extractLsb' 0 8).setWidth 16 <<< 8 := by
  refine crcByte_of_lowByte (xor_highByte c) ?_
  have := (c.extractLsb' 0 8).isLt
  rw [BitVec.toNat_setWidth]
  omega

theorem crcByte_self (x : Byte) : crcByte (x.setWidth 16 <<< 8) x = 0 := by
  rw [crcByte_of_lowByte (x := 0) (by simp) (by simp)]
  rfl

/-- The check over some bytes and their check is 0. -/
theorem crc_append_be16 (bs : List Byte) : crc (bs ++ be16 (crc bs)) = 0 := by
  have h : crc (bs ++ be16 (crc bs)) =
      crcByte (crcByte (crc bs) ((crc bs).extractLsb' 8 8)) ((crc bs).extractLsb' 0 8) := by
    simp [crc, be16, List.foldl_append]
  rw [h, crcByte_highByte, crcByte_self]

/-! ### The bytes of a frame before its last one (R2, R3) -/

section valid
variable {f : Frame} (hdst : f.dst.toNat ≤ 127) (hsrc : 1 ≤ f.src.toNat) (hsrc' : f.src.toNat ≤ 120)
  (hlen : f.payload.length ≤ 48)

include hdst hsrc hsrc' hlen in
/-- No byte of a valid frame breaks a header test. -/
theorem not_headerBroken_bytes {pre post : List Byte} {d : Byte} (h : f.bytes = pre ++ d :: post) :
    ¬ HeaderBroken pre d := by
  have hn : (byteOf f.payload.length).toNat ≤ 48 := (toNat_byteOf (by omega)).trans_le hlen
  rintro (⟨hl, hd⟩ | ⟨hl, hd⟩ | ⟨hl, hd⟩)
  · obtain rfl := List.length_eq_zero_iff.1 hl
    obtain ⟨rfl, -⟩ := List.cons.inj h
    omega
  · obtain ⟨a, rfl⟩ := List.length_eq_one_iff.1 hl
    simp only [Frame.bytes, frameHead, List.cons_append, List.nil_append, List.cons.injEq] at h
    obtain ⟨-, rfl, -⟩ := h
    omega
  · match pre, hl with
    | [_, _, _, _], _ =>
      simp only [Frame.bytes, frameHead, List.cons_append, List.nil_append, List.cons.injEq] at h
      obtain ⟨-, -, -, -, rfl, -⟩ := h
      omega

include hlen in
/-- Only all of a valid frame's bytes are a whole frame. -/
theorem not_trunkWhole_of_append {pre post : List Byte} (h : f.bytes = pre ++ post) (hpost : post ≠ []) :
    ¬ TrunkWhole pre := by
  rintro ⟨n, hn, hl⟩
  have h4 : f.bytes[4]? = some n := by
    have hlt : 4 < pre.length := (List.getElem?_eq_some_iff.1 hn).1
    rw [h, List.getElem?_append_left hlt, hn]
  have hb : f.bytes[4]? = some (byteOf f.payload.length) := by simp [Frame.bytes, frameHead]
  obtain rfl := Option.some.inj (hb.symm.trans h4)
  have htot := congrArg List.length h
  have hpos := List.length_pos_iff.2 hpost
  rw [toNat_byteOf (by omega)] at hl
  rw [length_frameBytes, List.length_append] at htot
  omega

end valid

/-! ### Runs of characters -/

/-- A run takes a step and goes on from the next state. -/
theorem run_succ {k : Nat} {s t : State} (h : step s = .next t) :
    Sys2Proof.core.run (k + 1) s = Sys2Proof.core.run k t := by
  have hc : Sys2Proof.core.step s = .next t := h
  simp only [Host.Core.run, hc]

/-- A run that comes to a state has its first step and the run from there. -/
theorem run_succ_inv {k : Nat} {s t : State} (h : Sys2Proof.core.run (k + 1) s = .next t) :
    ∃ u, step s = .next u ∧ Sys2Proof.core.run k u = .next t := by
  cases hs : step s with
  | next u => exact ⟨u, rfl, (run_succ hs).symm.trans h⟩
  | fault r => nomatch r
  | refused r =>
    have hc : Sys2Proof.core.step s = .refused r := hs
    simp only [Host.Core.run, hc] at h
    nomatch h

/-- A run that comes to a state goes on from it. -/
theorem run_add {m n : Nat} {s t : State} (h : Sys2Proof.core.run m s = .next t) :
    Sys2Proof.core.run (m + n) s = Sys2Proof.core.run n t := by
  induction m generalizing s with
  | zero =>
    obtain rfl := Host.Outcome.next.inj h
    rw [Nat.zero_add]
  | succ m ih =>
    obtain ⟨u, hs, hu⟩ := run_succ_inv h
    rw [Nat.succ_add, run_succ hs, ih hu]

/-- A port that assembles: its receiver idle, its assembler as given. -/
def State.assembling (s : State) (p : Port) (a : Asm) : State :=
  s.setPort p { s.port p with receiver := .idle, asm := a }

@[simp] theorem State.port_assembling (s : State) (p : Port) (a : Asm) :
    (s.assembling p a).port p = { s.port p with receiver := .idle, asm := a } := State.port_setPort_self ..

theorem State.assembling_again (s : State) (p : Port) (a a' : Asm) :
    (s.assembling p a).setPort p { (s.assembling p a).port p with receiver := .idle, asm := a' } =
      s.assembling p a' := by
  simp [State.assembling]

/-- The characters `cs`, run as commands, bring the assembler of a port from `a` to `a'` and change nothing else. -/
def ReadsTo (p : Port) (a : Asm) (cs : List Byte) (a' : Asm) : Prop :=
  ∀ (s : State) (rest : List Instr), s.running = true →
    Sys2Proof.core.run cs.length ((s.assembling p a).withPending (cs.map (Instr.trunkCharacterReceived p) ++ rest)) =
      .next ((s.assembling p a').withPending rest)

theorem ReadsTo.nil (p : Port) (a : Asm) : ReadsTo p a [] a := fun _ _ _ => rfl

theorem ReadsTo.append {p : Port} {a a' a'' : Asm} {cs ds : List Byte} (h : ReadsTo p a cs a')
    (g : ReadsTo p a' ds a'') : ReadsTo p a (cs ++ ds) a'' := by
  intro s rest hrun
  rw [List.length_append, List.map_append, List.append_assoc, run_add (h s _ hrun)]
  exact g s rest hrun

/-- One character that is taken so in every state is read so. -/
theorem ReadsTo.single {p : Port} {a a' : Asm} {b : Byte}
    (h : ∀ s : State, s.running = true →
      exec (.trunkCharacterReceived p b) (s.assembling p a) = .next (s.assembling p a')) : ReadsTo p a [b] a' := by
  intro s rest hrun
  have hb : step ((s.assembling p a).withPending (.trunkCharacterReceived p b :: rest)) =
      .next ((s.assembling p a').withPending rest) := h (s.withPending rest) hrun
  exact run_succ hb

/-- The escape byte sets the escape flag. -/
theorem readsTo_escapeByte (p : Port) (buf : List Byte) (r : Word16) :
    ReadsTo p (.collecting buf false r) [escapeByte] (.collecting buf true r) := by
  refine ReadsTo.single (fun s hrun => ?_)
  obtain ⟨-, -, hesc, -⟩ :=
    trunkCharacterAssembles (s.assembling p (.collecting buf false r)) p escapeByte hrun (by simp)
  rw [hesc buf r (by simp) rfl, State.assembling_again]

/-- A character that stands for a byte which neither breaks a header test nor completes the frame appends the byte. -/
theorem readsTo_decoded {p : Port} {buf : List Byte} {esc : Bool} {r : Word16} {b d : Byte} (hd : Decodes esc b d)
    (hh : ¬ HeaderBroken buf d) (hw : ¬ TrunkWhole (buf ++ [d])) :
    ReadsTo p (.collecting buf esc r) [b] (.collecting (buf ++ [d]) false (crcByte r d)) := by
  refine ReadsTo.single (fun s hrun => ?_)
  obtain ⟨-, -, -, hbyte⟩ := trunkCharacterAssembles (s.assembling p (.collecting buf esc r)) p b hrun (by simp)
  rw [hbyte buf esc r d (by simp) hd hh hw, State.assembling_again]

/-- A byte sent as itself is decoded as itself. -/
theorem decodes_plain {d : Byte} (h : needsEscape d = false) : Decodes false d d := by
  simp only [needsEscape, Bool.or_eq_false_iff, beq_eq_false_iff_ne] at h
  exact ⟨h.1, h.2, .inl ⟨rfl, rfl⟩⟩

/-- A byte sent escaped is decoded from the character after the escape byte. -/
theorem decodes_escaped {d : Byte} (h : needsEscape d = true) : Decodes true (d ^^^ escapeMask) d := by
  simp only [needsEscape, Bool.or_eq_true, beq_iff_eq] at h
  rcases h with rfl | rfl <;> unfold Decodes <;> decide

/-- The characters of one byte append it. -/
theorem readsTo_escapeOne {p : Port} {buf : List Byte} {r : Word16} {d : Byte} (hh : ¬ HeaderBroken buf d)
    (hw : ¬ TrunkWhole (buf ++ [d])) :
    ReadsTo p (.collecting buf false r) (escapeOne d) (.collecting (buf ++ [d]) false (crcByte r d)) := by
  unfold escapeOne
  split
  · exact (readsTo_escapeByte p buf r).append (readsTo_decoded (decodes_escaped ‹_›) hh hw)
  · rename_i hn
    exact readsTo_decoded (decodes_plain (by simpa using hn)) hh hw

/-- The characters of some bytes of a frame, none of which breaks a header test or completes it, append them. -/
theorem readsTo_escape {p : Port} (ds : List Byte) {buf : List Byte} {r : Word16}
    (h : ∀ pre d post, ds = pre ++ d :: post →
      ¬ HeaderBroken (buf ++ pre) d ∧ ¬ TrunkWhole (buf ++ pre ++ [d])) :
    ReadsTo p (.collecting buf false r) (escape ds) (.collecting (buf ++ ds) false (ds.foldl crcByte r)) := by
  induction ds generalizing buf r with
  | nil => simpa [escape] using ReadsTo.nil p (.collecting buf false r)
  | cons d ds ih =>
    obtain ⟨hh, hw⟩ := h [] d ds rfl
    rw [List.append_nil] at hh hw
    have hrest := ih (buf := buf ++ [d]) (r := crcByte r d) (fun pre d' post he => by
      have := h (d :: pre) d' post (by rw [he, List.cons_append])
      simpa using this)
    have := (readsTo_escapeOne (p := p) (r := r) hh hw).append hrest
    simpa [escape] using this

/-! ### The whole frame -/

/-- A HUNTING port takes a start mark and then characters that its assembler reads. -/
theorem run_startMark {s : State} {p : Port} (hrun : s.running = true) (ha : (s.port p).asm = .hunting)
    (hr : (s.port p).receiver ≠ .waitMarking) {cs : List Byte} {a : Asm} (h : ReadsTo p Asm.fresh cs a) :
    Sys2Proof.core.run (startMark :: cs).length
      (s.withPending ((startMark :: cs).map (Instr.trunkCharacterReceived p))) =
      .next ((({ s with pending := [] } : State)).assembling p a) := by
  have hstart : ∀ q : List Instr, exec (.trunkCharacterReceived p startMark) (s.withPending q) =
      .next ((s.withPending q).assembling p Asm.fresh) := fun q => by
    obtain ⟨hopen, -⟩ := trunkCharacterAssembles (s.withPending q) p startMark hrun hr
    rw [hopen ha]
    rfl
  have h1 : Sys2Proof.core.run 1 (s.withPending ((startMark :: cs).map (Instr.trunkCharacterReceived p))) =
      .next ((s.assembling p Asm.fresh).withPending (cs.map (Instr.trunkCharacterReceived p))) := by
    exact run_succ (hstart (cs.map (Instr.trunkCharacterReceived p)))
  have h2 := h s [] hrun
  rw [List.append_nil] at h2
  rw [List.length_cons, Nat.add_comm, run_add h1, h2]
  rfl

/-- The characters of a valid frame, all but the last, are read as all its bytes but the last, and the last character then
stands for that byte. -/
theorem lineChars_read {f : Frame} (hdst : f.dst.toNat ≤ 127) (hsrc : 1 ≤ f.src.toNat) (hsrc' : f.src.toNat ≤ 120)
    (hlen : f.payload.length ≤ 48) {init : List Byte} {d : Byte} (hbytes : f.bytes = init ++ [d]) (p : Port) :
    ∃ cs b esc, Decodes esc b d ∧ f.lineChars = (startMark :: cs) ++ [b] ∧
      ReadsTo p Asm.fresh cs (.collecting init esc (crc init)) := by
  have hinit : ReadsTo p Asm.fresh (escape init) (.collecting init false (crc init)) := by
    refine readsTo_escape (buf := []) init (fun pre e post he => ?_)
    have hf : f.bytes = pre ++ e :: (post ++ [d]) := by rw [hbytes, he]; simp
    exact ⟨not_headerBroken_bytes hdst hsrc hsrc' hlen hf,
      not_trunkWhole_of_append hlen (pre := pre ++ [e]) (post := post ++ [d]) (by rw [hf]; simp) (by simp)⟩
  have hline : f.lineChars = startMark :: (escape init ++ escapeOne d) := by
    simp [Frame.lineChars, hbytes, escape]
  by_cases hn : needsEscape d = true
  · refine ⟨escape init ++ [escapeByte], d ^^^ escapeMask, true, decodes_escaped hn, ?_,
      hinit.append (readsTo_escapeByte p init (crc init))⟩
    simp [hline, escapeOne, hn]
  · refine ⟨escape init, d, false, decodes_plain (by simpa using hn), ?_, hinit⟩
    simp [hline, escapeOne, hn]

/-- Settles O12: all bytes but the last are read one after another, and the last one's last character is left. -/
theorem framesSurviveTheLine : Obligations.FramesSurviveTheLine := by
  unfold Obligations.FramesSurviveTheLine
  intro f hdst hsrc hsrc' hlen hcheck s p hrun ha hr
  obtain ⟨init, d, hbytes⟩ : ∃ init d, f.bytes = init ++ [d] :=
    (List.eq_nil_or_concat f.bytes).resolve_left (by simp [Frame.bytes, frameHead]) |>.imp
      (fun _ => Exists.imp (fun _ h => by simpa using h))
  have hcrc : crcByte (crc init) d = 0 := by
    have h0 : crc f.bytes = 0 := by
      rw [Frame.bytes, hcheck]
      exact crc_append_be16 _
    rwa [hbytes, crc, List.foldl_append] at h0
  obtain ⟨cs, b, esc, hd, hl, hcs⟩ := lineChars_read hdst hsrc hsrc' hlen hbytes p
  refine ⟨startMark :: cs, b, _, hl, run_startMark hrun ha hr hcs, ⟨hrun, by simp, hlen, init, esc, crc init, d,
    by simp, ?_, hbytes.symm, hcrc⟩, ?_⟩
  · rw [State.port_assembling]
    exact Asm.take_of_decodes hd
  · rw [State.port_assembling]
    rfl

end Sys2Proof.Machine
end

section
/-! Power and start: working state lost, the start kind, the tables settled, and what a completed start leaves (R17, R179 to
R183). -/

namespace Sys2Proof.Machine

/-! ### A program cut (R132, R159) -/

/-- Cutting a program writes its page, or nothing, and takes a free value for it. -/
theorem cutProgram_eq (s : State) :
    cutProgram s = { s with planMem := (cutProgram s).planMem, fresh := (cutProgram s).fresh } := by
  unfold cutProgram
  split
  · simp only [State.leavePage]
  · rfl

theorem cutProgram_of_no_program {s : State} (h : ∀ pg bytes, s.ss.reader ≠ some (.program pg bytes)) :
    cutProgram s = s := by
  unfold cutProgram
  split
  · exact absurd ‹_› (h _ _)
  · rfl

/-- A byte outside the page of the program that is cut stays. -/
theorem readPlan_cutProgram {s : State} {a : Nat} (h : OutsideProgram s a) :
    readPlan (cutProgram s).planMem a = readPlan s.planMem a := by
  unfold cutProgram
  split
  · rename_i pg bytes hr
    have ha : ¬ (pageBase pg ≤ a ∧ a < pageBase pg + 256) := h pg bytes hr
    rw [State.leavePage, readPlan_writePlanRange, length_leftBytes, if_neg ha]
  · rfl

/-! ### Working state lost (R17, R179) -/

theorem loseWorking_tables (s : State) : (loseWorking s).tables = s.tables := by
  show (cutProgram s).tables = s.tables
  rw [cutProgram_eq]

theorem loseWorking_planMem (s : State) : (loseWorking s).planMem = (cutProgram s).planMem := rfl

theorem loseWorking_sc (s : State) :
    (loseWorking s).sc = { s.sc with status := .resyncing, expiry := none, resyncTimeouts := 0 } := by
  show { (cutProgram s).sc with status := PictureStatus.resyncing, expiry := none, resyncTimeouts := 0 } = _
  rw [cutProgram_eq]

/-- Losing the working state leaves every block at its start value (log 34 for the EMPTY buffers). -/
theorem workingLost_loseWorking (s : State) : WorkingLost (loseWorking s) := by
  refine ⟨fun _ => ⟨rfl, rfl⟩, fun _ => rfl, fun c => ?_, fun p => ?_, fun _ => rfl, rfl, rfl, rfl, rfl, rfl, rfl, rfl,
    rfl⟩
  · cases c <;> exact ⟨rfl, rfl, rfl, rfl, rfl, rfl, rfl, rfl, rfl, rfl⟩
  · cases p <;> exact ⟨rfl, rfl, rfl, rfl, rfl, rfl⟩

theorem loseWorking_outputs (s : State) (c : Link) :
    ((loseWorking s).link c).tx = .highZ ∧ ((loseWorking s).link c).ctrlReady = .highZ := by
  cases c <;> exact ⟨rfl, rfl⟩

/-! ### A start begins (R179, R181) -/

theorem State.startIsWarm_iff (s : State) :
    s.startIsWarm = true ↔ s.sc.markIntact = true ∧ s.tables.check = s.sc.markCheck := by
  simp [State.startIsWarm]

theorem loseWorking_startIsWarm (s : State) : (loseWorking s).startIsWarm = s.startIsWarm := by
  simp [State.startIsWarm, loseWorking_tables, loseWorking_sc]

theorem beginStart_warm {s : State} (h : s.startIsWarm = true) :
    beginStart s = { loseWorking s with sc := { (loseWorking s).sc with mainPower := true, kind := .warm } } := by
  unfold beginStart
  dsimp only
  rw [loseWorking_startIsWarm, if_pos h]

theorem beginStart_cold {s : State} (h : s.startIsWarm = false) :
    beginStart s = { loseWorking s with
      tables := Retained.cold, sc := { (loseWorking s).sc with mainPower := true, kind := .cold } } := by
  unfold beginStart
  dsimp only
  rw [loseWorking_startIsWarm, if_neg (by simp [h])]

/-- The working state lost, the tables and Start Control as the start kind has it. -/
theorem beginStart_eq (s : State) :
    beginStart s = { loseWorking s with tables := (beginStart s).tables, sc := (beginStart s).sc } := by
  cases h : s.startIsWarm
  · rw [beginStart_cold h]
  · rw [beginStart_warm h]

/-- A start is found warm exactly when the mark shows that the tables survived, and then they stand; otherwise they are
cold. -/
theorem beginStart_kind (s : State) :
    (s.startIsWarm = true ∧ (beginStart s).sc.kind = .warm ∧ (beginStart s).tables = s.tables ∧
      (beginStart s).sc.markCheck = s.sc.markCheck) ∨
    (s.startIsWarm = false ∧ (beginStart s).sc.kind = .cold ∧ (beginStart s).tables = Retained.cold) := by
  cases h : s.startIsWarm
  · rw [beginStart_cold h]
    exact .inr ⟨rfl, rfl, rfl⟩
  · rw [beginStart_warm h, loseWorking_sc]
    exact .inl ⟨rfl, rfl, loseWorking_tables s, rfl⟩

theorem beginStart_mainPower (s : State) : (beginStart s).sc.mainPower = true := by
  cases h : s.startIsWarm
  · rw [beginStart_cold h]
  · rw [beginStart_warm h]

theorem beginStart_relay (s : State) : (beginStart s).ti.relay = .closed := by
  rw [beginStart_eq]
  rfl

theorem beginStart_planMem (s : State) : (beginStart s).planMem = (cutProgram s).planMem := by
  rw [beginStart_eq, loseWorking_planMem]

/-! ### A start completes (R181 to R183) -/

/-- A resync called right after a start: the status is RESYNCING already, so no crew is told. -/
theorem callResync_workingStart (s : State) :
    callResync (workingStart .opened .detached .low s) =
      { giveOwn 0x00#8 kResyncCall [] (workingStart .opened .detached .low s) with
        sc := { s.sc with status := .resyncing, expiry := some s.config.resyncTimeout, resyncTimeouts := 0 } } := by
  have hs : setStatus .resyncing (workingStart .opened .detached .low s) = workingStart .opened .detached .low s := rfl
  unfold callResync
  rw [hs]
  have ht : (giveOwn 0x00#8 kResyncCall [] (workingStart .opened .detached .low s)).uptime = 0 := rfl
  dsimp only
  rw [ht, Nat.zero_add]
  rfl

theorem started_finishStart (ok : Bool) (s : State) : Started (finishStart ok s) := by
  unfold finishStart
  rw [callResync_workingStart]
  refine ⟨rfl, fun _ => ⟨rfl, rfl⟩, fun _ => rfl, fun c => ?_, fun p => ?_, fun _ => rfl, rfl, rfl, rfl, rfl, rfl, rfl,
    rfl, rfl, fun _ => rfl, rfl, rfl, rfl⟩
  · cases c <;> exact ⟨rfl, rfl, rfl, rfl, rfl, rfl⟩
  · cases p <;> exact ⟨rfl, rfl, rfl, _, rfl, rfl, rfl, rfl⟩

theorem finishStart_tables (ok : Bool) (s : State) : (finishStart ok s).tables = (settleTables ok s).tables := by
  unfold finishStart
  rw [callResync_workingStart]
  rfl

theorem finishStart_planMem (ok : Bool) (s : State) : (finishStart ok s).planMem = (settleTables ok s).planMem := by
  unfold finishStart
  rw [callResync_workingStart]
  rfl

/-- Of Start Control the kind and the mark stand as the tables were settled. -/
theorem finishStart_sc (ok : Bool) (s : State) :
    (finishStart ok s).sc.kind = (settleTables ok s).sc.kind ∧
      (finishStart ok s).sc.markIntact = (settleTables ok s).sc.markIntact ∧
      (finishStart ok s).sc.markCheck = (settleTables ok s).sc.markCheck := by
  unfold finishStart
  rw [callResync_workingStart]
  exact ⟨rfl, rfl, rfl⟩

theorem settleTables_warm {ok : Bool} {s : State} (h : s.sc.kind = .warm) : settleTables ok s = s := by
  simp only [settleTables, h]

/-- The tables with the configuration that a cold start loads (R182). -/
def State.loadedTables (s : State) (ok : Bool) : Retained :=
  { s.tables with config := (s.loadConfig ok).1, source := (s.loadConfig ok).2 }

theorem settleTables_cold {ok : Bool} {s : State} (h : s.sc.kind = .cold) :
    settleTables ok s = { s with
      tables := s.loadedTables ok
      sc := { s.sc with markCheck := (s.loadedTables ok).check, markIntact := true } } := by
  unfold settleTables
  split
  · rename_i hw
    rw [h] at hw
    nomatch hw
  · rfl

theorem exec_startComplete {s : State} (hpower : s.sc.mainPower = true) (hrelay : s.ti.relay = .closed) (ok : Bool) :
    exec (.startComplete ok) s = .next (finishStart ok s) := by
  simp [exec, execStartComplete, State.starting, hpower, hrelay]

/-- What completes a start in progress, warm or cold, whatever state it finds. -/
theorem startCompletes {s : State} (ok : Bool) (hpower : s.sc.mainPower = true) (hrelay : s.ti.relay = .closed) :
    ∃ u, exec (.startComplete ok) s = .next u ∧ Started u ∧ u.sc.kind = s.sc.kind ∧ u.planMem = s.planMem ∧
      (s.sc.kind = .warm →
        u.tables = s.tables ∧ u.sc.markIntact = s.sc.markIntact ∧ u.sc.markCheck = s.sc.markCheck) ∧
      (s.sc.kind = .cold → u.sc.markIntact = true ∧ u.sc.markCheck = u.tables.check ∧
        u.tables = s.loadedTables ok) := by
  obtain ⟨hkind, hintact, hcheck⟩ := finishStart_sc ok s
  refine ⟨_, exec_startComplete hpower hrelay ok, started_finishStart ok s, ?_⟩
  rw [hkind, hintact, hcheck, finishStart_tables, finishStart_planMem]
  cases h : s.sc.kind
  · rw [settleTables_warm h]
    exact ⟨h, rfl, fun _ => ⟨rfl, rfl, rfl⟩, nofun⟩
  · rw [settleTables_cold h]
    exact ⟨h, rfl, nofun, fun _ => ⟨rfl, rfl, rfl⟩⟩

/-- Settles O50: the start begun, and its completion in whatever state it finds the start in progress. -/
theorem startRuns : Obligations.StartRuns := by
  unfold Obligations.StartRuns
  refine ⟨fun s => ?_, fun s ok hpower hrelay => ?_⟩
  · refine ⟨beginStart s, rfl, beginStart_relay s, fun c => ?_, fun a ha => ?_, fun hno => ?_, ?_, fun hw => ?_,
      fun ok => ?_⟩
    · rw [beginStart_eq]
      exact loseWorking_outputs s c
    · rw [beginStart_planMem, readPlan_cutProgram ha]
    · rw [beginStart_planMem, cutProgram_of_no_program hno]
    · rw [← s.startIsWarm_iff]
      rcases beginStart_kind s with ⟨hs, hk, -⟩ | ⟨hs, hk, -⟩ <;> simp [hs, hk]
    · rcases beginStart_kind s with ⟨-, -, ht, -⟩ | ⟨-, hk, -⟩
      · exact ht
      · exact absurd (hk.symm.trans hw) nofun
    · obtain ⟨u, hu, hstarted, hkind, -, hwarm, hcold⟩ :=
        startCompletes ok (beginStart_mainPower s) (beginStart_relay s)
      refine ⟨u, hu, hstarted, hkind, ?_⟩
      rcases beginStart_kind s with ⟨hs, hk, ht, hc⟩ | ⟨-, hk, ht⟩
      · obtain ⟨hut, -, huc⟩ := hwarm hk
        refine ⟨fun _ => hut.trans ht, fun hn => absurd (hk.symm.trans hn) nofun, ?_⟩
        rw [huc, hc, hut, ht, ((s.startIsWarm_iff).1 hs).2]
      · obtain ⟨hui, huc, hut⟩ := hcold hk
        refine ⟨fun hn => absurd (hk.symm.trans hn) nofun, fun _ => ?_, huc⟩
        rw [State.loadedTables, ht] at hut
        have hprof : ∀ c, u.profile c = Profile.cold := fun c => by
          rw [State.profile, hut]
          cases c <;> rfl
        rw [hut]
        exact ⟨rfl, rfl, rfl, rfl, hprof, rfl, hui⟩
  · obtain ⟨u, hu, hstarted, hkind, hplan, hwarm, hcold⟩ := startCompletes ok hpower hrelay
    refine ⟨u, hu, hstarted, hkind, hplan, hwarm, fun h => ?_⟩
    obtain ⟨hintact, hcheck, htables⟩ := hcold h
    refine ⟨hintact, hcheck, fun k source hload => ?_⟩
    have hl : s.loadConfig ok = (k, source) := hload.symm
    rw [htables, State.loadedTables, hl]

/-! ### Main power lost (R17, R180) -/

/-- While the relay is CLOSED no command but those of power and start and the pin levels acts (log 1). -/
theorem exec_closed {s : State} (h : s.running = false) {i : Instr} (hi : ¬ ActsWhileClosed i) : exec i s = .next s := by
  cases i with
  | start | startComplete ok | holdoverLow | mainPowerLoss | presenceChange c high | terminalReadyChange c high
  | trunkReceiveLevelChange p l => exact absurd (by simp [ActsWhileClosed]) hi
  | _ => exact congrArg Host.Outcome.next (whenRunning_of_closed h _)

/-- The holdover monitor destroys the marker word while main power is absent (R180). -/
theorem exec_holdoverLow_absent {s : State} (h : s.sc.mainPower = false) :
    exec .holdoverLow s = .next { s with sc := { s.sc with markIntact := false } } := by
  simp [exec, execHoldoverLow, h]

theorem exec_mainPowerLoss_absent {s : State} (h : s.sc.mainPower = false) : exec .mainPowerLoss s = .next s := by
  simp [exec, execMainPowerLoss, h]

theorem losePower_sc (s : State) :
    (losePower s).sc = { s.sc with mainPower := false, status := .resyncing, expiry := none, resyncTimeouts := 0 } := by
  show { (loseWorking s).sc with mainPower := false } = _
  rw [loseWorking_sc]

/-- With the relay CLOSED a trunk line's level is followed and nothing else (log 1). -/
theorem exec_trunkReceiveLevelChange_closed {s : State} (h : s.running = false) (p : Port) (l : LineChange) :
    exec (.trunkReceiveLevelChange p l) s = .next (s.setPort p { s.port p with level := lineTo l }) := by
  simp [exec, execTrunkReceiveLevelChange, h, State.modPort_eq]

/-- Settles O51: the state that a loss of main power leaves, and every command there. -/
theorem powerLost : Obligations.PowerLost := by
  unfold Obligations.PowerLost
  refine ⟨fun s h => ⟨exec_holdoverLow_absent h, exec_mainPowerLoss_absent h⟩, fun s h => ⟨?_, losePower s, ?_⟩⟩
  · simp [exec, execHoldoverLow, h]
  · have hsc := losePower_sc s
    have hpower : (losePower s).sc.mainPower = false := rfl
    have hclosed : (losePower s).running = false := rfl
    refine ⟨by simp [exec, execMainPowerLoss, h], hclosed, loseWorking_tables s, fun a ha => readPlan_cutProgram ha,
      workingLost_loseWorking s, by rw [hsc], by rw [hsc], hpower, fun i hi => exec_closed hclosed hi,
      exec_mainPowerLoss_absent hpower, fun ok => ?_, exec_trunkReceiveLevelChange_closed hclosed, _, _,
      exec_holdoverLow_absent hpower, rfl, rfl, ?_⟩
    · simp [exec, execStartComplete, State.starting, hpower]
    · rw [beginStart_cold (by simp [State.startIsWarm])]

end Sys2Proof.Machine
end

section
/-! The point map (R19 to R27): its order, the entry that covers a point, and what an insertion, a replacement and a removal
make of it. -/

namespace Sys2Proof.Machine

/-! ### The order of the entries (R19) -/

/-- An entry stands wholly before another: of a lower node, or of the same node with its last point below the other's first
(R19). -/
def MapEntry.Precedes (a b : MapEntry) : Prop := a.node < b.node ∨ (a.node = b.node ∧ a.last < b.first)

theorem mapOrdered_iff (m : List MapEntry) :
    MapOrdered m ↔ m.length ≤ 2048 ∧ (∀ e ∈ m, e.inRange = true) ∧ m.Pairwise MapEntry.Precedes := Iff.rfl

theorem MapOrdered.inRange {m : List MapEntry} (h : MapOrdered m) {e : MapEntry} (he : e ∈ m) : e.inRange = true :=
  h.2.1 e he

theorem MapOrdered.pairwise {m : List MapEntry} (h : MapOrdered m) : m.Pairwise MapEntry.Precedes := h.2.2

theorem MapEntry.inRange_iff (e : MapEntry) :
    e.inRange = true ↔ 1 ≤ e.node ∧ e.node ≤ 120 ∧ e.first ≤ e.last ∧ e.last ≤ 511 ∧ 1 ≤ e.zone ∧ e.zone ≤ 1023 := by
  simp [MapEntry.inRange, and_assoc]

theorem MapEntry.first_le_last {e : MapEntry} (h : e.inRange = true) : e.first ≤ e.last :=
  (e.inRange_iff.1 h).2.2.1

theorem MapEntry.Precedes.trans {a b c : MapEntry} (hb : b.inRange = true) (hab : a.Precedes b) (hbc : b.Precedes c) :
    a.Precedes c := by
  have := MapEntry.first_le_last hb
  unfold MapEntry.Precedes at *
  omega

/-- Entries in range are in order as soon as each stands before its next neighbour. -/
theorem isChain_precedes_iff {m : List MapEntry} (h : ∀ e ∈ m, e.inRange = true) :
    m.IsChain MapEntry.Precedes ↔ m.Pairwise MapEntry.Precedes := by
  refine ⟨fun hc => ?_, List.Pairwise.isChain⟩
  induction m with
  | nil => exact .nil
  | cons x l ih =>
    obtain ⟨hx, hl⟩ := List.isChain_cons.1 hc
    have hp := ih (fun e he => h e (List.mem_cons_of_mem x he)) hl
    refine List.pairwise_cons.2 ⟨?_, hp⟩
    cases l with
    | nil => simp
    | cons y l =>
      have hxy : x.Precedes y := hx y rfl
      intro z hz
      rcases List.mem_cons.1 hz with rfl | hz
      · exact hxy
      · exact hxy.trans (h y (by simp)) ((List.pairwise_cons.1 hp).1 z hz)

/-- Entries taken out of a map in order leave it in order. -/
theorem MapOrdered.sublist {m l : List MapEntry} (h : MapOrdered m) (hl : l.Sublist m) : MapOrdered l := by
  obtain ⟨hlen, hin, hord⟩ := h
  exact ⟨hl.length_le.trans hlen, fun e he => hin e (hl.subset he), hord.sublist hl⟩

theorem MapOrdered.nil : MapOrdered [] := ⟨by simp, by simp, .nil⟩

/-! ### The entry that covers a point (R21) -/

theorem MapEntry.covers_iff (m : MapEntry) (n q : Nat) :
    m.covers n q = true ↔ m.node = n ∧ m.first ≤ q ∧ q ≤ m.last := by simp [MapEntry.covers, and_assoc]

/-- Of two entries of which one stands before the other, one point is covered by at most one. -/
theorem MapEntry.Precedes.not_both_cover {a b : MapEntry} (h : a.Precedes b) {n q : Nat} (ha : a.covers n q = true) :
    ¬ b.covers n q = true := by
  rw [MapEntry.covers_iff] at *
  unfold MapEntry.Precedes at h
  omega

/-- No other entry of a map in order covers a point that one of its entries covers. -/
theorem MapOrdered.not_covers_of_split {before after : List MapEntry} {e : MapEntry}
    (h : MapOrdered (before ++ e :: after)) {n q : Nat} (he : e.covers n q = true) :
    ∀ x ∈ before ++ after, ¬ x.covers n q = true := by
  obtain ⟨-, hafter, hbefore⟩ := List.pairwise_append.1 h.pairwise
  intro x hx hq
  rcases List.mem_append.1 hx with hx | hx
  · exact (hbefore x hx e (by simp)).not_both_cover hq he
  · exact ((List.pairwise_cons.1 hafter).1 x hx).not_both_cover he hq

/-- In a map in order, two entries that cover one point are the same entry. -/
theorem MapOrdered.covers_unique {m : List MapEntry} (h : MapOrdered m) {a b : MapEntry} (ha : a ∈ m) (hb : b ∈ m)
    {n q : Nat} (hqa : a.covers n q = true) (hqb : b.covers n q = true) : a = b := by
  obtain ⟨before, after, rfl⟩ := List.append_of_mem ha
  by_contra hne
  have hother : b ∈ before ++ after := by
    simp only [List.mem_append, List.mem_cons] at hb ⊢
    exact hb.imp_right fun hb => hb.resolve_left (Ne.symm hne)
  exact h.not_covers_of_split hqa b hother hqb

/-- An entry that covers a point decides its zone (R21). -/
theorem State.resolve_covered {s : State} (h : MapOrdered s.tables.map) {m : MapEntry} (hm : m ∈ s.tables.map)
    {n q : Nat} (hq : m.covers n q = true) : s.resolve n q = m.zone := by
  unfold State.resolve
  cases hf : s.tables.map.find? (fun m => m.covers n q) with
  | none => exact absurd hq (List.find?_eq_none.1 hf m hm)
  | some m' =>
    have hq' : m'.covers n q = true := List.find?_some (p := fun m : MapEntry => m.covers n q) hf
    rw [h.covers_unique hm (List.mem_of_find?_eq_some hf) hq hq']

/-- A point that no entry covers falls to the node's fallback entry (R21). -/
theorem State.resolve_uncovered {s : State} {n q : Nat} (h : ∀ m ∈ s.tables.map, ¬ m.covers n q = true) :
    s.resolve n q = Tab.get 0 s.tables.fallback n := by
  unfold State.resolve
  rw [List.find?_eq_none.2 h]

/-- Settles O8: at most one entry of a map in order covers a point. -/
theorem resolutionIsUnique : Obligations.ResolutionIsUnique := by
  unfold Obligations.ResolutionIsUnique
  intro s n q hord
  refine ⟨fun m hm hn hfirst hlast => ?_, fun h => ?_⟩
  · exact State.resolve_covered hord hm ((m.covers_iff n q).2 ⟨hn, hfirst, hlast⟩)
  · refine State.resolve_uncovered fun m hm hq => ?_
    obtain ⟨hn, hpoint⟩ := (m.covers_iff n q).1 hq
    exact h m hm hn hpoint

/-! ### An insertion (R24) -/

theorem MapEntry.shares_iff (a b : MapEntry) :
    a.shares b = true ↔ a.node = b.node ∧ a.first ≤ b.last ∧ b.first ≤ a.last := by simp [MapEntry.shares, and_assoc]

theorem MapEntry.sortsBefore_iff (a b : MapEntry) :
    a.sortsBefore b = true ↔ a.node < b.node ∨ (a.node = b.node ∧ a.first < b.first) := by simp [MapEntry.sortsBefore]

theorem any_shares_iff (m : List MapEntry) (e : MapEntry) :
    m.any (fun x => x.shares e) = true ↔ ∃ x ∈ m, x.node = e.node ∧ x.first ≤ e.last ∧ e.first ≤ x.last := by
  simp only [List.any_eq_true, MapEntry.shares_iff]

/-- Where a predicate that holds of an entry holds of every entry before it, the entries it holds of come first. -/
theorem take_drop_length_filter {α : Type} {p : α → Bool} {m : List α}
    (h : m.Pairwise (fun a b => p b = true → p a = true)) :
    m.take (m.filter p).length = m.filter p ∧ m.drop (m.filter p).length = m.filter (fun x => !p x) := by
  induction m with
  | nil => simp
  | cons a l ih =>
    obtain ⟨ha, hl⟩ := List.pairwise_cons.1 h
    by_cases hp : p a = true
    · simpa [hp] using ih hl
    · have hnone : ∀ x ∈ l, ¬ p x = true := fun x hx hx' => hp (ha x hx hx')
      have hrest : ∀ x ∈ l, (!p x) = true := by simpa using hnone
      simp [hp, List.filter_eq_nil_iff.2 hnone, List.filter_eq_self.2 hrest]

/-- The entries before the place of a new entry sort before it, those after it do not (R24). -/
theorem insertEntry_eq {m : List MapEntry} (h : MapOrdered m) (e : MapEntry) :
    insertEntry m e = m.filter (fun x => x.sortsBefore e) ++ e :: m.filter (fun x => !x.sortsBefore e) := by
  have hdown : m.Pairwise (fun a b => b.sortsBefore e = true → a.sortsBefore e = true) := by
    refine h.pairwise.imp_of_mem fun {a b} ha _ hab => ?_
    have := MapEntry.first_le_last (h.inRange ha)
    simp only [MapEntry.sortsBefore_iff]
    unfold MapEntry.Precedes at hab
    omega
  obtain ⟨htake, hdrop⟩ := take_drop_length_filter hdown
  rw [insertEntry, placeIndex, htake, hdrop]

/-- An entry that sorts before another and shares no point with it stands wholly before it. -/
theorem MapEntry.precedes_of_sortsBefore {x e : MapEntry} (he : e.inRange = true) (hns : ¬ x.shares e = true)
    (hs : x.sortsBefore e = true) : x.Precedes e := by
  have := MapEntry.first_le_last he
  rw [MapEntry.shares_iff] at hns
  rw [MapEntry.sortsBefore_iff] at hs
  unfold MapEntry.Precedes
  omega

/-- An entry that does not sort before another and shares no point with it stands wholly after it. -/
theorem MapEntry.precedes_of_not_sortsBefore {x e : MapEntry} (hx : x.inRange = true) (hns : ¬ x.shares e = true)
    (hs : ¬ x.sortsBefore e = true) : e.Precedes x := by
  have := MapEntry.first_le_last hx
  rw [MapEntry.shares_iff] at hns
  rw [MapEntry.sortsBefore_iff] at hs
  unfold MapEntry.Precedes
  omega

/-- What an insertion makes is the map and the new entry, in another order. -/
theorem insertEntry_perm (m : List MapEntry) (e : MapEntry) : (insertEntry m e).Perm (e :: m) := by
  have h := (m.take (placeIndex m e)).perm_middle (a := e) (l₂ := m.drop (placeIndex m e))
  rwa [List.take_append_drop] at h

/-- An entry in range that shares no point, put at its sorted place in a map with room, leaves the map in order (R24). -/
theorem MapOrdered.insertEntry {m : List MapEntry} (h : MapOrdered m) {e : MapEntry} (hroom : m.length < 2048)
    (he : e.inRange = true) (hfree : ∀ x ∈ m, ¬ x.shares e = true) : MapOrdered (insertEntry m e) := by
  have hperm := insertEntry_perm m e
  have before : ∀ x ∈ m.filter (fun x => x.sortsBefore e), x.Precedes e := by
    intro x hx
    obtain ⟨hx, hs⟩ := List.mem_filter.1 hx
    exact MapEntry.precedes_of_sortsBefore he (hfree x hx) hs
  have after : ∀ x ∈ m.filter (fun x => !x.sortsBefore e), e.Precedes x := by
    intro x hx
    obtain ⟨hx, hs⟩ := List.mem_filter.1 hx
    exact MapEntry.precedes_of_not_sortsBefore (h.inRange hx) (hfree x hx) (by simpa using hs)
  refine (mapOrdered_iff _).2 ⟨?_, fun x hx => ?_, ?_⟩
  · rw [hperm.length_eq]
    exact hroom
  · rcases List.mem_cons.1 (hperm.subset hx) with rfl | hx
    · exact he
    · exact h.inRange hx
  · rw [insertEntry_eq h]
    have hord := h.pairwise
    refine List.pairwise_append.2 ⟨hord.filter _, List.pairwise_cons.2 ⟨after, hord.filter _⟩, fun x hx y hy => ?_⟩
    rcases List.mem_cons.1 hy with rfl | hy
    · exact before x hx
    · exact (before x hx).trans he (after y hy)

/-! ### A replacement (R26) -/

theorem fitsAfter_iff {below : Option MapEntry} (hb : ∀ b ∈ below, b.inRange = true) (e : MapEntry) :
    fitsAfter below e = true ↔ ∀ b ∈ below, b.Precedes e := by
  cases below with
  | none => simp [fitsAfter]
  | some b =>
    have := MapEntry.first_le_last (hb b rfl)
    simp only [fitsAfter, Bool.and_eq_true, Bool.or_eq_true, bne_iff_ne, decide_eq_true_eq, MapEntry.sortsBefore_iff,
      MapEntry.Precedes, Option.mem_some_iff, forall_eq']
    omega

theorem fitsBefore_iff {e : MapEntry} (he : e.inRange = true) (above : Option MapEntry) :
    fitsBefore e above = true ↔ ∀ a ∈ above, e.Precedes a := by
  cases above with
  | none => simp [fitsBefore]
  | some a =>
    have := MapEntry.first_le_last he
    simp only [fitsBefore, Bool.and_eq_true, Bool.or_eq_true, bne_iff_ne, decide_eq_true_eq, MapEntry.sortsBefore_iff,
      MapEntry.Precedes, Option.mem_some_iff, forall_eq']
    omega

theorem entryBelow_eq (m : List MapEntry) {i : Nat} (h : i < m.length) : entryBelow m i = (m.take i).getLast? := by
  cases i with
  | zero => simp [entryBelow]
  | succ i => simp [entryBelow, List.getLast?_take, List.getElem?_eq_getElem (Nat.lt_of_succ_lt h)]

/-- An entry in range that replaces one of a map in order leaves it in order exactly when it may stand between the two
neighbours (R26 test 3). -/
theorem mapOrdered_set_iff {m : List MapEntry} (h : MapOrdered m) {i : Nat} (hi : i < m.length) {e : MapEntry}
    (he : e.inRange = true) :
    MapOrdered (m.set i e) ↔ (fitsAfter (entryBelow m i) e && fitsBefore e m[i + 1]?) = true := by
  have hin : ∀ x ∈ m, x.inRange = true := fun x hx => h.inRange hx
  have hset : ∀ x ∈ m.set i e, x.inRange = true := by
    intro x hx
    rcases List.mem_or_eq_of_mem_set hx with hx | rfl
    · exact hin x hx
    · exact he
  have hlen : (m.set i e).length ≤ 2048 := by
    rw [List.length_set]
    exact h.1
  have hbelow : ∀ b ∈ entryBelow m i, b.inRange = true := by
    intro b hb
    rw [entryBelow_eq m hi] at hb
    exact hin b (List.mem_of_mem_take (List.mem_of_mem_getLast? hb))
  have hchain := (isChain_precedes_iff hin).2 h.pairwise
  have hparts : MapOrdered (m.set i e) ↔ (m.set i e).IsChain MapEntry.Precedes := by
    rw [mapOrdered_iff, isChain_precedes_iff hset]
    exact ⟨fun hm => hm.2.2, fun hc => ⟨hlen, hset, hc⟩⟩
  rw [hparts, Bool.and_eq_true, fitsAfter_iff hbelow, fitsBefore_iff he, entryBelow_eq m hi, ← List.head?_drop,
    List.set_eq_take_append_cons_drop, if_pos hi, List.isChain_append, List.isChain_cons]
  simp [hchain.take, hchain.drop, and_comm]

/-! ### A removal (R25) -/

theorem MapEntry.startsAt_iff (e : MapEntry) (n f : Nat) : e.startsAt n f = true ↔ e.node = n ∧ e.first = f := by
  simp [MapEntry.startsAt]

/-- An entry covers the point it begins at. -/
theorem MapEntry.covers_of_startsAt {e : MapEntry} (he : e.inRange = true) {n f : Nat} (h : e.startsAt n f = true) :
    e.covers n f = true := by
  obtain ⟨hn, rfl⟩ := (e.startsAt_iff n f).1 h
  exact (e.covers_iff n _).2 ⟨hn, le_rfl, MapEntry.first_le_last he⟩

/-- Taking out what begins at an entry's first point takes out that entry alone (R25). -/
theorem filter_startsAt {before after : List MapEntry} {e : MapEntry} (h : MapOrdered (before ++ e :: after)) {n f : Nat}
    (he : e.startsAt n f = true) :
    (before ++ e :: after).filter (fun x => !x.startsAt n f) = before ++ after := by
  have hcov := MapEntry.covers_of_startsAt (h.inRange (by simp)) he
  have hother : ∀ x ∈ before ++ after, (!x.startsAt n f) = true := by
    intro x hx
    have hx' : x ∈ before ++ e :: after := by
      simp only [List.mem_append, List.mem_cons] at hx ⊢
      tauto
    have hnc := h.not_covers_of_split hcov x hx
    simpa using fun hs => hnc (MapEntry.covers_of_startsAt (h.inRange hx') hs)
  rw [List.filter_append, List.filter_cons_of_neg (by simp [he]), ← List.filter_append, List.filter_eq_self.2 hother]

end Sys2Proof.Machine
end

section
/-! Management requests that pass tests 1 to 7 of R158: each is carried out by its own rule, answered, and the event ends.
The point map and the node fallback table are written and every table is read by these answers (R24 to R29, R163). -/

namespace Sys2Proof.Machine

/-! ### A request served (R157, R158) -/

/-- Every management row is the hand-off of the request it carries (log 26). -/
theorem exec_of_requestOf {i : Instr} {src : Byte} {id : Word16} {op : Byte} {args : List Byte}
    (h : requestOf i = some (src, id, op, args)) (s : State) : exec i s = .next (mgmtRow src id op args s) := by
  cases i with
  | unknownOp | tableRead | tableWritePointMap | tableWriteNodeFallback | tableWriteZoneDefinition | tableWriteHazardBonus
  | tableWriteSheetDirectory | tableWriteCrewProfile | tableWriteConfiguration | mapInsert | mapDelete | mapClear
  | planStage | planCommit | planRead | zoneRead | statusRead | pictureClear | setRotation | linkDisable | linkEnable
  | configSave => cases h; rfl
  | _ => cases h

/-- A request of an admitted source that no test before its own rule refuses is carried out, and the event ends. -/
theorem mgmtRow_carried {s : State} {src : Byte} (hs : Serves s src) (id : Word16) {op : Byte} {args : List Byte}
    {r : MgmtReq} (hp : parseMgmt op args = .ok r) (hl : (r.locked && s.lockHolds) = false) :
    mgmtRow src id op args s = settle (carryOut src id r s) := by
  obtain ⟨hrun, hadm, hmr⟩ := hs
  rw [mgmtRow, whenRunning_of_running hrun, takeMgmt]
  simp only [hadm, hmr, hp, hl, Bool.not_true, Bool.false_eq_true, Option.isSome_none, if_false]

section served
variable {s : State} {src : Byte} {id : Word16} {i : Instr} {op : Byte} {args : List Byte} {r : MgmtReq}

/-- A request served leaves what its own rule makes of the state, but for what the arbiters begin. -/
theorem exec_carried (hs : Serves s src) (hi : requestOf i = some (src, id, op, args)) (hp : parseMgmt op args = .ok r)
    (hl : (r.locked && s.lockHolds) = false) {u : State} (hu : carryOut src id r s = u) :
    ∃ t, exec i s = .next t ∧ ArbitersOnly u t := by
  subst hu
  exact ⟨_, (exec_of_requestOf hi s).trans (by rw [mgmtRow_carried hs id hp hl]), arbitersOnly_settle _⟩

/-- A reply is the same frame before and after a table write that keeps the configuration. -/
theorem reply_setTables_ti {tabs : Retained} (hc : tabs.config = s.tables.config) (c : MgmtResult) (d : List Byte) :
    (reply src id c d (setTables tabs s)).ti = (reply src id c d s).ti := by
  have hconf : (setTables tabs s).config = s.config := hc
  simp only [reply, giveOwn, State.ownFrame, hconf, setTables_ti]

/-- A request served that writes the retained tables, the configuration kept, leaves the tables written, the mark's check
brought up to date (R180) and the reply given. -/
theorem exec_writesTables (hs : Serves s src) (hi : requestOf i = some (src, id, op, args))
    (hp : parseMgmt op args = .ok r) (hl : (r.locked && s.lockHolds) = false) {tabs : Retained} {d : List Byte}
    (hu : carryOut src id r s = reply src id .ok d (setTables tabs s)) (hc : tabs.config = s.tables.config) :
    ∃ t, exec i s = .next t ∧ t.tables = tabs ∧ t.sc = { s.sc with markCheck := t.tables.check } ∧
      t.ti = (reply src id .ok d s).ti ∧ ArbitersOnly { s with ti := t.ti, tables := t.tables, sc := t.sc } t := by
  obtain ⟨t, ht, harb⟩ := exec_carried hs hi hp hl hu
  have htab : t.tables = tabs := harb.tables
  have hsc : t.sc = { s.sc with markCheck := t.tables.check } := by
    rw [htab]
    exact harb.sc
  refine ⟨t, ht, htab, hsc, harb.ti.trans (reply_setTables_ti hc _ _), ?_⟩
  rw [harb.ti, harb.tables, harb.sc]
  exact harb

end served

/-! ### MAP_INSERT (R24) -/

section insert
variable {e : MapEntry} {s : State}

theorem mapInsert_badValue (he : e.inRange = false) : mapInsert e s = (.badValue, [], s) := by simp [mapInsert, he]

theorem mapInsert_overlap (he : e.inRange = true) (hsh : s.tables.map.any (fun x => x.shares e) = true) :
    mapInsert e s = (.overlap, [], s) := by
  simp only [mapInsert, he, hsh, Bool.not_true, Bool.false_eq_true, if_true, if_false]

theorem mapInsert_full (he : e.inRange = true) (hsh : s.tables.map.any (fun x => x.shares e) = false)
    (hfull : 2048 ≤ s.tables.map.length) : mapInsert e s = (.full, [], s) := by
  have hsize : Config.mapSize ≤ s.tables.map.length := hfull
  simp only [mapInsert, he, hsh, hsize, Bool.not_true, Bool.false_eq_true, if_true, if_false]

theorem mapInsert_ok (he : e.inRange = true) (hsh : s.tables.map.any (fun x => x.shares e) = false)
    (hroom : s.tables.map.length < 2048) : mapInsert e s =
      (.ok, nat16 (placeIndex s.tables.map e), withMap s (insertEntry s.tables.map e)) := by
  have hsize : ¬ Config.mapSize ≤ s.tables.map.length := Nat.not_le.2 hroom
  simp only [mapInsert, he, hsh, hsize, Bool.not_true, Bool.false_eq_true, if_false]

end insert

/-- Settles O39, by the three tests of R24 in order. -/
theorem mapInsertAnswered : Obligations.MapInsertAnswered := by
  unfold Obligations.MapInsertAnswered
  intro s src id n f1 f2 l1 l2 z1 z2 hs hlock e he InRange Shares hin hsh
  have hp : parseMgmt opMapInsert [n, f1, f2, l1, l2, z1, z2] = .ok (.mapInsert e) := by
    subst he
    rfl
  have hl : ((MgmtReq.mapInsert e).locked && s.lockHolds) = false := by simp [hlock]
  have hcarry : ∀ {c : MgmtResult} {d : List Byte} {u : State}, mapInsert e s = (c, d, u) →
      carryOut src id (.mapInsert e) s = reply src id c d u := fun h => by simp only [carryOut, h]
  rw [← MapEntry.inRange_iff] at hin
  rw [← any_shares_iff] at hsh
  rw [hin, hsh, Bool.not_eq_true, Bool.not_eq_true]
  refine ⟨fun hr => ?_, fun hr hx => ?_, fun hr hx hfull => ?_, fun hr hx hroom => ?_⟩
  · exact exec_carried hs rfl hp hl (hcarry (mapInsert_badValue hr))
  · exact exec_carried hs rfl hp hl (hcarry (mapInsert_overlap hr hx))
  · exact exec_carried hs rfl hp hl (hcarry (mapInsert_full hr hx hfull))
  · obtain ⟨t, ht, htab, hsc, hti, harb⟩ :=
      exec_writesTables (i := .mapInsert src id _) hs rfl hp hl (hcarry (mapInsert_ok hr hx hroom)) rfl
    exact ⟨t, _, ht, rfl, htab, hsc, hti, harb⟩

/-! ### MAP_DELETE and MAP_CLEAR (R25, R27) -/

section delete
variable {n f : Nat} {s : State}

theorem mapDelete_badValue (h : n = 0 ∨ 120 < n ∨ 511 < f) : mapDelete n f s = (.badValue, s) := if_pos h

theorem mapDelete_notFound (h : ¬ (n = 0 ∨ 120 < n ∨ 511 < f))
    (hno : ∀ x ∈ s.tables.map, ¬ (x.node = n ∧ x.first = f)) : mapDelete n f s = (.notFound, s) := by
  have hany : ¬ (s.tables.map.any (fun e => e.startsAt n f)) = true := by
    simpa only [List.any_eq_true, MapEntry.startsAt_iff, not_exists, not_and] using hno
  rw [mapDelete, if_neg h, if_neg hany]

theorem mapDelete_ok (h : ¬ (n = 0 ∨ 120 < n ∨ 511 < f)) {e : MapEntry} (he : e ∈ s.tables.map)
    (hst : e.startsAt n f = true) :
    mapDelete n f s = (.ok, withMap s (s.tables.map.filter (fun e => !(e.startsAt n f)))) := by
  rw [mapDelete, if_neg h, if_pos (List.any_eq_true.2 ⟨e, he, hst⟩)]

end delete

/-- Settles O40: in a map in order the entry removed is the only one that covers its points. -/
theorem mapDeleteAndClearAnswered : Obligations.MapDeleteAndClearAnswered := by
  unfold Obligations.MapDeleteAndClearAnswered
  intro s src id n h l hs hlock
  have hl : ∀ k f, ((MgmtReq.mapDelete k f).locked && s.lockHolds) = false := fun _ _ => by simp [hlock]
  have hcarry : ∀ {k f : Nat} {a : MgmtResult × State}, mapDelete k f s = a →
      carryOut src id (.mapDelete k f) s = answer src id a := fun h => by rw [carryOut, h]
  refine ⟨fun hbad => ?_, fun h1 h2 h3 hno => ?_, fun before e after h1 h2 h3 hord hmap hnode hfirst => ?_, ?_⟩
  · exact exec_carried hs rfl rfl (hl _ _) (hcarry (mapDelete_badValue hbad))
  · exact exec_carried hs rfl rfl (hl _ _) (hcarry (mapDelete_notFound (by omega) hno))
  · have hst : e.startsAt n.toNat (num16 h l) = true := (e.startsAt_iff _ _).2 ⟨hnode, hfirst⟩
    have hdel := mapDelete_ok (s := s) (by omega : ¬ (n.toNat = 0 ∨ 120 < n.toNat ∨ 511 < num16 h l))
      (by simp [hmap]) hst
    rw [hmap] at hord
    rw [hmap, filter_startsAt hord hst] at hdel
    obtain ⟨t, ht, htab, hsc, hti, harb⟩ :=
      exec_writesTables (i := .mapDelete src id [n, h, l]) hs rfl rfl (hl _ _) (hcarry hdel) rfl
    refine ⟨t, ht, htab, hsc, hti, fun q hq hq' => ?_, harb⟩
    have hcov : e.covers e.node q = true := (e.covers_iff _ q).2 ⟨rfl, hq, hq'⟩
    have hnone := hord.not_covers_of_split hcov
    rw [State.resolve_uncovered (by rwa [htab]), htab]
  · obtain ⟨t, ht, htab, hsc, hti, harb⟩ := exec_writesTables (i := .mapClear src id []) (d := []) hs rfl
      (r := .mapClear) rfl (by simp [hlock]) rfl rfl
    refine ⟨t, ht, htab, hsc, hti, fun m q => ?_, harb⟩
    rw [State.resolve_uncovered (by simp [htab]), htab]

/-! ### TABLE_WRITE to the point map (R26) -/

/-- A number of 16 bits read back from its two bytes. -/
theorem num16_nat16 {n : Nat} (h : n < 65536) :
    num16 ((BitVec.ofNat 16 n).extractLsb' 8 8) ((BitVec.ofNat 16 n).extractLsb' 0 8) = n := by
  simp only [num16, BitVec.extractLsb'_toNat, BitVec.toNat_ofNat, Nat.shiftRight_eq_div_pow]
  omega

/-- A map entry whose fields fit theirs reads back from its bytes (10.3). -/
theorem readMapEntry_bytes {e : MapEntry} (hn : e.node < 256) (hf : e.first < 65536) (hl : e.last < 65536)
    (hz : e.zone < 65536) : readMapEntry e.bytes = some e := by
  simp [MapEntry.bytes, nat16, be16, readMapEntry, toNat_byteOf hn, num16_nat16 hf, num16_nat16 hl, num16_nat16 hz]

section writeMap
variable {i : Nat} {e : MapEntry} {s : State}

theorem writeMap_badIndex (h : s.tables.map.length ≤ i) : writeMap i e s = (.badIndex, s) := if_pos h

theorem writeMap_badValue (h : i < s.tables.map.length) (he : ¬ e.inRange = true) : writeMap i e s = (.badValue, s) := by
  simp [writeMap, Nat.not_le.2 h, he]

theorem writeMap_overlap (hord : MapOrdered s.tables.map) (h : i < s.tables.map.length) (he : e.inRange = true)
    (hset : ¬ MapOrdered (s.tables.map.set i e)) : writeMap i e s = (.overlap, s) := by
  rw [mapOrdered_set_iff hord h he, Bool.not_eq_true] at hset
  simp only [writeMap, Nat.not_le.2 h, he, hset, Bool.not_true, Bool.not_false, Bool.false_eq_true, if_false, if_true]

theorem writeMap_ok (hord : MapOrdered s.tables.map) (h : i < s.tables.map.length) (he : e.inRange = true)
    (hset : MapOrdered (s.tables.map.set i e)) : writeMap i e s = (.ok, withMap s (s.tables.map.set i e)) := by
  rw [mapOrdered_set_iff hord h he] at hset
  simp only [writeMap, Nat.not_le.2 h, he, hset, Bool.not_true, Bool.false_eq_true, if_false]

end writeMap

/-! ### TABLE_WRITE to the node fallback table (R28) -/

section writeFallback
variable {n z : Nat} {s : State}

theorem writeFallback_badIndex (h : n = 0 ∨ 120 < n) : writeFallback n z s = (.badIndex, s) := if_pos h

theorem writeFallback_badValue (h : ¬ (n = 0 ∨ 120 < n)) (hz : 1023 < z) : writeFallback n z s = (.badValue, s) := by
  rw [writeFallback, if_neg h, if_pos hz]

theorem writeFallback_ok (h : ¬ (n = 0 ∨ 120 < n)) (hz : z ≤ 1023) : writeFallback n z s =
    (.ok, setTables { s.tables with fallback := Tab.put 0 s.tables.fallback n z } s) := by
  rw [writeFallback, if_neg h, if_neg (Nat.not_lt.2 hz)]

end writeFallback

/-- Settles O41: an entry fits between its neighbours exactly when the map it makes is in order. -/
theorem mapAndFallbackWriteAnswered : Obligations.MapAndFallbackWriteAnswered := by
  unfold Obligations.MapAndFallbackWriteAnswered
  refine ⟨?_, ?_⟩
  · intro s src id h l e hs hlock hord hn hf hla hz
    have hp : parseMgmt opTableWrite (tPointMap :: h :: l :: e.bytes) = .ok (.writeMap (num16 h l) e) := by
      have hread := readMapEntry_bytes hn hf hla hz
      show Parsed.ofOption ((readMapEntry e.bytes).map (.writeMap (num16 h l))) = _
      rw [hread]
      rfl
    have hl : ((MgmtReq.writeMap (num16 h l) e).locked && s.lockHolds) = false := by simp [hlock]
    have hcarry : ∀ {a : MgmtResult × State}, writeMap (num16 h l) e s = a →
        carryOut src id (.writeMap (num16 h l) e) s = answer src id a := fun h => by rw [carryOut, h]
    rw [← MapEntry.inRange_iff]
    refine ⟨fun hi => ?_, fun hi hr => ?_, fun hi hr hset => ?_, fun hi hr hset => ?_⟩
    · exact exec_carried hs rfl hp hl (hcarry (writeMap_badIndex hi))
    · exact exec_carried hs rfl hp hl (hcarry (writeMap_badValue hi hr))
    · exact exec_carried hs rfl hp hl (hcarry (writeMap_overlap hord hi hr hset))
    · exact exec_writesTables hs rfl hp hl (hcarry (writeMap_ok hord hi hr hset)) rfl
  · intro s src id h l y z hs hlock
    have hp : parseMgmt opTableWrite (tNodeFallback :: [h, l, y, z]) = .ok (.writeFallback (num16 h l) (num16 y z)) :=
      rfl
    have hl : ((MgmtReq.writeFallback (num16 h l) (num16 y z)).locked && s.lockHolds) = false := by simp [hlock]
    have hcarry : ∀ {a : MgmtResult × State}, writeFallback (num16 h l) (num16 y z) s = a →
        carryOut src id (.writeFallback (num16 h l) (num16 y z)) s = answer src id a := fun h => by rw [carryOut, h]
    refine ⟨fun hi => ?_, fun hi hi' hz => ?_, fun hi hi' hz => ?_⟩
    · exact exec_carried hs rfl hp hl (hcarry (writeFallback_badIndex hi))
    · exact exec_carried hs rfl hp hl (hcarry (writeFallback_badValue (by omega) hz))
    · obtain ⟨t, ht, htab, hsc, hti, harb⟩ :=
        exec_writesTables (i := .tableWriteNodeFallback src id _) hs rfl hp hl
          (hcarry (writeFallback_ok (by omega) hz)) rfl
      have hget : ∀ n, Tab.get 0 t.tables.fallback n =
          if n = num16 h l then num16 y z else Tab.get 0 s.tables.fallback n := by
        intro n
        rw [htab]
        exact Tab.get_put ..
      refine ⟨t, ht, hget, by rw [htab], hsc, hti, fun hz0 ev hev hunc => ?_, harb⟩
      have hres : t.resolve ev.node ev.point = 0 := by
        rw [State.resolve_uncovered fun m hm hc => ?_, hget, if_pos hev, hz0]
        obtain ⟨hnode, hpoint⟩ := (m.covers_iff _ _).1 hc
        exact hunc m hm hnode hpoint
      exact pointEvent_orphan hres.symm (.inl rfl)

/-! ### TABLE_READ (R29, R163) -/

/-- A TABLE_READ is never locked: it answers what its table gives, or the table's code alone. -/
theorem exec_tableRead {s : State} {src : Byte} (hs : Serves s src) (id : Word16) {k h l : Byte} {tab : TableId}
    (hk : TableId.ofCode k = some tab) {c : MgmtResult} {d : List Byte} (hr : readTable tab (num16 h l) s = (c, d)) :
    ∃ t, exec (.tableRead src id [k, h, l]) s = .next t ∧ ArbitersOnly (reply src id c d s) t := by
  have hp : parseMgmt opTableRead [k, h, l] = .ok (.tableRead tab (num16 h l)) := by
    simp [parseMgmt, readTabled, hk, Parsed.ofOption]
  exact exec_carried hs rfl hp rfl (by rw [carryOut, hr])

theorem linkOfNat_eq_none {n : Nat} (h : n = 0 ∨ 4 < n) : linkOfNat n = none := by
  unfold linkOfNat
  rw [if_neg (by omega), if_neg (by omega), if_neg (by omega), if_neg (by omega)]

/-- An index out of its table's range reads BAD_INDEX. -/
theorem readTable_badIndex (s : State) {i : Nat} {k : Byte}
    (h : k = 0x02#8 ∧ (i = 0 ∨ 120 < i) ∨ k = 0x03#8 ∧ (i = 0 ∨ 1023 < i) ∨ k = 0x04#8 ∧ 3 < i ∨ k = 0x05#8 ∧ 511 < i ∨
      k = 0x06#8 ∧ (i = 0 ∨ 4 < i) ∨ k = 0x07#8 ∧ i ≠ 0) :
    ∃ tab, TableId.ofCode k = some tab ∧ readTable tab i s = (.badIndex, []) := by
  rcases h with ⟨rfl, h⟩ | ⟨rfl, h⟩ | ⟨rfl, h⟩ | ⟨rfl, h⟩ | ⟨rfl, h⟩ | ⟨rfl, h⟩
  · exact ⟨.nodeFallback, rfl, if_neg (by omega)⟩
  · refine ⟨.zoneDefinition, rfl, if_neg ?_⟩
    simp only [zoneNumber, Bool.and_eq_true, decide_eq_true_eq]
    omega
  · exact ⟨.hazardBonus, rfl, if_neg (by omega)⟩
  · exact ⟨.sheetDirectory, rfl, if_neg (by omega)⟩
  · exact ⟨.crewProfile, rfl, by rw [readTable, linkOfNat_eq_none h]⟩
  · exact ⟨.configuration, rfl, if_neg h⟩

/-- Settles O44, table by table. -/
theorem tableReadAnswered : Obligations.TableReadAnswered := by
  unfold Obligations.TableReadAnswered
  intro s src id h l hs
  refine ⟨fun e he => ?_, fun hi => ?_, fun h1 h2 => ?_, fun h1 h2 => ?_, fun hi => ?_, fun hi => ?_, fun c hc => ?_,
    fun hi => ?_, fun k hk => ?_⟩
  · exact exec_tableRead hs id (tab := .pointMap) rfl (by rw [readTable, he])
  · exact exec_tableRead hs id (tab := .pointMap) rfl (by rw [readTable, List.getElem?_eq_none hi])
  · exact exec_tableRead hs id (tab := .nodeFallback) rfl (if_pos ⟨h1, h2⟩)
  · exact exec_tableRead hs id (tab := .zoneDefinition) rfl (if_pos (by simp [zoneNumber, h1, h2]))
  · exact exec_tableRead hs id (tab := .hazardBonus) rfl (if_pos hi)
  · exact exec_tableRead hs id (tab := .sheetDirectory) rfl (if_pos hi)
  · exact exec_tableRead hs id (tab := .crewProfile) rfl (by rw [readTable, hc])
  · exact exec_tableRead hs id (tab := .configuration) rfl (if_pos hi)
  · obtain ⟨tab, hcode, hread⟩ := readTable_badIndex s hk
    exact exec_tableRead hs id hcode hread

end Sys2Proof.Machine
end

section
/-! Every step keeps the retained tables within their ranges and the point map in order (R19, R20, R33, R133, R168, R169,
R182): what one event can write in them, which events write it, and that each such write keeps the ranges. -/

namespace Sys2Proof.Machine

/-! ### What one event can write in the retained tables -/

/-- The tables after one event that writes them, `r` before: one write that a management request makes once its tests have
passed (R24 to R28, R134, R164 to R169), the configuration loaded at the end of a cold start (R182), or the cold values at
its beginning (R181). -/
inductive TableWrite (r : Retained) : Retained → Prop
  | inserted {e : MapEntry} (he : e.inRange = true) (hfree : ∀ x ∈ r.map, ¬ x.shares e = true)
      (hroom : r.map.length < 2048) : TableWrite r { r with map := insertEntry r.map e }
  | deleted (n f : Nat) : TableWrite r { r with map := r.map.filter (fun e => !e.startsAt n f) }
  | cleared : TableWrite r { r with map := [] }
  | replaced {i : Nat} {e : MapEntry} (hi : i < r.map.length) (he : e.inRange = true)
      (hfit : (fitsAfter (entryBelow r.map i) e && fitsBefore e r.map[i + 1]?) = true) :
      TableWrite r { r with map := r.map.set i e }
  | fallback {n z : Nat} (h1 : 1 ≤ n) (h2 : n ≤ 120) (hz : z ≤ 1023) :
      TableWrite r { r with fallback := Tab.put 0 r.fallback n z }
  | zoneDef {z : Nat} {d : ZoneDef} (h1 : 1 ≤ z) (h2 : z ≤ 1023) (hd : d.inRange = true) :
      TableWrite r { r with defs := Tab.put ZoneDef.cold r.defs z d }
  | sheet {i : Nat} {x : SheetRec} (hi : i ≤ 511) (hx : x.inRange = true) :
      TableWrite r { r with dir := Tab.put SheetRec.cold r.dir i x }
  | profile (c : Link) (p : Profile) : TableWrite r { r with profiles := r.profiles.set c p }
  | bonus (cls : Nat) {b : Nat} (hb : b ≤ 80) : TableWrite r { r with config := r.config.withBonus cls b }
  | config {t : ConfigTable} (hin : t.inRange = true) (hdiff : t.nodesDiffer = true) (source : ConfigSource) :
      TableWrite r { r with config := t, source := source }
  | cold : TableWrite r Retained.cold

/-- The tables after one event: as they were, or written once. -/
abbrev Retained.Becomes : Retained → Retained → Prop := Relation.ReflGen TableWrite

theorem Retained.Becomes.of_eq {r r' : Retained} (h : r' = r) : r.Becomes r' := h ▸ .refl

theorem CrewSideOnly.tables {s t : State} (h : CrewSideOnly s t) : t.tables = s.tables := by rw [h]

/-- An effect on the crews' side leaves the tables. -/
theorem CrewSideOnly.becomes {s t : State} (h : CrewSideOnly s t) : s.tables.Becomes t.tables := .of_eq h.tables

/-! ### Effects that leave the tables -/

@[simp] theorem trunkChanged_tables (old new : TrunkState) (s : State) : (trunkChanged old new s).tables = s.tables := by
  unfold trunkChanged
  dsimp only
  split
  · rfl
  · split
    · simp
    · split <;> simp

@[simp] theorem setUp_tables (p : Port) (up : Bool) (s : State) : (setUp p up s).tables = s.tables := by
  simp [setUp]

@[simp] theorem resyncDone_tables (s : State) : (resyncDone s).tables = s.tables := by
  unfold resyncDone
  split <;> simp

@[simp] theorem pointEvent_tables (e : PointEvent) (s : State) : (pointEvent e s).tables = s.tables := by
  unfold pointEvent
  dsimp only
  split
  · rfl
  · exact (crewSideOnly_zoneEvent _ e s).tables

@[simp] theorem profileWritten_tables (c : Link) (s : State) : (profileWritten c s).tables = s.tables := by
  unfold profileWritten
  split <;> simp

@[simp] theorem setConfig_tables (t : ConfigTable) (s : State) :
    (setConfig t s).tables = { s.tables with config := t } :=
  (pictureOnly_takeConfigChange _ _).crewSideOnly.tables

@[simp] theorem planStage_tables (o : Nat) (bs : List Byte) (s : State) : (planStage o bs s).2.tables = s.tables := by
  unfold planStage
  split <;> rfl

@[simp] theorem completeRequest_tables (c : MgmtResult) (d : List Byte) (s : State) :
    (completeRequest c d s).tables = s.tables := by
  unfold completeRequest
  split <;> simp

@[simp] theorem programDone_tables (ok : Bool) (s : State) : (programDone ok s).tables = s.tables := by
  unfold programDone
  split
  · cases ok <;> simp [finishProgram]
  · rfl

@[simp] theorem planReadDone_tables (ok : Bool) (s : State) : (planReadDone ok s).tables = s.tables := by
  unfold planReadDone
  split
  · cases ok <;> simp [finishRead]
  · rfl

/-! ### The writes of management requests (R24 to R28, R134, R164 to R169) -/

theorem becomes_mapInsert (e : MapEntry) (s : State) : s.tables.Becomes (mapInsert e s).2.2.tables := by
  by_cases he : e.inRange = true
  · by_cases hsh : s.tables.map.any (fun x => x.shares e) = true
    · rw [mapInsert_overlap he hsh]
    · rw [Bool.not_eq_true] at hsh
      by_cases hroom : s.tables.map.length < 2048
      · rw [mapInsert_ok he hsh hroom]
        exact .single (.inserted he (by simpa using hsh) hroom)
      · rw [mapInsert_full he hsh (Nat.not_lt.1 hroom)]
  · rw [mapInsert_badValue (by simpa using he)]

theorem becomes_mapDelete (n f : Nat) (s : State) : s.tables.Becomes (mapDelete n f s).2.tables := by
  unfold mapDelete
  split
  · exact .refl
  · split
    · exact .single (.deleted n f)
    · exact .refl

theorem becomes_mapClear (s : State) : s.tables.Becomes (mapClear s).tables := .single .cleared

theorem becomes_writeMap (i : Nat) (e : MapEntry) (s : State) : s.tables.Becomes (writeMap i e s).2.tables := by
  unfold writeMap
  dsimp only
  split
  · exact .refl
  · rename_i hi
    split
    · exact .refl
    · rename_i he
      split
      · exact .refl
      · rename_i hfit
        exact .single (.replaced (Nat.not_le.1 hi) (by simpa using he) (by simpa using hfit))

theorem becomes_writeFallback (n z : Nat) (s : State) : s.tables.Becomes (writeFallback n z s).2.tables := by
  unfold writeFallback
  split
  · exact .refl
  · split
    · exact .refl
    · exact .single (.fallback (by omega) (by omega) (by omega))

theorem becomes_writeZoneDef (z : Nat) (d : ZoneDef) (s : State) : s.tables.Becomes (writeZoneDef z d s).2.tables := by
  unfold writeZoneDef
  split
  · exact .refl
  · rename_i hz
    have hz' : 1 ≤ z ∧ z ≤ 1023 := by simpa [zoneNumber, Nat.one_le_iff_ne_zero] using hz
    split
    · exact .refl
    · rename_i hd
      split
      · exact .refl
      · exact .single (.zoneDef hz'.1 hz'.2 (by simpa using hd))

theorem becomes_writeBonus (cls b : Nat) (s : State) : s.tables.Becomes (writeBonus cls b s).2.tables := by
  unfold writeBonus
  split
  · exact .refl
  · split
    · exact .refl
    · rw [setConfig_tables]
      exact .single (.bonus cls (by omega))

/-- A record that passes the tests of the sheet directory is of a sheet, its fields in range (R134). -/
theorem writeSheetTests_ok {s : State} {i : Nat} {x : SheetRec} (h : writeSheetTests s i x = .ok) :
    i ≤ 511 ∧ x.inRange = true := by
  unfold writeSheetTests at h
  split at h
  · cases h
  · split at h
    · cases h
    · exact ⟨by omega, by simp_all⟩

theorem becomes_writeSheet (i : Nat) (x : SheetRec) (s : State) : s.tables.Becomes (writeSheet i x s).2.tables := by
  unfold writeSheet
  split
  · rename_i h
    obtain ⟨hi, hx⟩ := writeSheetTests_ok h
    exact .single (.sheet hi hx)
  · exact .refl

theorem becomes_writeProfile (n : Nat) (p : Profile) (s : State) : s.tables.Becomes (writeProfile n p s).2.tables := by
  unfold writeProfile
  split
  · exact .refl
  · rename_i c _
    rw [profileWritten_tables]
    exact .single (.profile c p)

theorem becomes_writeConfig (src : Byte) (id : Word16) (i : Nat) (t : ConfigTable) (s : State) :
    s.tables.Becomes (writeConfig src id i t s).tables := by
  have refused : ∀ c : MgmtResult, s.tables.Becomes (reply src id c [] s).tables := fun c =>
    .of_eq (reply_tables src id c [] s)
  unfold writeConfig
  split
  · exact refused _
  · split
    · exact refused _
    · rename_i hin
      split
      · exact refused _
      · rename_i hdiff
        have written : s.tables.Becomes { s.tables with config := t } :=
          .single (.config (by simpa using hin) (by simpa using hdiff) s.tables.source)
        split <;> simpa using written

/-! ### A management request carried out and taken (R157, R158) -/

theorem becomes_carryOut (src : Byte) (id : Word16) (r : MgmtReq) (s : State) :
    s.tables.Becomes (carryOut src id r s).tables := by
  have answered : ∀ {a : MgmtResult × State}, s.tables.Becomes a.2.tables → s.tables.Becomes (answer src id a).tables :=
    fun h => by rwa [answer, reply_tables]
  have kept : ∀ {t : State} {c : MgmtResult} {d : List Byte}, t.tables = s.tables →
      s.tables.Becomes (reply src id c d t).tables := fun h => .of_eq ((reply_tables ..).trans h)
  have requested : ∀ {op : Byte} {c : MgmtResult} {w : WaitingOp},
      s.tables.Becomes (readerRequest src id op c w s).tables := by
    intro op c w
    unfold readerRequest
    split
    · exact .refl
    · exact kept rfl
  have linked : ∀ {f : Link → State → State} {n : Nat}, (∀ c, CrewSideOnly s (f c s)) →
      s.tables.Becomes (linkCommand f src id n s).tables := by
    intro f n hf
    unfold linkCommand
    split
    · exact kept rfl
    · exact kept (hf _).tables
  cases r with
  | tableRead t i => exact kept rfl
  | writeMap i e => exact answered (becomes_writeMap i e s)
  | writeFallback i z => exact answered (becomes_writeFallback i z s)
  | writeZoneDef i d => exact answered (becomes_writeZoneDef i d s)
  | writeBonus i b => exact answered (becomes_writeBonus i b s)
  | writeSheet i x => exact answered (becomes_writeSheet i x s)
  | writeProfile i p => exact answered (becomes_writeProfile i p s)
  | writeConfig i t => exact becomes_writeConfig src id i t s
  | mapInsert e => exact answered (a := ((mapInsert e s).1, (mapInsert e s).2.2)) (becomes_mapInsert e s)
  | mapDelete n f => exact answered (becomes_mapDelete n f s)
  | mapClear => exact answered (a := (.ok, mapClear s)) (becomes_mapClear s)
  | planStage o bs => exact answered (.of_eq (planStage_tables o bs s))
  | planCommit p => exact requested
  | planRead p o n => exact requested
  | zoneRead z =>
    simp only [carryOut]
    split <;> exact kept rfl
  | statusRead clear => exact kept (by split <;> rfl)
  | pictureClear => exact kept ((callResync_tables _).trans (crewSideOnly_pictureClear s).tables)
  | setRotation n v =>
    simp only [carryOut, rotationCommand]
    split
    · exact kept rfl
    · split
      · exact kept rfl
      · exact kept (crewSideOnly_setRotation _ v s).tables
  | linkDisable n => exact linked (fun c => crewSideOnly_disableLink c s)
  | linkEnable n => exact linked (fun c => crewSideOnly_enableLink c s)
  | configSave => exact .refl

theorem becomes_takeMgmt (src : Byte) (id : Word16) (op : Byte) (args : List Byte) (s : State) :
    s.tables.Becomes (takeMgmt src id op args s).tables := by
  have refused : ∀ c : MgmtResult, s.tables.Becomes (reply src id c [] s).tables := fun c =>
    .of_eq (reply_tables src id c [] s)
  unfold takeMgmt
  split
  · exact refused _
  · split
    · exact refused _
    · split
      · exact refused _
      · exact refused _
      · exact refused _
      · split
        · exact refused _
        · exact becomes_carryOut src id _ s

theorem becomes_whenRunning {s : State} {f : State → State} (h : s.tables.Becomes (f s).tables) :
    s.tables.Becomes (whenRunning s f).tables := by
  unfold whenRunning
  split
  · exact h
  · exact .refl

theorem becomes_ite {r : Retained} {s t : State} {c : Prop} [Decidable c] (hs : r.Becomes s.tables)
    (ht : r.Becomes t.tables) : r.Becomes (if c then t else s).tables := by
  split
  · exact ht
  · exact hs

/-- What ends an event leaves the tables. -/
theorem becomes_settle {r : Retained} {s : State} (h : r.Becomes s.tables) : r.Becomes (settle s).tables := by
  rwa [settle_tables]

theorem becomes_mgmtRow (src : Byte) (id : Word16) (op : Byte) (args : List Byte) (s : State) :
    s.tables.Becomes (mgmtRow src id op args s).tables :=
  becomes_whenRunning (becomes_settle (becomes_takeMgmt src id op args s))

/-! ### A frame received (R1 to R12): of what it hands, only a management request can write the tables -/

theorem becomes_hand (f : Frame) (s : State) : s.tables.Becomes (hand f s).tables := by
  unfold hand
  split
  · split
    · exact .of_eq (pointEvent_tables _ s)
    · exact .refl
  · split
    · exact (crewSideOnly_panelReset s).becomes
    · split
      · split
        · exact (crewSideOnly_zoneIsolate _ _ s).becomes
        · exact .refl
      · split
        · split <;> exact .refl
        · split
          · exact .of_eq (resyncDone_tables s)
          · split
            · unfold takeMgmtPayload
              split
              · exact becomes_takeMgmt _ _ _ _ s
              · exact .refl
            · exact .refl

theorem becomes_handTests (p : Port) (f : Frame) (s : State) : s.tables.Becomes (handTests p f s).tables := by
  unfold handTests
  split
  · exact .refl
  · split
    · exact .refl
    · exact becomes_hand f (setSeq f s)

theorem becomes_dispatch (p : Port) (f : Frame) (s : State) : s.tables.Becomes (dispatch p f s).tables := by
  unfold dispatch
  dsimp only
  split
  · exact .refl
  · split
    · exact .refl
    · split
      · exact becomes_ite .refl (becomes_handTests p f s)
      · exact becomes_ite .refl (becomes_handTests p f (s.modPort (otherPort p) (PortUnit.placeRepeat f)))

theorem becomes_soundFrame (p : Port) (f : Frame) (s : State) : s.tables.Becomes (soundFrame p f s).tables := by
  have h := becomes_dispatch p f ((setUp p true s).modPort p (fun u => { u with stage := some f }))
  rw [State.modPort_tables, setUp_tables] at h
  exact becomes_settle (by rwa [State.modPort_tables])

theorem becomes_trunkFrameDone (p : Port) (buf : List Byte) (reg : Word16) (s : State) :
    s.tables.Becomes (trunkFrameDone p buf reg s).tables := by
  unfold trunkFrameDone
  dsimp only
  split
  · split
    · exact becomes_soundFrame p _ (s.modPort p (fun u => { u with asm := .hunting }))
    · exact .refl
  · exact .refl

theorem becomes_trunkByte (p : Port) (b : Byte) (s : State) : s.tables.Becomes (trunkByte p b s).tables := by
  unfold trunkByte
  dsimp only
  split
  · exact .refl
  · split
    · exact becomes_trunkFrameDone p _ _ s
    · exact .refl

theorem becomes_trunkChar (p : Port) (ch : LineChar) (s : State) : s.tables.Becomes (trunkChar p ch s).tables := by
  unfold trunkChar
  dsimp only
  split
  · exact .refl
  · cases (s.port p).asm.take ch with
    | byte b => exact becomes_trunkByte p b (s.modPort p (fun u => { u with receiver := receiverAfter ch }))
    | _ => exact .refl

/-! ### The configuration a cold start loads (R182) -/

theorem orDefault_ok {ok : Nat → Bool} (n : Nat) {d : Nat} (hd : ok d = true) : ok (orDefault ok n d) = true := by
  unfold orDefault
  split
  · assumption
  · exact hd

/-- Each field loaded on its own is in range, since each default is (R182 step 4). -/
theorem ConfigTable.loaded_inRange (t : ConfigTable) : t.loaded.inRange = true := by
  simp only [ConfigTable.inRange, ConfigTable.loaded, Bool.and_eq_true]
  refine ⟨⟨⟨⟨⟨⟨⟨⟨⟨⟨⟨?_, ?_⟩, ?_⟩, ?_⟩, ?_⟩, ?_⟩, ?_⟩, ?_⟩, ?_⟩, ?_⟩, ?_⟩, ?_⟩ <;> exact orDefault_ok _ (by decide)

theorem ConfigTable.nodesSettled_nodesDiffer (t : ConfigTable) : t.nodesSettled.nodesDiffer = true := by
  unfold ConfigTable.nodesSettled
  split
  · assumption
  · rfl

theorem ConfigTable.nodesSettled_inRange {t : ConfigTable} (h : t.inRange = true) : t.nodesSettled.inRange = true := by
  unfold ConfigTable.nodesSettled
  split
  · exact h
  · simp only [ConfigTable.inRange, Bool.and_eq_true] at h ⊢
    simp only [h, and_true]
    decide

/-- What a page gives is in range, its own node differing from the others (R182 steps 2 to 5). -/
theorem judgePage_ok (bs : List Byte) : (judgePage bs).1.inRange = true ∧ (judgePage bs).1.nodesDiffer = true := by
  have default_ok : ConfigTable.default.inRange = true ∧ ConfigTable.default.nodesDiffer = true := by decide
  unfold judgePage
  split
  · split
    · split
      · rename_i t _
        exact ⟨ConfigTable.nodesSettled_inRange t.loaded_inRange, t.loaded.nodesSettled_nodesDiffer⟩
      · exact default_ok
    · exact default_ok
  · exact default_ok

theorem State.loadConfig_ok (s : State) (ok : Bool) :
    (s.loadConfig ok).1.inRange = true ∧ (s.loadConfig ok).1.nodesDiffer = true := by
  unfold State.loadConfig
  split
  · exact judgePage_ok _
  · decide

/-! ### Starts (R179 to R183) -/

theorem becomes_beginStart (s : State) : s.tables.Becomes (beginStart s).tables := by
  obtain ⟨-, -, h, -⟩ | ⟨-, -, h⟩ := beginStart_kind s
  · exact .of_eq h
  · rw [h]
    exact .single .cold

theorem becomes_finishStart (ok : Bool) (s : State) : s.tables.Becomes (finishStart ok s).tables := by
  rw [finishStart_tables]
  cases hk : s.sc.kind with
  | warm => rw [settleTables_warm hk]
  | cold =>
    rw [settleTables_cold hk]
    obtain ⟨hin, hdiff⟩ := s.loadConfig_ok ok
    exact .single (.config hin hdiff _)

/-! ### Every command -/

/-- A command leaves the retained tables or writes them once. -/
theorem becomes_exec (i : Instr) (s : State) : ∃ t, exec i s = .next t ∧ s.tables.Becomes t.tables := by
  have crews : ∀ {f : State → State}, CrewSideOnly s (f s) → s.tables.Becomes (whenRunning s f).tables :=
    fun h => becomes_whenRunning h.becomes
  have crewsWhen : ∀ {c : Prop} [Decidable c] {t : State}, CrewSideOnly s t →
      s.tables.Becomes (if c then settle t else s).tables := fun h => becomes_ite .refl (becomes_settle h.becomes)
  cases i with
  | trunkFrameComplete p b | trunkCharacterReceived p b => exact ⟨_, rfl, becomes_whenRunning (becomes_trunkChar p _ s)⟩
  | trunkFrameDiscard p ch => exact ⟨_, rfl, becomes_whenRunning (becomes_trunkChar p ch s)⟩
  | trunkPartialFrameTimeout p => exact ⟨_, rfl, becomes_whenRunning (becomes_ite .refl .refl)⟩
  | breakTimerExpiry p | silenceTimerExpiry p =>
    exact ⟨_, rfl, becomes_whenRunning (becomes_ite .refl (becomes_settle (.of_eq (setUp_tables p false s))))⟩
  | stripHoldExpiry | uptimeTick => exact ⟨_, rfl, becomes_whenRunning .refl⟩
  | trunkTransmitComplete p => exact ⟨_, rfl, becomes_whenRunning .refl⟩
  | trunkReceiveLevelChange p l => exact ⟨_, rfl, .refl⟩
  | verifyWindowExpiry z => exact ⟨_, rfl, becomes_whenRunning (crewsWhen (crewSideOnly_commitZone z _ s))⟩
  | ageStep z => exact ⟨_, rfl, becomes_whenRunning (crewsWhen
      (CrewSideOnly.trans (by rfl) (pictureOnly_recomputeAndReport _ _).crewSideOnly))⟩
  | offerTimeout c => exact ⟨_, rfl, becomes_whenRunning (crewsWhen
      (CrewSideOnly.trans (by rfl) (crewSideOnly_offerStep c _)))⟩
  | resyncTimeout =>
    exact ⟨_, rfl, becomes_whenRunning (becomes_ite .refl (becomes_settle (.of_eq (setStatus_tables _ _))))⟩
  | presenceChange c high | terminalReadyChange c high => exact ⟨_, rfl, .refl⟩
  | linkAttach a => exact ⟨_, rfl, becomes_whenRunning (crewsWhen (crewSideOnly_attachLink a.link a.rx s))⟩
  | linkDetach c =>
    exact ⟨_, rfl, becomes_whenRunning (becomes_ite .refl (crewSideOnly_leaveAttached c _ s).becomes)⟩
  | crewFrameComplete c b | receiveOverrun c b => exact ⟨_, rfl, crews (crewSideOnly_crewChar c _ s)⟩
  | crewFrameDiscard c ch => exact ⟨_, rfl, crews (crewSideOnly_crewChar c ch s)⟩
  | crewCharacterReceived c b =>
    exact ⟨_, rfl, crews ((crewSideOnly_rxBack c b.back s).trans (crewSideOnly_crewChar c _ _))⟩
  | crewPartialFrameTimeout c => exact ⟨_, rfl, becomes_whenRunning (becomes_ite .refl .refl)⟩
  | crewCharacterTaken c => exact ⟨_, rfl, crews (crewSideOnly_takeChar c s)⟩
  | crewFrameWritten c => exact ⟨_, rfl, crews (crewSideOnly_frameWritten c s)⟩
  | accept c | decline c | release c | sectors c | sheetReqById c | sheetReqByZone c | sheetStopNamed c | releaseTop c
  | poll c | list c | sheetStopAll c | unknownRequest c => exact ⟨_, rfl, (crewSideOnly_crewRow c _ _ s).becomes⟩
  | fillReadComplete => exact ⟨_, rfl, becomes_whenRunning (crewsWhen (crewSideOnly_fillComplete s))⟩
  | fillReadFail => exact ⟨_, rfl, becomes_whenRunning (crewsWhen (crewSideOnly_fillFail s))⟩
  | programComplete ok => exact ⟨_, rfl, becomes_whenRunning (.of_eq (programDone_tables ok s))⟩
  | planReadComplete ok => exact ⟨_, rfl, becomes_whenRunning (.of_eq (planReadDone_tables ok s))⟩
  | start => exact ⟨_, rfl, becomes_beginStart s⟩
  | startComplete ok => exact ⟨_, rfl, becomes_ite .refl (becomes_finishStart ok s)⟩
  | holdoverLow => exact ⟨_, rfl, becomes_ite .refl .refl⟩
  | mainPowerLoss => exact ⟨_, rfl, becomes_ite .refl (.of_eq (loseWorking_tables s))⟩
  | _ => exact ⟨_, exec_of_requestOf rfl s, becomes_mgmtRow _ _ _ _ s⟩

/-! ### Each write keeps the ranges -/

/-- The retained tables within their ranges, whatever the rest of the state. -/
def Retained.InRange (r : Retained) : Prop :=
  MapOrdered r.map ∧ (∀ e ∈ r.fallback, 1 ≤ e.1 ∧ e.1 ≤ 120 ∧ e.2 ≤ 1023) ∧
  (∀ e ∈ r.defs, 1 ≤ e.1 ∧ e.1 ≤ 1023 ∧ e.2.inRange = true) ∧ (∀ e ∈ r.dir, e.1 ≤ 511 ∧ e.2.inRange = true) ∧
  r.config.inRange = true ∧ r.config.nodesDiffer = true

theorem tablesInv_iff (s : State) : TablesInv s ↔ s.tables.InRange := Iff.rfl

/-- An entry of a table after a key has taken a value was there before, or is the one written. -/
theorem Tab.mem_put {α : Type} [DecidableEq α] {d v : α} {t : Tab α} {k : Nat} {e : Nat × α} (h : e ∈ Tab.put d t k v) :
    e = (k, v) ∨ e ∈ t := by
  unfold Tab.put at h
  split at h
  · exact .inr (List.mem_filter.1 h).1
  · exact (Tab.mem_place h).imp_right fun h => (List.mem_filter.1 h).1

/-- What holds of every entry of a table and of the entry written holds of every entry after the write. -/
theorem Tab.forall_mem_put {α : Type} [DecidableEq α] {P : Nat × α → Prop} {d v : α} {t : Tab α} {k : Nat}
    (h : ∀ e ∈ t, P e) (hkv : P (k, v)) : ∀ e ∈ Tab.put d t k v, P e := by
  intro e he
  rcases Tab.mem_put he with rfl | he
  · exact hkv
  · exact h e he

theorem ConfigTable.withBonus_inRange {t : ConfigTable} (h : t.inRange = true) (cls : Nat) {b : Nat} (hb : b ≤ 80) :
    (t.withBonus cls b).inRange = true := by
  have hok : okBonus b = true := decide_eq_true hb
  simp only [ConfigTable.inRange, Bool.and_eq_true] at h
  unfold ConfigTable.withBonus
  split
  · simp [ConfigTable.inRange, h, hok]
  · split
    · simp [ConfigTable.inRange, h, hok]
    · split <;> simp [ConfigTable.inRange, h, hok]

theorem ConfigTable.withBonus_nodesDiffer (t : ConfigTable) (cls b : Nat) :
    (t.withBonus cls b).nodesDiffer = t.nodesDiffer := by
  unfold ConfigTable.withBonus
  split
  · rfl
  · split
    · rfl
    · split <;> rfl

theorem Retained.cold_inRange : Retained.cold.InRange :=
  ⟨.nil, by decide, by decide, by decide, by decide, by decide⟩

/-- A write keeps every table within its ranges and the point map in order. -/
theorem TableWrite.keeps_inRange {r r' : Retained} (h : TableWrite r r') (hr : r.InRange) : r'.InRange := by
  obtain ⟨hmap, hfall, hdefs, hdir, hconf, hdiff⟩ := hr
  cases h with
  | inserted he hfree hroom => exact ⟨hmap.insertEntry hroom he hfree, hfall, hdefs, hdir, hconf, hdiff⟩
  | deleted n f => exact ⟨hmap.sublist List.filter_sublist, hfall, hdefs, hdir, hconf, hdiff⟩
  | cleared => exact ⟨.nil, hfall, hdefs, hdir, hconf, hdiff⟩
  | replaced hi he hfit => exact ⟨(mapOrdered_set_iff hmap hi he).2 hfit, hfall, hdefs, hdir, hconf, hdiff⟩
  | fallback h1 h2 hz => exact ⟨hmap, Tab.forall_mem_put hfall ⟨h1, h2, hz⟩, hdefs, hdir, hconf, hdiff⟩
  | zoneDef h1 h2 hd => exact ⟨hmap, hfall, Tab.forall_mem_put hdefs ⟨h1, h2, hd⟩, hdir, hconf, hdiff⟩
  | sheet hi hx => exact ⟨hmap, hfall, hdefs, Tab.forall_mem_put hdir ⟨hi, hx⟩, hconf, hdiff⟩
  | profile c p => exact ⟨hmap, hfall, hdefs, hdir, hconf, hdiff⟩
  | bonus cls hb =>
    exact ⟨hmap, hfall, hdefs, hdir, ConfigTable.withBonus_inRange hconf cls hb,
      (r.config.withBonus_nodesDiffer cls _).trans hdiff⟩
  | config hin hdiffer source => exact ⟨hmap, hfall, hdefs, hdir, hin, hdiffer⟩
  | cold => exact Retained.cold_inRange

theorem Retained.Becomes.keeps_inRange {r r' : Retained} (h : r.Becomes r') (hr : r.InRange) : r'.InRange := by
  cases h with
  | refl => exact hr
  | single hw => exact hw.keeps_inRange hr

/-- A step leaves the retained tables or writes them once. -/
theorem becomes_step {s t : State} (h : step s = .next t) : s.tables.Becomes t.tables := by
  unfold step at h
  split at h
  · obtain rfl := Host.Outcome.next.inj h
    exact .refl
  · rename_i c rest _
    obtain ⟨u, hu, hbecomes⟩ := becomes_exec c (s.withPending rest)
    obtain rfl := Host.Outcome.next.inj (hu.symm.trans h)
    exact hbecomes

/-- Settles O53: a step writes the retained tables at most once, and each write keeps them within their ranges. -/
theorem stepKeepsTablesInRange : Obligations.StepKeepsTablesInRange := by
  unfold Obligations.StepKeepsTablesInRange
  intro s t h ht
  rw [tablesInv_iff] at h ⊢
  exact (becomes_step ht).keeps_inRange h

end Sys2Proof.Machine
end

section
/-! What the crews' side of the controller can write: the crews, their links, the Sheet Streamer, and in the picture one
zone's attended-by set at a time (R77). Every event that is none of the picture's own is a run of such writes. -/

namespace Sys2Proof.Machine

/-- One write on the crews' side. -/
inductive CrewWrite : State → State → Prop
  | crews (s : State) (q : PerLink Crew) : CrewWrite s { s with nr := q }
  | links (s : State) (q : PerLink LinkUnit) : CrewWrite s { s with cl := q }
  | streamer (s : State) (x : Streamer) : CrewWrite s { s with ss := x }
  | attended (c : Link) (z : Nat) (on : Bool) (s : State) : CrewWrite s (setAttended c z on s)

/-- Some writes on the crews' side, one after another. -/
def CrewWrites (s t : State) : Prop := Relation.ReflTransGen CrewWrite s t

namespace CrewWrites

theorem refl {s : State} : CrewWrites s s := Relation.ReflTransGen.refl
theorem trans {s t u : State} (h : CrewWrites s t) (g : CrewWrites t u) : CrewWrites s u :=
  Relation.ReflTransGen.trans h g
theorem of_write {s t : State} (h : CrewWrite s t) : CrewWrites s t := Relation.ReflTransGen.single h

theorem crews (s : State) (q : PerLink Crew) : CrewWrites s { s with nr := q } := of_write (.crews s q)
theorem links (s : State) (q : PerLink LinkUnit) : CrewWrites s { s with cl := q } := of_write (.links s q)
theorem streamer (s : State) (x : Streamer) : CrewWrites s { s with ss := x } := of_write (.streamer s x)
theorem attended (c : Link) (z : Nat) (on : Bool) (s : State) : CrewWrites s (setAttended c z on s) :=
  of_write (.attended c z on s)

theorem of_crewsOnly {s t : State} (h : CrewsOnly s t) : CrewWrites s t := by
  rw [h]
  exact crews s t.nr

theorem modCrew (s : State) (c : Link) (f : Crew → Crew) : CrewWrites s (s.modCrew c f) := crews s _
theorem setCrew (s : State) (c : Link) (k : Crew) : CrewWrites s (s.setCrew c k) := crews s _
theorem modLink (s : State) (c : Link) (f : LinkUnit → LinkUnit) : CrewWrites s (s.modLink c f) := links s _
theorem setLink (s : State) (c : Link) (u : LinkUnit) : CrewWrites s (s.setLink c u) := links s _
theorem setSlot (s : State) (c : Link) (x : SheetSlot) : CrewWrites s (s.setSlot c x) := streamer s _

theorem offerStep (s : State) (c : Link) : CrewWrites s (offerStep c s) := of_crewsOnly (crewsOnly_offerStep c s)

/-- What ends an event is on the crews' side (R128, R144). -/
theorem of_arbitersOnly {s t : State} (h : ArbitersOnly s t) : CrewWrites s t := by
  rw [h.1]
  exact ((crews s t.nr).trans (links _ t.cl)).trans (streamer _ t.ss)

theorem settle {s t : State} (h : CrewWrites s t) : CrewWrites s (settle t) :=
  h.trans (of_arbitersOnly (arbitersOnly_settle t))

/-- An effect made where a condition holds. -/
theorem ite {s t : State} {c : Prop} [Decidable c] (h : CrewWrites s t) : CrewWrites s (if c then t else s) := by
  split
  · exact h
  · exact refl

/-- Effects for the members of a list in turn that are on the crews' side. -/
theorem foldl {α : Type} {f : State → α → State} (h : ∀ s a, CrewWrites s (f s a)) (l : List α) (s : State) :
    CrewWrites s (l.foldl f s) :=
  foldl_rel (R := CrewWrites) (fun _ => .refl) (fun h g => h.trans g) h l s

theorem eachLink {f : Link → State → State} (h : ∀ c s, CrewWrites s (f c s)) (s : State) :
    CrewWrites s (eachLink f s) :=
  eachLink_rel (R := CrewWrites) (fun h g => h.trans g) h s

end CrewWrites

/-! ### The reports taken by the Notice Resolver (R80, R101 to R103) -/

theorem crewWrites_zoneGone (c : Link) (ch : Change) (s : State) : CrewWrites s (zoneGone c ch s) :=
  (CrewWrites.modCrew s c _).trans (.attended c _ false _)

theorem crewWrites_zoneMoved (c : Link) (z : Nat) (s : State) : CrewWrites s (zoneMoved c z s) :=
  (CrewWrites.modCrew s c _).trans (.of_crewsOnly (crewsOnly_admit c z _))

theorem crewWrites_urgencyMoved (c : Link) (z : Nat) (s : State) : CrewWrites s (urgencyMoved c z s) := .modCrew s c _

theorem crewWrites_crewCarried (chs : List Change) (us : List UrgencyChange) (c : Link) (s : State) :
    CrewWrites s (crewCarried chs us c s) := by
  unfold crewCarried
  split
  · have gone := CrewWrites.foldl (fun s ch => crewWrites_zoneGone c ch s)
    have moved := CrewWrites.foldl (fun s (ch : Change) => crewWrites_zoneMoved c ch.zone s)
    have recomputed := CrewWrites.foldl (fun s (u : UrgencyChange) => crewWrites_urgencyMoved c u.zone s)
    exact (((gone _ s).trans (moved _ _)).trans (recomputed us _)).trans (.offerStep _ c)
  · exact .refl

theorem crewWrites_takeCarried (chs : List Change) (us : List UrgencyChange) (s : State) :
    CrewWrites s (takeCarried chs us s) := .eachLink (crewWrites_crewCarried chs us) s

theorem crewWrites_takeUrgency (us : List UrgencyChange) (s : State) : CrewWrites s (takeUrgency us s) := by
  unfold takeUrgency
  split
  · exact .refl
  · refine .eachLink (fun c u => ?_) s
    unfold crewUrgency
    split
    · exact (CrewWrites.foldl (fun s (u : UrgencyChange) => crewWrites_urgencyMoved c u.zone s) us u).trans
        (.offerStep _ c)
    · exact .refl

theorem crewWrites_unattendAll (c : Link) (s : State) : CrewWrites s (unattendAll c s) :=
  .foldl (fun s z => .attended c z false s) _ s

theorem crewWrites_takeCleared (s : State) : CrewWrites s (takeCleared s) := by
  refine .eachLink (fun c u => ?_) s
  unfold crewCleared
  split
  · exact (crewWrites_unattendAll c u).trans (.modCrew _ c _)
  · exact .refl

theorem crewWrites_setRotation (c : Link) (v : Nat) (s : State) : CrewWrites s (setRotation c v s) := by
  unfold setRotation
  split
  · exact (CrewWrites.modCrew s c _).trans (.offerStep _ c)
  · exact .refl

/-! ### The Sheet Streamer (R137 to R149) -/

theorem crewWrites_startTransfer (c : Link) (s : State) : CrewWrites s (startTransfer c s) := by
  unfold startTransfer
  dsimp only
  split
  · exact .setSlot s c _
  · exact .refl

theorem crewWrites_queueSheet (c : Link) (i : Nat) (s : State) : CrewWrites s (queueSheet c i s).2 := by
  unfold queueSheet
  split
  · exact .refl
  · split
    · exact .refl
    · split
      · exact .refl
      · exact (CrewWrites.setSlot s c _).trans (crewWrites_startTransfer c _)

theorem crewWrites_requestSheet (c : Link) (i : Nat) (s : State) : CrewWrites s (requestSheet c i s).2 := by
  unfold requestSheet
  split
  · exact .refl
  · exact crewWrites_queueSheet c i s

theorem crewWrites_queueField (c : Link) (f : Option Nat) (s : State) : CrewWrites s (queueField c f s).2 := by
  cases f with
  | none => exact .refl
  | some i => exact crewWrites_queueSheet c i s

theorem crewWrites_requestByZone (c : Link) (z : Nat) (s : State) : CrewWrites s (requestByZone c z s).2.2 := by
  unfold requestByZone
  split
  · exact .refl
  · split
    · exact .refl
    · exact (crewWrites_queueField c _ s).trans (crewWrites_queueField c _ _)

theorem crewWrites_stopSheet (c : Link) (i : Nat) (s : State) : CrewWrites s (stopSheet c i s).2 := by
  unfold stopSheet
  dsimp only
  split
  · exact .setSlot s c _
  · split
    · split
      · exact (CrewWrites.setSlot s c _).trans (crewWrites_startTransfer c _)
      · exact .refl
    · exact .refl

theorem crewWrites_spanComplete (c : Link) (i : BufId) (s : State) : CrewWrites s (spanComplete c i s) := by
  unfold spanComplete
  dsimp only
  split
  · exact .setSlot s c _
  · split
    · exact (CrewWrites.setSlot s c _).trans (crewWrites_startTransfer c _)
    · exact .setSlot s c _

theorem crewWrites_fillComplete (s : State) : CrewWrites s (fillComplete s) := by
  unfold fillComplete
  split
  · dsimp only
    split <;> exact .streamer s _
  · exact .refl

theorem crewWrites_fillFail (s : State) : CrewWrites s (fillFail s) := by
  unfold fillFail
  split
  · dsimp only
    split <;> exact .streamer s _
  · exact .refl

/-! ### The crews' requests (R92 to R100, R123) -/

theorem crewWrites_acceptZone (c : Link) (z : Nat) (s : State) : CrewWrites s (acceptZone c z s).2 := by
  unfold acceptZone autoSheet
  have h : CrewWrites s (setAttended c z true (s.modCrew c (fun k => k.accept z))) :=
    (CrewWrites.modCrew s c _).trans (.attended c z true _)
  split
  · split
    · exact h.trans (crewWrites_requestSheet c _ _)
    · exact h
  · exact h

theorem crewWrites_reqAccept (c : Link) (z : Nat) (s : State) : CrewWrites s (reqAccept c z s).2.2 := by
  unfold reqAccept
  split
  · exact .refl
  · split
    · exact .refl
    · split
      · exact .modCrew s c _
      · exact crewWrites_acceptZone c z s

theorem crewWrites_reqDecline (c : Link) (z : Nat) (s : State) : CrewWrites s (reqDecline c z s).2.2 := by
  unfold reqDecline
  split
  · exact .refl
  · split
    · exact .refl
    · exact CrewWrites.modCrew s c (fun k =>
        ({ k with pending := without k.pending z, aside := ZSet.place k.aside z } : Crew).endOffer z)

theorem crewWrites_releaseZone (c : Link) (z : Nat) (s : State) : CrewWrites s (releaseZone c z s) :=
  (CrewWrites.modCrew s c _).trans (.attended c z false _)

theorem crewWrites_reqRelease (c : Link) (z : Nat) (s : State) : CrewWrites s (reqRelease c z s).2.2 := by
  unfold reqRelease
  split
  · exact .refl
  · split
    · exact .refl
    · exact crewWrites_releaseZone c z s

theorem crewWrites_reqReleaseTop (c : Link) (s : State) : CrewWrites s (reqReleaseTop c s).2.2 := by
  unfold reqReleaseTop
  split
  · exact .refl
  · exact crewWrites_releaseZone c _ s

theorem crewWrites_reqPoll (c : Link) (s : State) : CrewWrites s (reqPoll c s).2.2 := by
  unfold reqPoll
  split
  · exact .refl
  · split
    · exact .refl
    · split
      · exact .refl
      · exact crewWrites_acceptZone c _ s

theorem crewWrites_reqSectors (c : Link) (w : Word16) (s : State) : CrewWrites s (reqSectors c w s).2.2 :=
  (CrewWrites.modCrew s c _).trans (.foldl (fun s z => .of_crewsOnly (crewsOnly_admit c z s)) _ _)

theorem crewWrites_placeReply (c : Link) (r : Reply) (s : State) : CrewWrites s (placeReply c r s) := .modLink s c _

theorem crewWrites_answerNR {c : Link} {kind : Byte} {a : Answer} {s : State} (h : CrewWrites s a.2.2) :
    CrewWrites s (answerNR c kind a) := (h.trans (crewWrites_placeReply c _ _)).trans (.offerStep _ c)

theorem crewWrites_answerSS {c : Link} {kind : Byte} {a : Answer} {s : State} (h : CrewWrites s a.2.2) :
    CrewWrites s (answerSS c kind a) := h.trans (crewWrites_placeReply c _ _)

/-- A crew's request writes on the crews' side alone, whatever it asks. -/
theorem crewWrites_takeRequest (c : Link) (kind : Byte) (r : Request) (s : State) :
    CrewWrites s (takeRequest c kind r s) := by
  cases r with
  | accept z => exact crewWrites_answerNR (crewWrites_reqAccept c z s)
  | decline z => exact crewWrites_answerNR (crewWrites_reqDecline c z s)
  | release z => exact crewWrites_answerNR (crewWrites_reqRelease c z s)
  | releaseTop => exact crewWrites_answerNR (crewWrites_reqReleaseTop c s)
  | poll => exact crewWrites_answerNR (crewWrites_reqPoll c s)
  | list => exact crewWrites_answerNR (a := reqList c s) .refl
  | sectors w => exact crewWrites_answerNR (crewWrites_reqSectors c w s)
  | sheetById i => exact crewWrites_answerSS (crewWrites_requestSheet c i s)
  | sheetByZone z => exact crewWrites_answerSS (crewWrites_requestByZone c z s)
  | stopNamed i => exact crewWrites_answerSS (crewWrites_stopSheet c i s)
  | stopAll => exact crewWrites_answerSS (a := (.ok, [], stopAllSheets c s)) (.setSlot s c _)
  | unknown =>
    simp only [takeRequest]
    split
    · exact crewWrites_answerSS (a := (.unknown, [], s)) .refl
    · exact crewWrites_answerNR (a := (.unknown, [], s)) .refl

theorem crewWrites_handOldest (c : Link) (s : State) : CrewWrites s (handOldest c s) := by
  unfold handOldest
  split
  · exact .refl
  · split
    · exact (CrewWrites.modLink s c _).trans (crewWrites_takeRequest c _ _ _)
    · exact .refl

theorem crewWrites_handWaiting (c : Link) (s : State) : CrewWrites s (handWaiting c s) := by
  have once : ∀ {u}, CrewWrites s u → CrewWrites s (handOldest c u) := fun h => h.trans (crewWrites_handOldest c _)
  exact once (once (once (once .refl)))

/-! ### The lines of the crews (R111 to R129) -/

theorem crewWrites_crewFrameDone (c : Link) (buf : List Byte) (reg : Word16) (s : State) :
    CrewWrites s (crewFrameDone c buf reg s) := by
  unfold crewFrameDone
  split
  · exact ((CrewWrites.modLink s c _).trans (crewWrites_handWaiting c _)).settle
  · exact .modLink s c _

theorem crewWrites_crewByte (c : Link) (b : Byte) (s : State) : CrewWrites s (crewByte c b s) := by
  unfold crewByte
  dsimp only
  split
  · exact .modLink s c _
  · split
    · exact .modLink s c _
    · split
      · exact (CrewWrites.modLink s c _).trans (.modLink _ c _)
      · split
        · exact (CrewWrites.modLink s c _).trans (crewWrites_crewFrameDone c _ _ _)
        · exact .modLink s c _

theorem crewWrites_crewChar (c : Link) (ch : LineChar) (s : State) : CrewWrites s (crewChar c ch s) := by
  unfold crewChar
  split
  · dsimp only
    cases (s.link c).asm.take ch with
    | ignored => exact .modLink s c _
    | byte b => exact (CrewWrites.modLink s c _).trans (crewWrites_crewByte c b _)
    | _ => exact (CrewWrites.modLink s c _).trans (.modLink _ c _)
  · exact .refl

theorem crewWrites_rxBack (c : Link) (back : Bool) (s : State) : CrewWrites s (rxBack c back s) := by
  unfold rxBack
  split
  · exact .modLink s c _
  · exact .refl

theorem crewWrites_takeChar (c : Link) (s : State) : CrewWrites s (takeChar c s) := by
  unfold takeChar
  dsimp only
  split
  · split
    · exact .refl
    · exact ((CrewWrites.setLink s c _).trans (.of_arbitersOnly (arbitersOnly_writerFill c _))).settle
  · exact .refl

theorem crewWrites_offerComplete (c : Link) (z : Nat) (s : State) : CrewWrites s (offerComplete c z s) := by
  unfold offerComplete
  dsimp only
  split
  · exact .setCrew s c _
  · split
    · exact .refl
    · exact .setCrew s c _

theorem crewWrites_noticeComplete (c : Link) (s : State) : CrewWrites s (noticeComplete c s) := by
  unfold noticeComplete
  split
  · exact .refl
  · rename_i f _
    refine CrewWrites.trans (CrewWrites.trans ?_ (.modCrew _ c _)) (.offerStep _ c)
    cases f.kind with
    | system => exact .modCrew s c _
    | mark m => exact .modCrew s c _
    | offer => exact crewWrites_offerComplete c _ s

theorem crewWrites_ownerComplete (c : Link) (o : Owner) (s : State) : CrewWrites s (ownerComplete c o s) := by
  cases o with
  | reply => exact (CrewWrites.modLink s c _).trans (crewWrites_handWaiting c _)
  | notice => exact crewWrites_noticeComplete c s
  | sheet i => exact crewWrites_spanComplete c i s

theorem crewWrites_frameWritten (c : Link) (s : State) : CrewWrites s (frameWritten c s) := by
  unfold frameWritten
  dsimp only
  split
  · split
    · exact (((CrewWrites.setLink s c _).trans (.of_arbitersOnly (arbitersOnly_noteDrained c _ _ _))).trans
        (crewWrites_ownerComplete c _ _)).settle
    · exact .refl
  · exact .refl

theorem crewWrites_attachLink (c : Link) (rx : Level) (s : State) : CrewWrites s (attachLink c rx s) :=
  (CrewWrites.modLink s c _).trans (.of_crewsOnly (crewsOnly_crewAttach c _))

theorem crewWrites_leaveAttached (c : Link) (st : LinkState) (s : State) : CrewWrites s (leaveAttached c st s) :=
  (((CrewWrites.modLink s c _).trans (crewWrites_unattendAll c _)).trans (.setCrew _ c _)).trans (.setSlot _ c _)

theorem crewWrites_disableLink (c : Link) (s : State) : CrewWrites s (disableLink c s) := by
  unfold disableLink
  split
  · exact .refl
  · exact .modLink s c _
  · exact crewWrites_leaveAttached c _ s

theorem crewWrites_enableLink (c : Link) (s : State) : CrewWrites s (enableLink c s) := by
  unfold enableLink
  split
  · exact .modLink s c _
  · exact .refl

/-! ### What such writes leave of the picture -/

/-- `t` has the tables and the floor alarm counts of `s`, and of its live records only the attended-by sets are other. -/
structure AttendedOnly (s t : State) : Prop where
  tables : t.tables = s.tables
  floors : t.zp.floors = s.zp.floors
  ageSteps : t.ageSteps = s.ageSteps
  tb : t.tb = s.tb
  wf : Tab.wf ZoneLive.start s.zp.live = true → Tab.wf ZoneLive.start t.zp.live = true
  zone : ∀ z, t.zone z = { s.zone z with attendedBy := (t.zone z).attendedBy }

theorem AttendedOnly.refl (s : State) : AttendedOnly s s := ⟨rfl, rfl, rfl, rfl, id, fun _ => rfl⟩

theorem AttendedOnly.trans {s t u : State} (h : AttendedOnly s t) (g : AttendedOnly t u) : AttendedOnly s u :=
  ⟨g.tables.trans h.tables, g.floors.trans h.floors, g.ageSteps.trans h.ageSteps, g.tb.trans h.tb, fun w => g.wf (h.wf w),
    fun z => by rw [g.zone z, h.zone z]⟩

/-- A crew put into or taken out of a zone's attended-by set moves that set alone. -/
theorem zone_setAttended (c : Link) (z y : Nat) (on : Bool) (s : State) :
    (setAttended c z on s).zone y =
      if y = z then { s.zone z with attendedBy := (s.zone z).attendedBy.set c on } else s.zone y :=
  s.zone_setZone z y _

theorem CrewWrite.attendedOnly {s t : State} (h : CrewWrite s t) : AttendedOnly s t := by
  cases h with
  | crews | links | streamer => exact ⟨rfl, rfl, rfl, rfl, id, fun _ => rfl⟩
  | attended c z on =>
    refine ⟨rfl, rfl, rfl, rfl, fun w => Tab.wf_put w z _, fun y => ?_⟩
    rw [zone_setAttended]
    split
    · subst_vars
      rfl
    · rfl

/-- Writes on the crews' side move nothing of the picture but the attended-by sets. -/
theorem CrewWrites.attendedOnly {s t : State} (h : CrewWrites s t) : AttendedOnly s t := by
  induction h with
  | refl => exact .refl s
  | tail _ hw ih => exact ih.trans hw.attendedOnly

end Sys2Proof.Machine
end

section
/-! What a report writes (R69 to R75, R101, R102): urgencies, age schedules, crews and attended-by sets, and nothing else of
the picture; which urgencies, and for which zones. -/

namespace Sys2Proof.Machine

/-! ### The Urgency Unit's writes, one at a time -/

theorem zone_setUrgency (z y : Nat) (u : Option Nat) (s : State) :
    (setUrgency z u s).zone y = if y = z then { s.zone y with urgency := u } else s.zone y := by
  refine (s.zone_setZone z y _).trans ?_
  split
  · subst_vars
    rfl
  · rfl

/-- A listed zone's urgency is computed when it is active after the change, and removed otherwise (R70). -/
theorem zone_listedZone (ch : Change) (s : State) (y : Nat) :
    (listedZone ch s).zone y = if y = ch.zone
      then { s.zone y with urgency := if ch.after.active then some (s.urgencyValue y) else none } else s.zone y := by
  have h : ∀ u : Option Nat, (setUrgency ch.zone u s).zone y =
      if y = ch.zone then { s.zone y with urgency := u } else s.zone y := fun u => zone_setUrgency ch.zone y u s
  have hv : y = ch.zone → s.urgencyValue ch.zone = s.urgencyValue y := fun h => h ▸ rfl
  unfold listedZone
  dsimp only
  split
  · have hz : (setUrgency ch.zone (some (s.urgencyValue ch.zone)) s).zone y =
        if y = ch.zone then { s.zone y with urgency := some (s.urgencyValue y) } else s.zone y := by
      rw [h]
      split
      · rename_i hy
        rw [hv hy]
      · rfl
    split
    · split
      · rw [State.zone_setAgeStep, hz]
      · exact hz
    · rw [State.zone_setAgeStep, hz]
  · rw [State.zone_setAgeStep, h]

/-- A listed zone's age schedule: set when it enters ALARM, kept while it stays, removed otherwise (R70, R71). -/
theorem ageStep_listedZone (ch : Change) (s : State) :
    (listedZone ch s).ageStep ch.zone =
      if ch.after = .alarm then
        if s.config.escalation ≠ 0 ∧ ch.before ≠ .alarm then
          firstAgeStep ((s.zone ch.zone).alarmEntry.getD 0) s.config.escalation s.uptime
        else s.ageStep ch.zone
      else none := by
  have hset : ∀ (u : State) (t : Option Nat), (u.setAgeStep ch.zone t).ageStep ch.zone = t := fun u t => by
    rw [State.ageStep_setAgeStep, if_pos rfl]
  unfold listedZone
  dsimp only
  by_cases ha : ch.after = .alarm
  · rw [if_pos (by rw [ha]; rfl), if_pos ha, if_pos ha]
    split
    · exact hset _ _
    · rfl
  · rw [if_neg ha, if_neg ha]
    split <;> exact hset _ _

/-- After an ALARM entered now, with E not 0, the first age step is one step later (R71). -/
theorem firstAgeStep_now {now e : Nat} (he : e ≠ 0) : firstAgeStep now e now = some (now + e) := by
  have h : now < now + (0 + 1) * e := by omega
  rw [firstAgeStep, List.range_succ_eq_map, List.map_cons, List.find?_cons_of_pos (by simpa using h)]
  simp

/-- The live records after changed urgencies have been written, for a zone all of whose changes write one value. -/
theorem zone_writeUrgencies {us : List UrgencyChange} {y : Nat} {v : Option Nat}
    (hv : ∀ u ∈ us, u.zone = y → u.after = v) (s : State) :
    (writeUrgencies us s).zone y = if ∃ u ∈ us, u.zone = y then { s.zone y with urgency := v } else s.zone y := by
  induction us generalizing s with
  | nil => simp [writeUrgencies]
  | cons u us ih =>
    have ih := ih (fun x hx => hv x (List.mem_cons_of_mem _ hx)) (setUrgency u.zone u.after s)
    refine ih.trans ?_
    rw [zone_setUrgency]
    by_cases hu : u.zone = y
    · have := hv u List.mem_cons_self hu
      subst this
      simp [hu]
    · simp [hu, Ne.symm hu]

theorem State.mem_urgencyChanges (s : State) (zs : List Nat) (u : UrgencyChange) :
    u ∈ s.urgencyChanges zs ↔ ∃ z ∈ zs, (s.zone z).urgency ≠ some (s.urgencyValue z) ∧
      u = ⟨z, (s.zone z).urgency, some (s.urgencyValue z)⟩ := by
  simp only [State.urgencyChanges, List.mem_filterMap, Option.ite_none_left_eq_some, Option.some.injEq]
  constructor <;> rintro ⟨z, hz, hne, rfl⟩ <;> exact ⟨z, hz, hne, rfl⟩

/-- The live records once some zones have been recomputed (R69, R75). -/
def State.recomputed (s : State) (zs : List Nat) : State := writeUrgencies (s.urgencyChanges zs) s

theorem State.zone_recomputed (s : State) (zs : List Nat) (y : Nat) :
    (s.recomputed zs).zone y =
      if y ∈ zs then { s.zone y with urgency := some (s.urgencyValue y) } else s.zone y := by
  have hmem := s.mem_urgencyChanges zs
  have hv : ∀ u ∈ s.urgencyChanges zs, u.zone = y → u.after = some (s.urgencyValue y) := by
    intro u hu huy
    obtain ⟨z, -, -, rfl⟩ := (hmem u).1 hu
    subst huy
    rfl
  refine (zone_writeUrgencies hv s).trans ?_
  by_cases hy : y ∈ zs
  · rw [if_pos hy]
    by_cases hne : (s.zone y).urgency = some (s.urgencyValue y)
    · rw [← hne]
      split <;> rfl
    · rw [if_pos ⟨_, (hmem _).2 ⟨y, hy, hne, rfl⟩, rfl⟩]
  · rw [if_neg hy, if_neg]
    rintro ⟨u, hu, rfl⟩
    obtain ⟨z, hz, -, rfl⟩ := (hmem u).1 hu
    exact hy hz

/-! ### What a report leaves -/

/-- `t` is `s` but for what a report writes: the crews, the age schedules, and of the live records the urgency and the
attended-by set. -/
structure ReportOnly (s t : State) : Prop where
  picture : PictureOnly s t
  wf : Tab.wf ZoneLive.start s.zp.live = true → Tab.wf ZoneLive.start t.zp.live = true
  zone : ∀ z, t.zone z = { s.zone z with urgency := (t.zone z).urgency, attendedBy := (t.zone z).attendedBy }

namespace ReportOnly

theorem refl (s : State) : ReportOnly s s := ⟨.refl s, id, fun _ => rfl⟩

theorem trans {s t u : State} (h : ReportOnly s t) (g : ReportOnly t u) : ReportOnly s u :=
  ⟨h.picture.trans g.picture, fun w => g.wf (h.wf w), fun z => by rw [g.zone z, h.zone z]⟩

theorem of_crewWrites {s t : State} (h : CrewWrites s t) (hp : PictureOnly s t) : ReportOnly s t :=
  ⟨hp, h.attendedOnly.wf, fun z => by rw [h.attendedOnly.zone z]⟩

theorem setUrgency (z : Nat) (u : Option Nat) (s : State) : ReportOnly s (setUrgency z u s) := by
  refine ⟨rfl, fun w => Tab.wf_put w z _, fun y => ?_⟩
  rw [zone_setUrgency]
  split <;> rfl

theorem setAgeStep (z : Nat) (t : Option Nat) (s : State) : ReportOnly s (s.setAgeStep z t) := ⟨rfl, id, fun _ => rfl⟩

theorem foldl {α : Type} {f : State → α → State} (h : ∀ s a, ReportOnly s (f s a)) (l : List α) (s : State) :
    ReportOnly s (l.foldl f s) := foldl_rel (R := ReportOnly) refl trans h l s

section fields
variable {s t : State} (h : ReportOnly s t)
include h

theorem tables : t.tables = s.tables := by rw [h.picture]
theorem floors : t.zp.floors = s.zp.floors := by rw [h.picture]
theorem cl : t.cl = s.cl := by rw [h.picture]
theorem uptime : t.uptime = s.uptime := by rw [h.picture]; rfl
theorem config : t.config = s.config := by rw [h.picture]; rfl
theorem zoneDef (z : Nat) : t.zoneDef z = s.zoneDef z := by rw [h.picture]; rfl
theorem floorCount (f : Int) : t.floorCount f = s.floorCount f := by rw [h.picture]; rfl
theorem attached (c : Link) : t.attached c = s.attached c := by rw [h.picture]; rfl
theorem cond (z : Nat) : (t.zone z).cond = (s.zone z).cond := by rw [h.zone z]
theorem alarms (z : Nat) : (t.zone z).alarms = (s.zone z).alarms := by rw [h.zone z]
theorem zoneActive (z : Nat) : t.zoneActive z = s.zoneActive z := by rw [State.zoneActive, h.cond z]; rfl

/-- No report moves a term of an urgency. -/
theorem urgencyValue (z : Nat) : t.urgencyValue z = s.urgencyValue z := by
  have hfloor : ∀ f, t.floorTerm f = s.floorTerm f := fun f => by
    rw [State.floorTerm, State.floorTerm, h.floorCount]
  have hentry : (t.zone z).alarmEntry = (s.zone z).alarmEntry := by rw [h.zone z]
  simp only [State.urgencyValue, spreadTerm, ageTerm, hfloor, h.config, h.uptime, h.zoneDef, h.cond, h.alarms, hentry]
end fields

end ReportOnly

theorem reportOnly_listedZone (ch : Change) (s : State) : ReportOnly s (listedZone ch s) := by
  unfold listedZone
  dsimp only
  have hu := fun u => ReportOnly.setUrgency ch.zone u s
  split
  · split
    · split
      · exact (hu _).trans (.setAgeStep ..)
      · exact hu _
    · exact (hu _).trans (.setAgeStep ..)
  · exact (hu _).trans (.setAgeStep ..)

/-- The state once every zone of some changes has been listed (R70). -/
def State.listed (s : State) (chs : List Change) : State := chs.foldl (fun s ch => listedZone ch s) s

theorem State.reportOnly_listed (s : State) (chs : List Change) : ReportOnly s (s.listed chs) :=
  .foldl (fun s ch => reportOnly_listedZone ch s) chs s

theorem State.reportOnly_recomputed (s : State) (zs : List Nat) : ReportOnly s (s.recomputed zs) :=
  .foldl (fun s (u : UrgencyChange) => .setUrgency u.zone u.after s) _ s

/-- The state in which the Urgency Unit carries a report on to the Notice Resolver (R75). -/
def State.reckoned (s : State) (r : ZoneReport) : State :=
  (s.listed r.changes).recomputed ((s.listed r.changes).crossedZones r)

theorem State.reportOnly_reckoned (s : State) (r : ZoneReport) : ReportOnly s (s.reckoned r) :=
  (s.reportOnly_listed _).trans (State.reportOnly_recomputed _ _)

/-- The zones that a report carries beside those it lists, with their changed urgencies (R72, R75). -/
def State.carriedOthers (s : State) (r : ZoneReport) : List UrgencyChange :=
  (s.listed r.changes).urgencyChanges ((s.listed r.changes).crossedZones r)

theorem takeZoneReport_eq (r : ZoneReport) (s : State) :
    takeZoneReport r s = if r.changes = [] then s else takeCarried r.changes (s.carriedOthers r) (s.reckoned r) := rfl

theorem recomputeAndReport_eq (zs : List Nat) (s : State) :
    recomputeAndReport zs s = takeUrgency (s.urgencyChanges zs) (s.recomputed zs) := rfl

theorem reportOnly_takeCarried (chs : List Change) (us : List UrgencyChange) (s : State) :
    ReportOnly s (takeCarried chs us s) := .of_crewWrites (crewWrites_takeCarried ..) (pictureOnly_takeCarried ..)

theorem reportOnly_takeZoneReport (r : ZoneReport) (s : State) : ReportOnly s (takeZoneReport r s) := by
  rw [takeZoneReport_eq]
  split
  · exact .refl s
  · exact (s.reportOnly_reckoned r).trans (reportOnly_takeCarried ..)

/-- A zone that a report recomputes is active, not listed, and stands on the floor above one that crossed (R72). -/
theorem State.mem_crossedZones (s : State) (r : ZoneReport) (y : Nat) :
    y ∈ s.crossedZones r ↔ s.zoneActive y = true ∧ (∀ ch ∈ r.changes, ch.zone ≠ y) ∧
      ∃ x ∈ r.crossings, x.floor = (s.zoneDef y).floor - 1 := by
  simp [State.crossedZones, State.mem_activeZones]

/-! ### A zone's record committed (R37, R38, R59) -/

/-- The state with a zone's new record stored and its floor's count following it into or out of ALARM (R59). -/
def State.storeZone (s : State) (z : Nat) (new : ZoneLive) : State :=
  let f := (s.zoneDef z).floor
  if new.cond = .alarm ∧ (s.zone z).cond ≠ .alarm then (s.setZone z new).setFloor f (s.floorCount f + 1)
  else if (s.zone z).cond = .alarm ∧ new.cond ≠ .alarm then (s.setZone z new).setFloor f (s.floorCount f - 1)
  else s.setZone z new

/-- The crossing of its floor that a zone's new record makes (R38, R59). -/
def State.crossingOf (s : State) (z : Nat) (new : ZoneLive) : List Crossing :=
  let f := (s.zoneDef z).floor
  if new.cond = .alarm ∧ (s.zone z).cond ≠ .alarm then if s.floorCount f = 0 then [⟨f, true⟩] else []
  else if (s.zone z).cond = .alarm ∧ new.cond ≠ .alarm then if s.floorCount f = 1 then [⟨f, false⟩] else []
  else []

/-- A zone's new record, once an event has made `mid` of it. -/
def State.settledZone (s : State) (z : Nat) (mid : ZoneLive) : ZoneLive := settleZone (s.zone z).cond s.uptime mid

theorem commitZone_eq (z : Nat) (mid : ZoneLive) (s : State) :
    commitZone z mid s =
      takeZoneReport ⟨changeOf z (s.zone z) (s.settledZone z mid), s.crossingOf z (s.settledZone z mid)⟩
        (s.storeZone z (s.settledZone z mid)) := by
  unfold commitZone State.storeZone State.crossingOf State.settledZone
  dsimp only
  split
  · rfl
  · split <;> rfl

section stored
variable (s : State) (z : Nat) (new : ZoneLive)

theorem State.zone_storeZone (y : Nat) : (s.storeZone z new).zone y = if y = z then new else s.zone y := by
  have h : (s.storeZone z new).zone y = (s.setZone z new).zone y := by
    unfold State.storeZone
    dsimp only
    split
    · rfl
    · split <;> rfl
  rw [h, State.zone_setZone]

@[simp] theorem State.zone_storeZone_self : (s.storeZone z new).zone z = new := by simp [State.zone_storeZone]

theorem State.storeZone_eq : s.storeZone z new = { s with zp := (s.storeZone z new).zp } := by
  unfold State.storeZone
  dsimp only
  split
  · rfl
  · split <;> rfl

theorem State.wf_storeZone (hw : Tab.wf ZoneLive.start s.zp.live = true) :
    Tab.wf ZoneLive.start (s.storeZone z new).zp.live = true := by
  have h : (s.storeZone z new).zp.live = (s.setZone z new).zp.live := by
    unfold State.storeZone
    dsimp only
    split
    · rfl
    · split <;> rfl
  rw [h]
  exact Tab.wf_put hw z new

@[simp] theorem State.tables_storeZone : (s.storeZone z new).tables = s.tables := by rw [State.storeZone_eq]
@[simp] theorem State.ageSteps_storeZone : (s.storeZone z new).ageSteps = s.ageSteps := by rw [State.storeZone_eq]
@[simp] theorem State.nr_storeZone : (s.storeZone z new).nr = s.nr := by rw [State.storeZone_eq]
@[simp] theorem State.cl_storeZone : (s.storeZone z new).cl = s.cl := by rw [State.storeZone_eq]
@[simp] theorem State.zoneDef_storeZone (y : Nat) : (s.storeZone z new).zoneDef y = s.zoneDef y := by
  rw [State.zoneDef, State.tables_storeZone, State.zoneDef]
end stored

theorem mem_changeOf {z : Nat} {old new : ZoneLive} {ch : Change} (h : ch ∈ changeOf z old new) :
    ch = ⟨z, old.cond, new.cond, old.alarms, new.alarms⟩ := by
  unfold changeOf at h
  split at h
  · simp at h
  · simpa using h

theorem changeOf_eq_nil {z : Nat} {old new : ZoneLive} :
    changeOf z old new = [] ↔ old.cond = new.cond ∧ old.alarms = new.alarms := by
  unfold changeOf
  split <;> simp_all

/-- The committed record, but for its urgency and its attended-by set. -/
theorem zone_commitZone (z : Nat) (mid : ZoneLive) (s : State) :
    (commitZone z mid s).zone z = { s.settledZone z mid with
      urgency := ((commitZone z mid s).zone z).urgency, attendedBy := ((commitZone z mid s).zone z).attendedBy } := by
  rw [commitZone_eq]
  have h := (reportOnly_takeZoneReport ⟨changeOf z (s.zone z) (s.settledZone z mid),
    s.crossingOf z (s.settledZone z mid)⟩ (s.storeZone z (s.settledZone z mid))).zone z
  rwa [State.zone_storeZone_self] at h

end Sys2Proof.Machine
end

section
/-! Every event keeps each zone's derived condition, its dates and its urgency in step (R36, R37, R46, R51, R69), and each
floor alarm count equal to the zones in ALARM on its floor (R59). -/

namespace Sys2Proof.Machine

/-! ### The zones in ALARM on a floor (R59) -/

/-- The zones in ALARM on a floor, as a set. -/
def State.alarmSet (s : State) (f : Int) : Finset Nat :=
  ((s.zp.live.map Prod.fst).filter (fun z => (s.zone z).cond == .alarm && (s.zoneDef z).floor == f)).toFinset

theorem State.mem_alarmSet (s : State) (f : Int) (z : Nat) :
    z ∈ s.alarmSet f ↔ (s.zone z).cond = .alarm ∧ (s.zoneDef z).floor = f := by
  simp only [State.alarmSet, List.mem_toFinset, List.mem_filter, List.mem_map, Bool.and_eq_true, beq_iff_eq,
    and_iff_right_iff_imp]
  rintro ⟨hc, -⟩
  have hne : s.zone z ≠ ZoneLive.start := by
    intro he
    rw [he] at hc
    cases hc
  exact ⟨_, Tab.mem_of_get hne, rfl⟩

theorem State.alarmsOn_eq_card {s : State} (hw : Tab.wf ZoneLive.start s.zp.live = true) (f : Int) :
    s.alarmsOn f = (s.alarmSet f).card := by
  have hs := ((Tab.wf_iff _ _).1 hw).1
  have hn : (s.zp.live.map Prod.fst).Nodup := List.pairwise_map.2 (hs.imp fun h => Nat.ne_of_lt h)
  exact (List.toFinset_card_of_nodup (hn.filter _)).symm

/-- Every floor in a definition has a count of its own (R33, R59), and every count is that of its floor's zones in
ALARM. -/
def FloorsSound (s : State) : Prop := (∀ z, -8 ≤ (s.zoneDef z).floor) ∧ FloorInv s

/-- The counts follow from the zones in ALARM on each floor, when both states hold their tables in canonical form. -/
theorem FloorInv.of_alarmSet {s t : State} (h : FloorInv s) (hs : Tab.wf ZoneLive.start s.zp.live = true)
    (ht : Tab.wf ZoneLive.start t.zp.live = true) (hf : t.zp.floors = s.zp.floors)
    (ha : ∀ f, t.alarmSet f = s.alarmSet f) : FloorInv t := by
  intro f h1 h2
  rw [State.alarmsOn_eq_card ht, ha, ← State.alarmsOn_eq_card hs, ← h f h1 h2]
  unfold State.floorCount
  rw [hf]

/-- With no zone in ALARM and no count, every count is right. -/
theorem floorInv_of_noAlarm {s : State} (hf : s.zp.floors = []) (hz : ∀ z, (s.zone z).cond ≠ .alarm) : FloorInv s := by
  intro f _ _
  have hnone : s.alarmsOn f = 0 := by simp [State.alarmsOn, hz]
  rw [hnone, State.floorCount, hf, Tab.get_nil]

section storing
variable (s : State) (z : Nat) (new : ZoneLive)

/-- A zone's record stored moves that zone alone into or out of the zones in ALARM, on its own floor. -/
theorem State.alarmSet_storeZone (f : Int) : (s.storeZone z new).alarmSet f =
    if f = (s.zoneDef z).floor then
      if new.cond = .alarm then insert z (s.alarmSet f) else (s.alarmSet f).erase z
    else s.alarmSet f := by
  ext y
  by_cases hy : y = z
  · subst hy
    by_cases hf : f = (s.zoneDef y).floor
    · by_cases hn : new.cond = .alarm <;> simp [State.mem_alarmSet, hf, hn]
    · simp [State.mem_alarmSet, hf, Ne.symm hf]
  · split
    · split <;> simp [State.mem_alarmSet, State.zone_storeZone, hy]
    · simp [State.mem_alarmSet, State.zone_storeZone, hy]

/-- The floor counts after a record has been stored (R59). -/
theorem State.floorCount_storeZone {f : Int} (hz : -8 ≤ (s.zoneDef z).floor) (hf : -8 ≤ f) :
    (s.storeZone z new).floorCount f =
      if f = (s.zoneDef z).floor then
        if new.cond = .alarm then
          if (s.zone z).cond = .alarm then s.floorCount f else s.floorCount f + 1
        else if (s.zone z).cond = .alarm then s.floorCount f - 1 else s.floorCount f
      else s.floorCount f := by
  have kept : (s.setZone z new).floorCount f = s.floorCount f := rfl
  have moved : ∀ n, ((s.setZone z new).setFloor (s.zoneDef z).floor n).floorCount f =
      if f = (s.zoneDef z).floor then n else s.floorCount f := fun n => State.floorCount_setFloor _ _ _ n hz hf
  unfold State.storeZone
  dsimp only
  by_cases hn : new.cond = .alarm
  · by_cases ho : (s.zone z).cond = .alarm
    · simp [hn, ho, kept]
    · simp only [hn, ho, ne_eq, not_false_eq_true, and_self, if_true, if_false, moved]
      split <;> simp_all
  · by_cases ho : (s.zone z).cond = .alarm
    · simp only [hn, ho, ne_eq, not_false_eq_true, and_self, if_true, if_false, false_and, moved]
      split <;> simp_all
    · simp [hn, ho, kept]

theorem FloorsSound.storeZone {s : State} (h : FloorsSound s) (hw : Tab.wf ZoneLive.start s.zp.live = true) :
    FloorsSound (s.storeZone z new) := by
  obtain ⟨hstand, hinv⟩ := h
  refine ⟨fun y => by simpa using hstand y, fun f h1 h2 => ?_⟩
  have hcount : s.floorCount f = (s.alarmSet f).card := by rw [hinv f h1 h2, State.alarmsOn_eq_card hw]
  have hmem : f = (s.zoneDef z).floor → (z ∈ s.alarmSet f ↔ (s.zone z).cond = .alarm) := by
    intro hf
    simp [State.mem_alarmSet, hf]
  rw [State.alarmsOn_eq_card (s.wf_storeZone z new hw), State.alarmSet_storeZone,
    State.floorCount_storeZone s z new (hstand z) h1, hcount]
  by_cases hf : f = (s.zoneDef z).floor
  · by_cases hn : new.cond = .alarm <;> by_cases ho : (s.zone z).cond = .alarm
    · simp [hn, ho, ← hf, Finset.insert_eq_of_mem ((hmem hf).2 ho)]
    · simp [hn, ho, ← hf, Finset.card_insert_of_notMem (mt (hmem hf).1 ho)]
    · simp [hn, ho, ← hf, Finset.card_erase_of_mem ((hmem hf).2 ho)]
    · simp [hn, ho, ← hf, Finset.erase_eq_of_notMem (mt (hmem hf).1 ho)]
  · simp [hf]
end storing

/-! ### One live record (R36, R37) -/

/-- All that `ZoneInv` says of a live record but for its urgency. -/
def ZoneDates (l : ZoneLive) : Prop :=
  l.cond = deriveCond l ∧ (l.alarmEntry.isSome ↔ l.cond = .alarm) ∧ (l.deadline.isSome ↔ l.cond = .verifying) ∧
  (l.isolated = true → l.points = [] ∧ l.alarms = 0 ∧ l.supervisories = 0 ∧ l.troubles = 0)

/-- An urgency present exactly in an active condition (R63). -/
def UrgencyHeld (l : ZoneLive) : Prop := l.urgency.isSome ↔ l.cond.active = true

theorem zoneInv_iff (l : ZoneLive) : ZoneInv l ↔ ZoneDates l ∧ UrgencyHeld l := by
  unfold ZoneInv ZoneDates UrgencyHeld
  tauto

theorem zoneInv_start : ZoneInv ZoneLive.start := by simp [ZoneInv, ZoneLive.start, deriveCond, Cond.active]

/-- The urgency and the attended-by set are no matter of a record's condition or dates. -/
theorem ZoneDates.of_report {l m : ZoneLive} (h : ZoneDates l)
    (hm : m = { l with urgency := m.urgency, attendedBy := m.attendedBy }) : ZoneDates m := by
  rw [hm]
  exact h

/-- Nor is the attended-by set a matter of a record's urgency. -/
theorem UrgencyHeld.of_attended {l m : ZoneLive} (h : UrgencyHeld l) (hm : m = { l with attendedBy := m.attendedBy }) :
    UrgencyHeld m := by
  rw [hm]
  exact h

/-- What an event must leave in a live record for its condition and dates to come out in step: of a zone that stays in ALARM
its entry uptime, of one that is VERIFYING its deadline, and nothing in a zone that is isolated. The urgency is left to the
report that follows. -/
structure Settles (old mid : ZoneLive) : Prop where
  urgency : mid.urgency = old.urgency
  entry : old.cond = .alarm → deriveCond mid = .alarm → mid.alarmEntry.isSome
  window : deriveCond mid = .verifying → mid.deadline.isSome
  empty : mid.isolated = true → mid.points = [] ∧ mid.alarms = 0 ∧ mid.supervisories = 0 ∧ mid.troubles = 0

theorem Settles.zoneDates {old mid : ZoneLive} (h : Settles old mid) (now : Nat) :
    ZoneDates (settleZone old.cond now mid) := by
  refine ⟨rfl, ?_, ?_, h.empty⟩
  · show (if deriveCond mid = .alarm then _ else none : Option Nat).isSome ↔ deriveCond mid = .alarm
    split
    · rename_i ha
      split
      · rename_i hb
        exact iff_of_true (h.entry hb ha) ha
      · exact iff_of_true rfl ha
    · rename_i ha
      exact iff_of_false (by simp) ha
  · show (if deriveCond mid = .verifying then _ else none : Option Nat).isSome ↔ deriveCond mid = .verifying
    split
    · rename_i hv
      exact iff_of_true (h.window hv) hv
    · rename_i hv
      exact iff_of_false (by simp) hv

theorem deriveCond_eq_verifying (l : ZoneLive) : deriveCond l = .verifying ↔
    l.isolated = false ∧ l.alarms = 0 ∧ l.points.any (fun r => r.kind == .prealarm) = true := by
  unfold deriveCond
  split
  · simp_all
  · split
    · simp_all
    · split
      · simp_all
      · split
        · simp_all
        · split <;> simp_all

theorem bump8_ne_zero (n : Byte) : bump8 n ≠ 0 := by
  unfold bump8
  split
  · subst_vars
    decide
  · bv_omega

/-! ### What the picture's events make of a record -/

section events
variable {l mid : ZoneLive} (h : ZoneInv l)
include h

theorem ZoneInv.derived : l.cond = deriveCond l := h.1

/-- A zone that is isolated is ISOLATED, and no other is. -/
theorem ZoneInv.cond_isolated_iff : l.cond = .isolated ↔ l.isolated = true := by
  rw [h.derived]
  unfold deriveCond
  split
  · simp_all
  · split
    · simp_all
    · split
      · simp_all
      · split
        · simp_all
        · split <;> simp_all

theorem ZoneInv.isolated_of_active (ha : l.cond.active = true) : l.isolated = false := by
  rw [Bool.eq_false_iff]
  intro hi
  rw [h.cond_isolated_iff.2 hi] at ha
  cases ha

/-- An event that leaves a record's alarm count, entry uptime and deadline and adds no PREALARM record settles. -/
theorem ZoneInv.settles_of_kept (hi : mid.isolated = false) (ha : mid.alarms = l.alarms)
    (he : mid.alarmEntry = l.alarmEntry) (hd : mid.deadline = l.deadline)
    (hp : mid.points.any (fun r => r.kind == .prealarm) = true → l.points.any (fun r => r.kind == .prealarm) = true)
    (hu : mid.urgency = l.urgency) (hl : l.isolated = false) : Settles l mid := by
  obtain ⟨hcond, hentry, hwindow, -⟩ := id h
  refine ⟨hu, fun hb _ => ?_, fun hv => ?_, fun hm => ?_⟩
  · rw [he]
    exact hentry.2 hb
  · obtain ⟨-, halarms, hpre⟩ := (deriveCond_eq_verifying mid).1 hv
    rw [hd, hwindow, hcond, deriveCond_eq_verifying]
    exact ⟨hl, ha ▸ halarms, hp hpre⟩
  · rw [hi] at hm
    cases hm

/-- An event that leaves an alarm counted and the entry uptime as it was settles. -/
theorem ZoneInv.settles_of_alarms (hi : mid.isolated = false) (ha : mid.alarms ≠ 0)
    (he : mid.alarmEntry = l.alarmEntry) (hu : mid.urgency = l.urgency) : Settles l mid := by
  obtain ⟨-, hentry, -⟩ := id h
  refine ⟨hu, fun hb _ => ?_, fun hv => ?_, fun hm => ?_⟩
  · rw [he]
    exact hentry.2 hb
  · exact absurd ((deriveCond_eq_verifying mid).1 hv).2.1 ha
  · rw [hi] at hm
    cases hm

/-- An event that leaves the record as it was settles. -/
theorem ZoneInv.settles_self (hl : l.isolated = false) : Settles l l :=
  h.settles_of_kept hl rfl rfl rfl id rfl hl

variable (hl : l.isolated = false)
include hl

theorem ZoneInv.settles_ordinaryAlarm (s : State) (e : PointEvent) : Settles l (ordinaryAlarm s l e) := by
  unfold ordinaryAlarm
  split
  · exact h.settles_self hl
  · exact h.settles_of_alarms hl (bump8_ne_zero _) rfl rfl
  · exact h.settles_of_alarms hl (bump8_ne_zero _) rfl rfl

theorem ZoneInv.settles_verificationStart (s : State) (e : PointEvent) :
    Settles l (verificationStart s l e) := by
  unfold verificationStart
  split
  · exact h.settles_self hl
  · obtain ⟨-, hentry, -⟩ := id h
    exact ⟨rfl, fun hb _ => hentry.2 hb, fun _ => rfl, fun hm => absurd (hl.symm.trans hm) (by decide)⟩
  · exact h.settles_of_alarms hl (bump8_ne_zero _) rfl rfl

theorem ZoneInv.settles_confirmation (s : State) (e : PointEvent) : Settles l (confirmation s l e) := by
  unfold confirmation
  dsimp only
  split
  · exact h.settles_of_alarms hl (by simp) rfl rfl
  · split <;> exact h.settles_of_alarms hl (by simp) rfl rfl

theorem ZoneInv.settles_alarmEvent (s : State) (z : Nat) (e : PointEvent) : Settles l (alarmEvent s z l e) := by
  unfold alarmEvent
  split
  · exact h.settles_self hl
  · split
    · exact h.settles_confirmation hl s e
    · split
      · exact h.settles_verificationStart hl s e
      · exact h.settles_ordinaryAlarm hl s e

theorem ZoneInv.settles_supervisoryEvent (s : State) (e : PointEvent) : Settles l (supervisoryEvent s l e) := by
  unfold supervisoryEvent
  split
  · exact h.settles_self hl
  · exact h.settles_of_kept hl rfl rfl rfl (by simp [ZoneLive.append]) rfl hl
  · exact h.settles_of_kept hl rfl rfl rfl id rfl hl

theorem ZoneInv.settles_troubleEvent (s : State) (e : PointEvent) : Settles l (troubleEvent s l e) := by
  unfold troubleEvent
  split
  · exact h.settles_self hl
  · exact h.settles_of_kept hl rfl rfl rfl (by simp [ZoneLive.append]) rfl hl
  · exact h.settles_of_kept hl rfl rfl rfl id rfl hl

theorem ZoneInv.settles_normalEvent (e : PointEvent) : Settles l (normalEvent l e) := by
  refine h.settles_of_kept hl rfl rfl rfl (fun hp => ?_) rfl hl
  obtain ⟨r, hr, hk⟩ := List.any_eq_true.1 hp
  exact List.any_eq_true.2 ⟨r, (List.mem_filter.1 hr).1, hk⟩

theorem ZoneInv.settles_applyEvent (s : State) (z : Nat) (e : PointEvent) : Settles l (applyEvent s z l e) := by
  unfold applyEvent
  split
  · exact h.settles_alarmEvent hl s z e
  · exact h.settles_supervisoryEvent hl s e
  · exact h.settles_troubleEvent hl s e
  · exact h.settles_normalEvent hl e

/-- A window that expires leaves no PREALARM record, so its zone is VERIFYING no longer (R52). -/
theorem ZoneInv.settles_lapse : Settles l l.lapse := by
  obtain ⟨-, hentry, -⟩ := id h
  refine ⟨rfl, fun hb _ => hentry.2 hb, fun hv => ?_, fun hm => absurd (hl.symm.trans hm) (by decide)⟩
  have hpre := ((deriveCond_eq_verifying l.lapse).1 hv).2.2
  simp [ZoneLive.lapse] at hpre
end events

/-- A zone isolated is emptied (R54). -/
theorem settles_isolated (l : ZoneLive) : Settles l { l.emptied with isolated := true } := by
  have hc : deriveCond { l.emptied with isolated := true } = .isolated := rfl
  exact ⟨rfl, fun _ ha => (by rw [hc] at ha; cases ha), fun hv => (by rw [hc] at hv; cases hv), fun _ => ⟨rfl, rfl, rfl, rfl⟩⟩

/-- A zone taken out of isolation is empty, and so QUIET (R55). -/
theorem ZoneInv.deriveCond_unisolated {l : ZoneLive} (h : ZoneInv l) (hi : l.isolated = true) :
    deriveCond { l with isolated := false } = .quiet := by
  obtain ⟨-, -, -, -, hempty⟩ := h
  obtain ⟨hp, ha, hs, ht⟩ := hempty hi
  simp [deriveCond, hp, ha, hs, ht]

theorem ZoneInv.settles_unisolated {l : ZoneLive} (h : ZoneInv l) (hi : l.isolated = true) :
    Settles l { l with isolated := false } := by
  have hc := h.deriveCond_unisolated hi
  exact ⟨rfl, fun _ ha => (by rw [hc] at ha; cases ha), fun hv => (by rw [hc] at hv; cases hv), fun hm => by cases hm⟩

end Sys2Proof.Machine
end

section
/-! The zone change report, the picture's events and the tables' writes keep the picture (R36, R37, R59, R69). -/

namespace Sys2Proof.Machine

/-! ### The relation -/

/-- An event that keeps the picture: every zone's record in step, and with it each floor's count. -/
def KeepsPicture (s t : State) : Prop := PictureInv s → PictureInv t ∧ (FloorsSound s → FloorsSound t)

/-- `t` has the zone definitions and the floor counts of `s`, and its live records but for urgencies and attended-by
sets. -/
structure SameRecords (s t : State) : Prop where
  defs : t.tables.defs = s.tables.defs
  floors : t.zp.floors = s.zp.floors
  wf : Tab.wf ZoneLive.start s.zp.live = true → Tab.wf ZoneLive.start t.zp.live = true
  zone : ∀ z, t.zone z = { s.zone z with urgency := (t.zone z).urgency, attendedBy := (t.zone z).attendedBy }

theorem SameRecords.of_eq {s t : State} (hd : t.tables.defs = s.tables.defs) (hz : t.zp = s.zp) : SameRecords s t := by
  refine ⟨hd, by rw [hz], fun w => by rwa [hz], fun z => ?_⟩
  have : t.zone z = s.zone z := by rw [State.zone, hz, State.zone]
  rw [this]

theorem ReportOnly.sameRecords {s t : State} (h : ReportOnly s t) : SameRecords s t :=
  ⟨by rw [h.tables], h.floors, h.wf, h.zone⟩

theorem AttendedOnly.sameRecords {s t : State} (h : AttendedOnly s t) : SameRecords s t :=
  ⟨by rw [h.tables], h.floors, h.wf, fun z => by rw [h.zone z]⟩

namespace SameRecords
variable {s t : State} (h : SameRecords s t)
include h

theorem cond (z : Nat) : (t.zone z).cond = (s.zone z).cond := by rw [h.zone z]

theorem zoneDef (z : Nat) : t.zoneDef z = s.zoneDef z := by rw [State.zoneDef, h.defs, State.zoneDef]

theorem floorsSound (hw : Tab.wf ZoneLive.start s.zp.live = true) (hs : FloorsSound s) : FloorsSound t := by
  obtain ⟨hstand, hinv⟩ := hs
  refine ⟨fun z => by rw [h.zoneDef]; exact hstand z, hinv.of_alarmSet hw (h.wf hw) h.floors fun f => ?_⟩
  ext z
  simp only [State.mem_alarmSet, h.cond, h.zoneDef]

/-- The picture is kept when every urgency stays in step. -/
theorem keeps (hu : ∀ z, UrgencyHeld (s.zone z) → UrgencyHeld (t.zone z)) : KeepsPicture s t := by
  rintro ⟨hw, hz⟩
  refine ⟨⟨h.wf hw, fun z => ?_⟩, h.floorsSound hw⟩
  obtain ⟨hdates, hheld⟩ := (zoneInv_iff _).1 (hz z)
  exact (zoneInv_iff _).2 ⟨hdates.of_report (h.zone z), hu z hheld⟩
end SameRecords

namespace KeepsPicture

theorem refl (s : State) : KeepsPicture s s := fun h => ⟨h, id⟩

theorem trans {s t u : State} (h : KeepsPicture s t) (g : KeepsPicture t u) : KeepsPicture s u := fun hs =>
  have ⟨ht, hf⟩ := h hs
  have ⟨hu, hg⟩ := g ht
  ⟨hu, hg ∘ hf⟩

theorem of_eq {s t : State} (hd : t.tables.defs = s.tables.defs) (hz : t.zp = s.zp) : KeepsPicture s t := by
  refine (SameRecords.of_eq hd hz).keeps fun z hu => ?_
  rwa [State.zone, hz]

/-- What the crews' side writes keeps the picture. -/
theorem of_crewWrites {s t : State} (h : CrewWrites s t) : KeepsPicture s t := by
  exact h.attendedOnly.sameRecords.keeps fun z hu => hu.of_attended (h.attendedOnly.zone z)

theorem settle {s t : State} (h : KeepsPicture s t) : KeepsPicture s (settle t) :=
  h.trans (of_crewWrites (CrewWrites.refl.settle))

theorem whenRunning {s : State} {f : State → State} (h : KeepsPicture s (f s)) : KeepsPicture s (whenRunning s f) := by
  unfold Machine.whenRunning
  split
  · exact h
  · exact .refl s

theorem ite {s t : State} {c : Prop} [Decidable c] (h : c → KeepsPicture s t) : KeepsPicture s (if c then t else s) := by
  split
  · rename_i hc
    exact h hc
  · exact .refl s

/-- A picture with every live record at its start value is kept (R36, R60). -/
theorem of_cleared {s t : State} (hz : t.zp = { live := [], floors := [] })
    (hd : (∀ z, -8 ≤ (s.zoneDef z).floor) → ∀ z, -8 ≤ (t.zoneDef z).floor) : KeepsPicture s t := by
  have hzone : ∀ z, t.zone z = ZoneLive.start := fun z => by rw [State.zone, hz, Tab.get_nil]
  intro _
  refine ⟨⟨by rw [hz]; exact Tab.wf_nil _, fun z => by rw [hzone]; exact zoneInv_start⟩, fun hs => ⟨hd hs.1, ?_⟩⟩
  refine floorInv_of_noAlarm (by rw [hz]) fun z => ?_
  rw [hzone]
  decide
end KeepsPicture

/-! ### The zone change report (R70 to R75) -/

/-- Once the zones of a report that lists each with its condition have been listed, the urgencies are in step if those of the
other zones were. -/
theorem urgencyHeld_listed {chs : List Change} {s : State} (hafter : ∀ ch ∈ chs, (s.zone ch.zone).cond = ch.after)
    (hothers : ∀ y, (∀ ch ∈ chs, ch.zone ≠ y) → UrgencyHeld (s.zone y)) (y : Nat) :
    UrgencyHeld ((s.listed chs).zone y) := by
  induction chs generalizing s with
  | nil => exact hothers y (by simp)
  | cons ch chs ih =>
    have hcond := (reportOnly_listedZone ch s).cond
    refine ih (s := listedZone ch s) (fun x hx => ?_) (fun x hx => ?_)
    · rw [hcond]
      exact hafter x (List.mem_cons_of_mem _ hx)
    · rw [zone_listedZone]
      split
      · rename_i heq
        subst heq
        have := hafter ch List.mem_cons_self
        simp only [UrgencyHeld, this]
        split <;> simp_all
      · rename_i hne
        exact hothers x (by simpa [Ne.symm hne] using hx)

/-- Recomputing active zones keeps the urgencies in step (R69). -/
theorem urgencyHeld_recomputed {s : State} {zs : List Nat} (hzs : ∀ z ∈ zs, s.zoneActive z = true) (z : Nat)
    (h : UrgencyHeld (s.zone z)) : UrgencyHeld ((s.recomputed zs).zone z) := by
  rw [State.zone_recomputed]
  split
  · rename_i hz
    exact iff_of_true rfl (hzs z hz)
  · exact h

/-- After a report that lists each zone with the condition it has, every record is in step, if of the zones not listed every
record was. -/
theorem pictureInv_takeZoneReport {r : ZoneReport} {s : State} (hw : Tab.wf ZoneLive.start s.zp.live = true)
    (hdates : ∀ z, ZoneDates (s.zone z)) (hafter : ∀ ch ∈ r.changes, (s.zone ch.zone).cond = ch.after)
    (hothers : ∀ y, (∀ ch ∈ r.changes, ch.zone ≠ y) → UrgencyHeld (s.zone y)) : PictureInv (takeZoneReport r s) := by
  refine ⟨(reportOnly_takeZoneReport r s).wf hw, fun y => (zoneInv_iff _).2
    ⟨(hdates y).of_report ((reportOnly_takeZoneReport r s).zone y), ?_⟩⟩
  rw [takeZoneReport_eq]
  split
  · rename_i hnil
    exact hothers y (by simp [hnil])
  · have hheld : UrgencyHeld ((s.reckoned r).zone y) :=
      urgencyHeld_recomputed (fun z hz => ((State.mem_crossedZones _ _ _).1 hz).1) y
        (urgencyHeld_listed hafter hothers y)
    exact hheld.of_attended ((crewWrites_takeCarried ..).attendedOnly.zone y)

theorem keepsPicture_recomputeAndReport {s : State} {zs : List Nat} (hzs : ∀ z ∈ zs, s.zoneActive z = true) :
    KeepsPicture s (recomputeAndReport zs s) := by
  rw [recomputeAndReport_eq]
  have h := (s.reportOnly_recomputed zs).sameRecords.keeps (urgencyHeld_recomputed hzs)
  exact h.trans (.of_crewWrites (crewWrites_takeUrgency ..))

/-! ### A zone's record committed (R37, R38, R59) -/

theorem keepsPicture_commitZone {z : Nat} {mid : ZoneLive} {s : State} (hm : PictureInv s → Settles (s.zone z) mid) :
    KeepsPicture s (commitZone z mid s) := by
  intro hs
  obtain ⟨hw, hz⟩ := id hs
  rw [commitZone_eq]
  have hstored := s.zone_storeZone z (s.settledZone z mid)
  have hw' := s.wf_storeZone z (s.settledZone z mid) hw
  refine ⟨pictureInv_takeZoneReport hw' (fun y => ?_) (fun ch hch => ?_) (fun y hy => ?_),
    fun hf => (reportOnly_takeZoneReport _ _).sameRecords.floorsSound hw' (hf.storeZone z _ hw)⟩
  · rw [hstored]
    split
    · exact (hm hs).zoneDates _
    · exact ((zoneInv_iff _).1 (hz y)).1
  · rw [mem_changeOf hch]
    simp
  · rw [hstored]
    split
    · rename_i heq
      subst heq
      have hnil : changeOf y (s.zone y) (s.settledZone y mid) = [] := List.eq_nil_iff_forall_not_mem.2 fun ch hch =>
        hy ch hch (by rw [mem_changeOf hch])
      obtain ⟨-, hheld⟩ := (zoneInv_iff _).1 (hz y)
      have hu : (s.settledZone y mid).urgency = (s.zone y).urgency := (hm hs).urgency
      rw [UrgencyHeld, ← (changeOf_eq_nil.1 hnil).1, hu]
      exact hheld
    · exact ((zoneInv_iff _).1 (hz y)).2

/-! ### The picture's events (R44 to R60) -/

theorem keepsPicture_setIsolatedEvents (z : Nat) (n : Byte) (s : State) :
    KeepsPicture s (s.setZone z { s.zone z with isolatedEvents := n }) := by
  have hzone : ∀ y, (s.setZone z { s.zone z with isolatedEvents := n }).zone y =
      { s.zone y with isolatedEvents := if y = z then n else (s.zone y).isolatedEvents } := fun y => by
    rw [State.zone_setZone]
    split
    · subst_vars
      rfl
    · rfl
  rintro ⟨hw, hz⟩
  have hw' := Tab.wf_put hw z { s.zone z with isolatedEvents := n }
  refine ⟨⟨hw', fun y => by rw [hzone]; exact hz y⟩, fun hs => ⟨hs.1, hs.2.of_alarmSet hw hw' rfl fun f => ?_⟩⟩
  ext y
  simp only [State.mem_alarmSet, hzone]
  exact Iff.rfl

theorem keepsPicture_zoneEvent (z : Nat) (e : PointEvent) (s : State) : KeepsPicture s (zoneEvent z e s) := by
  unfold zoneEvent
  dsimp only
  split
  · exact keepsPicture_setIsolatedEvents z _ s
  · rename_i hi
    exact keepsPicture_commitZone fun hs => (hs.2 z).settles_applyEvent (by simpa using hi) s z e

theorem keepsPicture_pointEvent (e : PointEvent) (s : State) : KeepsPicture s (pointEvent e s) := by
  unfold pointEvent
  dsimp only
  split
  · exact .of_eq rfl rfl
  · exact keepsPicture_zoneEvent _ e s

theorem keepsPicture_windowExpires {z : Nat} {s : State} (h : s.windowDue z = true) :
    KeepsPicture s (windowExpires z s) := by
  refine keepsPicture_commitZone fun hs => (hs.2 z).settles_lapse ((hs.2 z).isolated_of_active ?_)
  have hv : (s.zone z).cond = .verifying := by
    unfold State.windowDue at h
    simp_all
  rw [hv]
  rfl

theorem keepsPicture_zoneIsolate (z : Nat) (on : Bool) (s : State) : KeepsPicture s (zoneIsolate z on s) := by
  unfold zoneIsolate
  dsimp only
  split
  · exact .refl s
  · split
    · exact .refl s
    · rename_i hne
      split
      · exact keepsPicture_commitZone fun _ => settles_isolated _
      · rename_i hon
        exact keepsPicture_commitZone fun hs => (hs.2 z).settles_unisolated (by simp_all)

/-- The picture once a PANEL_RESET has emptied the zones, before its report (R56). -/
def State.resetZones (s : State) : State :=
  { s with zp := { live := Tab.mapAll ZoneLive.start ZoneLive.panelReset s.zp.live, floors := [] } }

theorem panelReset_eq (s : State) : panelReset s = takeZoneReport ⟨s.resetChanges, s.resetCrossings⟩ s.resetZones := rfl

theorem State.zone_resetZones {s : State} (hw : Tab.wf ZoneLive.start s.zp.live = true) (z : Nat) :
    s.resetZones.zone z = (s.zone z).panelReset := Tab.get_mapAll hw rfl z

/-- A zone listed in a PANEL_RESET's report was active, and its entry says QUIET. -/
theorem State.mem_resetChanges (s : State) (ch : Change) : ch ∈ s.resetChanges ↔
    s.zoneActive ch.zone = true ∧ ch = ⟨ch.zone, (s.zone ch.zone).cond, .quiet, (s.zone ch.zone).alarms, 0⟩ := by
  simp only [State.resetChanges, List.mem_map, State.mem_activeZones]
  constructor
  · rintro ⟨z, hz, rfl⟩
    exact ⟨hz, rfl⟩
  · rintro ⟨hz, hch⟩
    exact ⟨ch.zone, hz, hch.symm⟩

theorem ZoneInv.panelReset_cond {l : ZoneLive} (h : ZoneInv l) :
    l.panelReset.cond = if l.isolated = true then .isolated else .quiet := by
  unfold ZoneLive.panelReset
  split
  · exact h.cond_isolated_iff.2 ‹_›
  · rfl

theorem ZoneInv.panelReset_dates {l : ZoneLive} (h : ZoneInv l) : ZoneDates l.panelReset := by
  unfold ZoneLive.panelReset
  split
  · exact ((zoneInv_iff l).1 h).1
  · rename_i hi
    rw [Bool.not_eq_true] at hi
    simp [ZoneDates, ZoneLive.emptied, deriveCond, hi]

theorem keepsPicture_panelReset (s : State) : KeepsPicture s (panelReset s) := by
  rintro ⟨hw, hz⟩
  have hw' : Tab.wf ZoneLive.start s.resetZones.zp.live = true := Tab.wf_mapAll hw _
  rw [panelReset_eq]
  refine ⟨pictureInv_takeZoneReport hw' (fun z => ?_) (fun ch hch => ?_) (fun y hy => ?_), fun hf =>
    (reportOnly_takeZoneReport _ _).sameRecords.floorsSound hw' ⟨hf.1, floorInv_of_noAlarm rfl fun z => ?_⟩⟩
  · rw [State.zone_resetZones hw]
    exact (hz z).panelReset_dates
  · obtain ⟨hactive, hch⟩ := (s.mem_resetChanges ch).1 hch
    rw [State.zone_resetZones hw, (hz ch.zone).panelReset_cond, hch, (hz ch.zone).isolated_of_active hactive]
    rfl
  · have hquiet : ¬ (s.zone y).cond.active = true := fun ha =>
      hy ⟨y, (s.zone y).cond, .quiet, (s.zone y).alarms, 0⟩ ((s.mem_resetChanges _).2 ⟨ha, rfl⟩) rfl
    have hnone : ¬ (s.zone y).urgency.isSome = true := mt ((zoneInv_iff _).1 (hz y)).2.1 hquiet
    rw [State.zone_resetZones hw, UrgencyHeld, (hz y).panelReset_cond]
    refine iff_of_false ?_ (by split <;> decide)
    unfold ZoneLive.panelReset
    split <;> exact hnone
  · rw [State.zone_resetZones hw, (hz z).panelReset_cond]
    split <;> decide

theorem keepsPicture_pictureClear (s : State) : KeepsPicture s (pictureClear s) := by
  have h : KeepsPicture s { s with zp := { live := [], floors := [] }, ageSteps := [] } := .of_cleared rfl id
  exact h.trans (.of_crewWrites (crewWrites_takeCleared _))

/-! ### The Urgency Unit's other events (R71 to R74) -/

theorem keepsPicture_ageStepFalls {z : Nat} {s : State} (h : s.ageStepDue z = true) :
    KeepsPicture s (ageStepFalls z s) := by
  have h1 : KeepsPicture s (s.setAgeStep z (s.nextAgeStep z ((s.ageStep z).getD 0))) := .of_eq rfl rfl
  refine h1.trans (keepsPicture_recomputeAndReport fun y hy => ?_)
  have ha : (s.zone z).cond = .alarm := by
    unfold State.ageStepDue at h
    simp_all
  rw [List.mem_singleton.1 hy]
  show (s.zone z).cond.active = true
  rw [ha]
  rfl

theorem rescheduleAll_eq (s : State) : rescheduleAll s = { s with ageSteps := (rescheduleAll s).ageSteps } :=
  foldl_rel (R := fun s t => t = { s with ageSteps := t.ageSteps }) (fun _ => rfl) (fun h g => by rw [g, h])
    (fun _ _ => rfl) _ s

theorem State.mem_configMoved {s : State} {old new : ConfigTable} {z : Nat} (h : z ∈ s.configMoved old new) :
    s.zoneActive z = true := (s.mem_activeZones z).1 (List.mem_filter.1 h).1

theorem keepsPicture_takeConfigChange (old : ConfigTable) (s : State) : KeepsPicture s (takeConfigChange old s) := by
  unfold takeConfigChange
  dsimp only
  split
  · exact keepsPicture_recomputeAndReport fun z hz => State.mem_configMoved hz
  · have hkeep : KeepsPicture s (rescheduleAll s) := .of_eq (by rw [rescheduleAll_eq]) (by rw [rescheduleAll_eq])
    refine hkeep.trans (keepsPicture_recomputeAndReport fun z hz => ?_)
    rw [rescheduleAll_eq]
    exact State.mem_configMoved hz

theorem keepsPicture_setConfig (t : ConfigTable) (s : State) : KeepsPicture s (setConfig t s) :=
  (KeepsPicture.of_eq (t := setTables { s.tables with config := t } s) rfl rfl).trans (keepsPicture_takeConfigChange _ _)

/-! ### The tables' writes (R24 to R28, R134, R164 to R169) -/

/-- A zone's definition written while the zone is QUIET moves no zone in ALARM to another floor (R164). -/
theorem keepsPicture_zoneDef {z : Nat} {d : ZoneDef} {s : State} (hq : (s.zone z).cond = .quiet) (hd : -8 ≤ d.floor) :
    KeepsPicture s (setTables { s.tables with defs := Tab.put ZoneDef.cold s.tables.defs z d } s) := by
  have hdef : ∀ y, (setTables { s.tables with defs := Tab.put ZoneDef.cold s.tables.defs z d } s).zoneDef y =
      if y = z then d else s.zoneDef y := fun y => Tab.get_put ..
  intro hs
  refine ⟨hs, fun hf => ⟨fun y => ?_, hf.2.of_alarmSet hs.1 hs.1 rfl fun f => ?_⟩⟩
  · rw [hdef]
    split
    · exact hd
    · exact hf.1 y
  · ext y
    have hzone : (setTables { s.tables with defs := Tab.put ZoneDef.cold s.tables.defs z d } s).zone y = s.zone y := rfl
    rw [State.mem_alarmSet, State.mem_alarmSet, hzone, hdef]
    split
    · subst_vars
      simp [hq]
    · rfl

theorem ZoneDef.floor_of_inRange {d : ZoneDef} (h : d.inRange = true) : -8 ≤ d.floor := by
  simp only [ZoneDef.inRange, Bool.and_eq_true, decide_eq_true_eq] at h
  tauto

theorem keepsPicture_writeZoneDef (z : Nat) (d : ZoneDef) (s : State) : KeepsPicture s (writeZoneDef z d s).2 := by
  unfold writeZoneDef
  split
  · exact .refl s
  · split
    · exact .refl s
    · rename_i hd
      split
      · exact .refl s
      · rename_i hq
        exact keepsPicture_zoneDef (by simpa using hq) (ZoneDef.floor_of_inRange (by simpa using hd))

end Sys2Proof.Machine
end

section
/-! Every command keeps the picture and the floor counts (R36, R37, R46, R51, R59, R69). -/

namespace Sys2Proof.Machine

namespace KeepsPicture

/-- The Trunk Interface, Start Control and the crews are no part of the picture. -/
theorem of_trunkStateOnly {s t : State} (h : TrunkStateOnly s t) : KeepsPicture s t :=
  of_eq (by rw [h]) (by rw [h])

theorem modPort {s t : State} (h : KeepsPicture s t) (p : Port) (f : PortUnit → PortUnit) :
    KeepsPicture s (t.modPort p f) := h.trans (of_eq rfl rfl)

theorem reply {s t : State} (h : KeepsPicture s t) (src : Byte) (id : Word16) (r : MgmtResult) (d : List Byte) :
    KeepsPicture s (reply src id r d t) := h.trans (of_eq (congrArg _ (reply_tables ..)) rfl)

end KeepsPicture

/-! ### The Management Responder (R157 to R178) -/

theorem keepsPicture_mapInsert (e : MapEntry) (s : State) : KeepsPicture s (mapInsert e s).2.2 := by
  unfold mapInsert
  split
  · exact .refl s
  · split
    · exact .refl s
    · split
      · exact .refl s
      · exact .of_eq rfl rfl

theorem keepsPicture_mapDelete (n f : Nat) (s : State) : KeepsPicture s (mapDelete n f s).2 := by
  unfold mapDelete
  split
  · exact .refl s
  · split
    · exact .of_eq rfl rfl
    · exact .refl s

theorem keepsPicture_writeMap (i : Nat) (e : MapEntry) (s : State) : KeepsPicture s (writeMap i e s).2 := by
  unfold writeMap
  dsimp only
  split
  · exact .refl s
  · split
    · exact .refl s
    · split
      · exact .refl s
      · exact .of_eq rfl rfl

theorem keepsPicture_writeFallback (n z : Nat) (s : State) : KeepsPicture s (writeFallback n z s).2 := by
  unfold writeFallback
  split
  · exact .refl s
  · split
    · exact .refl s
    · exact .of_eq rfl rfl

theorem keepsPicture_writeBonus (cls b : Nat) (s : State) : KeepsPicture s (writeBonus cls b s).2 := by
  unfold writeBonus
  split
  · exact .refl s
  · split
    · exact .refl s
    · exact keepsPicture_setConfig _ s

theorem keepsPicture_writeSheet (i : Nat) (r : SheetRec) (s : State) : KeepsPicture s (writeSheet i r s).2 := by
  unfold writeSheet
  split
  · exact .of_eq rfl rfl
  · exact .refl s

theorem keepsPicture_writeProfile (n : Nat) (p : Profile) (s : State) : KeepsPicture s (writeProfile n p s).2 := by
  unfold writeProfile profileWritten
  split
  · exact .refl s
  · rename_i c _
    have h : KeepsPicture s (setTables { s.tables with profiles := s.tables.profiles.set c p } s) := .of_eq rfl rfl
    exact h.trans (.ite fun _ => .of_crewWrites (.offerStep _ c))

theorem keepsPicture_writeConfig (src : Byte) (id : Word16) (i : Nat) (t : ConfigTable) (s : State) :
    KeepsPicture s (writeConfig src id i t s) := by
  have refused : ∀ c, KeepsPicture s (reply src id c [] s) := fun c => (KeepsPicture.refl s).reply _ _ c _
  unfold writeConfig
  split
  · exact refused _
  · split
    · exact refused _
    · split
      · exact refused _
      · split
        · exact (keepsPicture_setConfig t s).reply _ _ _ _
        · exact ((refused _).trans (keepsPicture_setConfig t _)).trans (.of_eq rfl rfl)

theorem keepsPicture_planStage (o : Nat) (bs : List Byte) (s : State) : KeepsPicture s (planStage o bs s).2 := by
  unfold planStage
  split
  · exact .refl s
  · exact .of_eq rfl rfl

theorem keepsPicture_readerRequest (src : Byte) (id : Word16) (op : Byte) (r : MgmtResult) (w : WaitingOp) (s : State) :
    KeepsPicture s (readerRequest src id op r w s) := by
  unfold readerRequest
  split
  · exact .of_eq rfl rfl
  · exact (KeepsPicture.refl s).reply _ _ _ _

theorem keepsPicture_linkCommand {f : Link → State → State} {s : State} (hf : ∀ c, CrewWrites s (f c s)) (src : Byte)
    (id : Word16) (n : Nat) : KeepsPicture s (linkCommand f src id n s) := by
  unfold linkCommand
  split
  · exact (KeepsPicture.refl s).reply _ _ _ _
  · exact (KeepsPicture.of_crewWrites (hf _)).reply _ _ _ _

theorem keepsPicture_rotationCommand (src : Byte) (id : Word16) (n v : Nat) (s : State) :
    KeepsPicture s (rotationCommand src id n v s) := by
  unfold rotationCommand
  split
  · exact (KeepsPicture.refl s).reply _ _ _ _
  · split
    · exact (KeepsPicture.refl s).reply _ _ _ _
    · exact (KeepsPicture.of_crewWrites (crewWrites_setRotation _ v s)).reply _ _ _ _

theorem keepsPicture_carryOut (src : Byte) (id : Word16) (r : MgmtReq) (s : State) :
    KeepsPicture s (carryOut src id r s) := by
  cases r with
  | tableRead t i => exact (KeepsPicture.refl s).reply _ _ _ _
  | writeMap i e => exact (keepsPicture_writeMap i e s).reply _ _ _ _
  | writeFallback i z => exact (keepsPicture_writeFallback i z s).reply _ _ _ _
  | writeZoneDef i d => exact (keepsPicture_writeZoneDef i d s).reply _ _ _ _
  | writeBonus i b => exact (keepsPicture_writeBonus i b s).reply _ _ _ _
  | writeSheet i x => exact (keepsPicture_writeSheet i x s).reply _ _ _ _
  | writeProfile i p => exact (keepsPicture_writeProfile i p s).reply _ _ _ _
  | writeConfig i t => exact keepsPicture_writeConfig src id i t s
  | mapInsert e => exact (keepsPicture_mapInsert e s).reply _ _ _ _
  | mapDelete n f => exact (keepsPicture_mapDelete n f s).reply _ _ _ _
  | mapClear => exact (KeepsPicture.of_eq (t := mapClear s) rfl rfl).reply _ _ _ _
  | planStage o bs => exact (keepsPicture_planStage o bs s).reply _ _ _ _
  | planCommit p => exact keepsPicture_readerRequest _ _ _ _ _ s
  | planRead p o n => exact keepsPicture_readerRequest _ _ _ _ _ s
  | zoneRead z =>
    simp only [carryOut]
    split <;> exact (KeepsPicture.refl s).reply _ _ _ _
  | statusRead clear =>
    have h : KeepsPicture s (if clear = true then clearCounters s else s) := .ite fun _ => .of_eq rfl rfl
    exact h.reply _ _ _ _
  | pictureClear =>
    exact ((keepsPicture_pictureClear s).trans (.of_trunkStateOnly (trunkStateOnly_callResync _))).reply _ _ _ _
  | setRotation n v => exact keepsPicture_rotationCommand src id n v s
  | linkDisable n => exact keepsPicture_linkCommand (fun c => crewWrites_disableLink c s) src id n
  | linkEnable n => exact keepsPicture_linkCommand (fun c => crewWrites_enableLink c s) src id n
  | configSave => exact .of_eq rfl rfl

theorem keepsPicture_takeMgmt (src : Byte) (id : Word16) (op : Byte) (args : List Byte) (s : State) :
    KeepsPicture s (takeMgmt src id op args s) := by
  have refused : ∀ c, KeepsPicture s (reply src id c [] s) := fun c => (KeepsPicture.refl s).reply _ _ c _
  unfold takeMgmt
  split
  · exact refused _
  · split
    · exact refused _
    · split
      · exact refused _
      · exact refused _
      · exact refused _
      · split
        · exact refused _
        · exact keepsPicture_carryOut src id _ s

theorem keepsPicture_mgmtRow (src : Byte) (id : Word16) (op : Byte) (args : List Byte) (s : State) :
    KeepsPicture s (mgmtRow src id op args s) :=
  KeepsPicture.whenRunning (keepsPicture_takeMgmt src id op args s).settle

theorem keepsPicture_completeRequest (r : MgmtResult) (d : List Byte) (s : State) :
    KeepsPicture s (completeRequest r d s) := by
  unfold completeRequest
  split
  · exact .refl s
  · exact (KeepsPicture.of_eq (t := { s with mr := none }) rfl rfl).reply _ _ _ _

theorem keepsPicture_programDone (ok : Bool) (s : State) : KeepsPicture s (programDone ok s) := by
  unfold programDone
  split
  · rename_i p bytes _
    have h : KeepsPicture s (finishProgram ok p bytes s).2 := by
      cases ok <;> exact .of_eq rfl rfl
    exact (h.trans (keepsPicture_completeRequest _ _ _)).settle
  · exact .refl s

theorem keepsPicture_planReadDone (ok : Bool) (s : State) : KeepsPicture s (planReadDone ok s) := by
  unfold planReadDone
  split
  · rename_i p o n _
    have h : KeepsPicture s (finishRead ok p o n s).2.2 := by
      cases ok <;> exact .of_eq rfl rfl
    exact (h.trans (keepsPicture_completeRequest _ _ _)).settle
  · exact .refl s

/-! ### Frames received (R1 to R12) -/

theorem keepsPicture_resyncDone (s : State) : KeepsPicture s (resyncDone s) := by
  unfold resyncDone
  split
  · exact .of_eq (by simp) (by simp)
  · exact .refl s

theorem keepsPicture_hand (f : Frame) (s : State) : KeepsPicture s (hand f s) := by
  unfold hand
  split
  · split
    · exact keepsPicture_pointEvent _ s
    · exact .refl s
  · split
    · exact keepsPicture_panelReset s
    · split
      · split
        · exact keepsPicture_zoneIsolate _ _ s
        · exact .refl s
      · split
        · split
          · exact .of_eq rfl rfl
          · exact .refl s
        · split
          · exact keepsPicture_resyncDone s
          · split
            · unfold takeMgmtPayload
              split
              · exact keepsPicture_takeMgmt _ _ _ _ s
              · exact .refl s
            · exact .refl s

theorem keepsPicture_handTests (p : Port) (f : Frame) (s : State) : KeepsPicture s (handTests p f s) := by
  unfold handTests
  split
  · exact .modPort (.refl s) p _
  · split
    · exact .refl s
    · exact (KeepsPicture.of_eq (t := setSeq f s) rfl rfl).trans (keepsPicture_hand f _)

theorem keepsPicture_dispatch (p : Port) (f : Frame) (s : State) : KeepsPicture s (dispatch p f s) := by
  have repeated : KeepsPicture s (s.modPort (otherPort p) (PortUnit.placeRepeat f)) := .modPort (.refl s) _ _
  unfold dispatch
  dsimp only
  split
  · exact .refl s
  · split
    · exact .modPort (.refl s) p _
    · split
      · exact .ite fun _ => keepsPicture_handTests p f s
      · split
        · exact repeated.trans (keepsPicture_handTests p f _)
        · exact repeated

theorem keepsPicture_setUp (p : Port) (up : Bool) (s : State) : KeepsPicture s (setUp p up s) :=
  .of_trunkStateOnly (trunkStateOnly_setUp p up s)

theorem keepsPicture_soundFrame (p : Port) (f : Frame) (s : State) : KeepsPicture s (soundFrame p f s) := by
  have staged := (keepsPicture_setUp p true s).modPort p (fun u => { u with stage := some f })
  have handed := staged.trans (keepsPicture_dispatch p f _)
  exact (handed.modPort p (fun u => { u with stage := none })).settle

theorem keepsPicture_trunkFrameDone (p : Port) (buf : List Byte) (reg : Word16) (s : State) :
    KeepsPicture s (trunkFrameDone p buf reg s) := by
  have hunting := KeepsPicture.modPort (.refl s) p (fun u => { u with asm := .hunting })
  unfold trunkFrameDone
  dsimp only
  split
  · split
    · exact hunting.trans (keepsPicture_soundFrame p _ _)
    · exact hunting
  · exact hunting.modPort p _

theorem keepsPicture_trunkByte (p : Port) (b : Byte) (s : State) : KeepsPicture s (trunkByte p b s) := by
  unfold trunkByte
  dsimp only
  split
  · exact .modPort (.refl s) p _
  · split
    · exact keepsPicture_trunkFrameDone p _ _ s
    · exact .modPort (.refl s) p _

theorem keepsPicture_trunkChar (p : Port) (ch : LineChar) (s : State) : KeepsPicture s (trunkChar p ch s) := by
  have heard := KeepsPicture.modPort (.refl s) p (fun u => { u with receiver := receiverAfter ch })
  unfold trunkChar
  dsimp only
  split
  · exact .refl s
  · cases (s.port p).asm.take ch with
    | ignored => exact heard
    | byte b => exact heard.trans (keepsPicture_trunkByte p b _)
    | _ => exact heard.modPort p _

/-! ### Starts (R179 to R183) -/

/-- The working state lost: every live record is at its start value, the definitions stand. -/
theorem keepsPicture_loseWorking (s : State) : KeepsPicture s (loseWorking s) :=
  .of_cleared rfl fun h z => by
    rw [State.zoneDef, loseWorking_tables]
    exact h z

theorem keepsPicture_beginStart (s : State) : KeepsPicture s (beginStart s) := by
  refine .of_cleared (by rw [beginStart_eq]; rfl) fun h z => ?_
  obtain ⟨-, -, ht, -⟩ | ⟨-, -, ht⟩ := beginStart_kind s
  · rw [State.zoneDef, ht]
    exact h z
  · rw [State.zoneDef, ht, show Retained.cold.defs = [] from rfl, Tab.get_nil]
    decide

theorem keepsPicture_finishStart (ok : Bool) (s : State) : KeepsPicture s (finishStart ok s) := by
  refine .of_cleared (callResync_zp _) fun h z => ?_
  have hdefs : (finishStart ok s).tables.defs = s.tables.defs := by
    rw [finishStart_tables]
    cases hk : s.sc.kind with
    | warm => rw [settleTables_warm hk]
    | cold =>
      rw [settleTables_cold hk]
      rfl
  rw [State.zoneDef, hdefs]
  exact h z

/-! ### Every command -/

theorem keepsPicture_crewRow (c : Link) (kind : Byte) (r : Request) (s : State) :
    KeepsPicture s (crewRow c kind r s) :=
  .whenRunning (.ite fun _ => .settle (.of_crewWrites (crewWrites_takeRequest c kind r s)))

/-- What a command answers keeps the picture. -/
theorem keepsPicture_exec (i : Instr) (s : State) : ∃ t, exec i s = .next t ∧ KeepsPicture s t := by
  have crews : ∀ {f : State → State}, CrewWrites s (f s) → KeepsPicture s (whenRunning s f) := fun h =>
    .whenRunning (.of_crewWrites h)
  cases i with
  | trunkFrameComplete p b | trunkCharacterReceived p b => exact ⟨_, rfl, .whenRunning (keepsPicture_trunkChar p _ s)⟩
  | trunkFrameDiscard p ch => exact ⟨_, rfl, .whenRunning (keepsPicture_trunkChar p ch s)⟩
  | trunkPartialFrameTimeout p => exact ⟨_, rfl, .whenRunning (.ite fun _ => .modPort (.refl s) p _)⟩
  | breakTimerExpiry p | silenceTimerExpiry p =>
    exact ⟨_, rfl, .whenRunning (.ite fun _ => (keepsPicture_setUp p false s).settle)⟩
  | stripHoldExpiry | uptimeTick => exact ⟨_, rfl, .whenRunning (.of_eq rfl rfl)⟩
  | trunkTransmitComplete p => exact ⟨_, rfl, .whenRunning (.modPort (.refl s) p _)⟩
  | trunkReceiveLevelChange p l => exact ⟨_, rfl, .modPort (.refl s) p _⟩
  | verifyWindowExpiry z => exact ⟨_, rfl, .whenRunning (.ite fun h => (keepsPicture_windowExpires h).settle)⟩
  | ageStep z => exact ⟨_, rfl, .whenRunning (.ite fun h => (keepsPicture_ageStepFalls h).settle)⟩
  | offerTimeout c =>
    exact ⟨_, rfl, crews (.ite (((CrewWrites.modCrew s c _).trans (.offerStep _ c)).settle))⟩
  | resyncTimeout =>
    exact ⟨_, rfl, .whenRunning (.ite fun _ => .settle (.of_eq (congrArg _ (setStatus_tables ..)) (setStatus_zp ..)))⟩
  | presenceChange c high | terminalReadyChange c high => exact ⟨_, rfl, .of_eq rfl rfl⟩
  | linkAttach a => exact ⟨_, rfl, crews (.ite ((crewWrites_attachLink a.link a.rx s).settle))⟩
  | linkDetach c => exact ⟨_, rfl, crews (.ite (crewWrites_leaveAttached c _ s))⟩
  | crewFrameComplete c b | receiveOverrun c b => exact ⟨_, rfl, crews (crewWrites_crewChar c _ s)⟩
  | crewFrameDiscard c ch => exact ⟨_, rfl, crews (crewWrites_crewChar c ch s)⟩
  | crewCharacterReceived c b =>
    exact ⟨_, rfl, crews ((crewWrites_rxBack c b.back s).trans (crewWrites_crewChar c _ _))⟩
  | crewPartialFrameTimeout c => exact ⟨_, rfl, crews (.ite (.modLink s c _))⟩
  | crewCharacterTaken c => exact ⟨_, rfl, crews (crewWrites_takeChar c s)⟩
  | crewFrameWritten c => exact ⟨_, rfl, crews (crewWrites_frameWritten c s)⟩
  | accept c | decline c | release c | sectors c | sheetReqById c | sheetReqByZone c | sheetStopNamed c | releaseTop c
  | poll c | list c | sheetStopAll c | unknownRequest c => exact ⟨_, rfl, keepsPicture_crewRow c _ _ s⟩
  | fillReadComplete => exact ⟨_, rfl, crews (.ite ((crewWrites_fillComplete s).settle))⟩
  | fillReadFail => exact ⟨_, rfl, crews (.ite ((crewWrites_fillFail s).settle))⟩
  | programComplete ok => exact ⟨_, rfl, .whenRunning (keepsPicture_programDone ok s)⟩
  | planReadComplete ok => exact ⟨_, rfl, .whenRunning (keepsPicture_planReadDone ok s)⟩
  | start => exact ⟨_, rfl, keepsPicture_beginStart s⟩
  | startComplete ok => exact ⟨_, rfl, .ite fun _ => keepsPicture_finishStart ok s⟩
  | holdoverLow => exact ⟨_, rfl, by split <;> exact .of_eq rfl rfl⟩
  | mainPowerLoss => exact ⟨_, rfl, .ite fun _ => (keepsPicture_loseWorking s).trans (.of_eq rfl rfl)⟩
  | _ => exact ⟨_, exec_of_requestOf rfl s, keepsPicture_mgmtRow _ _ _ _ s⟩

theorem keepsPicture_step {s t : State} (h : step s = .next t) : KeepsPicture s t := by
  unfold step at h
  split at h
  · obtain rfl := Host.Outcome.next.inj h
    exact .refl s
  · rename_i c rest _
    obtain ⟨u, hu, hkeeps⟩ := keepsPicture_exec c (s.withPending rest)
    obtain rfl := Host.Outcome.next.inj (hu.symm.trans h)
    exact (KeepsPicture.of_eq (t := s.withPending rest) rfl rfl).trans hkeeps

/-- Every floor of a zone definition in range has a count of its own. -/
theorem TablesInv.floors_stand {s : State} (h : TablesInv s) (z : Nat) : -8 ≤ (s.zoneDef z).floor := by
  obtain ⟨-, -, hdefs, -⟩ := h
  by_cases hz : s.zoneDef z = ZoneDef.cold
  · rw [hz]
    decide
  · exact ZoneDef.floor_of_inRange (hdefs _ (Tab.mem_of_get hz)).2.2

/-- Settles O58: each event either leaves the conditions and the dates of every zone, or ends the change of a zone by
deriving them, and the report that follows computes the urgencies. -/
theorem stepKeepsPicture : Obligations.StepKeepsPicture := by
  unfold Obligations.StepKeepsPicture
  intro s t h ht
  exact (keepsPicture_step ht h).1

/-- Settles O59: a floor's count follows each zone's record into and out of ALARM. -/
theorem stepKeepsFloorCounts : Obligations.StepKeepsFloorCounts := by
  unfold Obligations.StepKeepsFloorCounts
  intro s t h htables hfloors ht
  exact ((keepsPicture_step ht h).2 ⟨htables.floors_stand, hfloors⟩).2

end Sys2Proof.Machine
end

section
/-! What a carried zone change report does to each crew (R82, R83, R88, R101). -/

namespace Sys2Proof.Machine

/-! ### One crew -/

/-- An attended zone whose urgency alone changed owes its crew an UPDATE (R101 step 3). -/
def Crew.noteUrgency (k : Crew) (z : Nat) : Crew := if k.attended.contains z then k.setMark z .update else k

/-- `k'` is `k` but for its marks and what they renew of the notice in flight. -/
def MarksOnly (k k' : Crew) : Prop := k' = { k with marks := k'.marks, flight := k'.flight }

theorem MarksOnly.refl (k : Crew) : MarksOnly k k := rfl

theorem MarksOnly.trans {k k' k'' : Crew} (h : MarksOnly k k') (g : MarksOnly k' k'') : MarksOnly k k'' := by
  unfold MarksOnly at *
  rw [g, h]

theorem marksOnly_setMark (k : Crew) (z : Nat) (m : Mark) : MarksOnly k (k.setMark z m) := k.setMark_eq z m

theorem marksOnly_noteUrgency (k : Crew) (z : Nat) : MarksOnly k (k.noteUrgency z) := by
  unfold Crew.noteUrgency
  split
  · exact marksOnly_setMark k z _
  · exact .refl k

section marked
variable {k k' : Crew} (h : MarksOnly k k')
include h
theorem MarksOnly.live : k'.live = k.live := by rw [h]
theorem MarksOnly.pending : k'.pending = k.pending := by rw [h]
theorem MarksOnly.attended : k'.attended = k.attended := by rw [h]
theorem MarksOnly.aside : k'.aside = k.aside := by rw [h]
theorem MarksOnly.rc : k'.rc = k.rc := by rw [h]
theorem MarksOnly.offer : k'.offer = k.offer := by rw [h]
theorem MarksOnly.systemDue : k'.systemDue = k.systemDue := by rw [h]
end marked

theorem Crew.mark_noteUrgency (k : Crew) {z y : Nat} (h : y ≠ z) : (k.noteUrgency z).mark y = k.mark y := by
  unfold Crew.noteUrgency
  split
  · simp [Crew.mark_setMark, h]
  · rfl

/-- Zones noted for a crew in turn (R101 step 3). -/
def Crew.noteUrgencies (k : Crew) (us : List UrgencyChange) : Crew := us.foldl (fun k u => k.noteUrgency u.zone) k

theorem marksOnly_noteUrgencies (k : Crew) (us : List UrgencyChange) : MarksOnly k (k.noteUrgencies us) :=
  List.foldlRecOn us _ (.refl k) fun _ h u _ => h.trans (marksOnly_noteUrgency _ u.zone)

/-- Only the marks of the zones noted move. -/
theorem Crew.mark_noteUrgencies (k : Crew) {us : List UrgencyChange} {y : Nat} (h : ∀ u ∈ us, u.zone ≠ y) :
    (k.noteUrgencies us).mark y = k.mark y :=
  List.foldlRecOn (motive := fun k' : Crew => k'.mark y = k.mark y) us _ rfl fun (k' : Crew) ih u hu =>
    (k'.mark_noteUrgency (Ne.symm (h u hu))).trans ih

/-- An offer names one zone at most. -/
theorem Offer.names_unique {o : Offer} {y z : Nat} (hy : o.names y = true) (hz : o.names z = true) : y = z := by
  cases o <;> simp_all [Offer.names]

theorem Offer.outNames_names {o : Offer} {z : Nat} (h : o.outNames z = true) : o.names z = true := by
  cases o <;> simp_all [Offer.names, Offer.outNames]

/-- The offer of a crew once its offer naming a zone has ended, if it did. -/
theorem Crew.offer_endOffer (k : Crew) (z : Nat) : (k.endOffer z).offer = if k.offer.names z then .none else k.offer := by
  unfold Crew.endOffer
  split <;> rfl

section gone
variable (k : Crew) (z : Nat) (iso : Bool) (y : Nat)

/-- A gone zone's crew, before the mark that it may be owed. -/
def Crew.dropped (k : Crew) (z : Nat) : Crew :=
  ({ k with pending := without k.pending z, attended := without k.attended z, aside := without k.aside z } : Crew).endOffer z

theorem Crew.zoneGone_marksOnly : MarksOnly (k.dropped z) (k.zoneGone z iso) := by
  unfold Crew.zoneGone
  dsimp only
  split
  · exact marksOnly_setMark _ z _
  · exact .refl _

theorem Crew.mem_pending_zoneGone : y ∈ (k.zoneGone z iso).pending ↔ y ∈ k.pending ∧ y ≠ z := by
  simp [(k.zoneGone_marksOnly z iso).pending, Crew.dropped]
theorem Crew.mem_attended_zoneGone : y ∈ (k.zoneGone z iso).attended ↔ y ∈ k.attended ∧ y ≠ z := by
  simp [(k.zoneGone_marksOnly z iso).attended, Crew.dropped]
theorem Crew.mem_aside_zoneGone : y ∈ (k.zoneGone z iso).aside ↔ y ∈ k.aside ∧ y ≠ z := by
  simp [(k.zoneGone_marksOnly z iso).aside, Crew.dropped]
@[simp] theorem Crew.live_zoneGone : (k.zoneGone z iso).live = k.live := by
  simp [(k.zoneGone_marksOnly z iso).live, Crew.dropped]
@[simp] theorem Crew.rc_zoneGone : (k.zoneGone z iso).rc = k.rc := by
  simp [(k.zoneGone_marksOnly z iso).rc, Crew.dropped]
@[simp] theorem Crew.systemDue_zoneGone : (k.zoneGone z iso).systemDue = k.systemDue := by
  simp [(k.zoneGone_marksOnly z iso).systemDue, Crew.dropped]

theorem Crew.offer_zoneGone : (k.zoneGone z iso).offer = if k.offer.names z then .none else k.offer := by
  rw [(k.zoneGone_marksOnly z iso).offer, Crew.dropped, Crew.offer_endOffer]

/-- The offer after a zone has gone names what it named, but not that zone. -/
theorem Crew.names_zoneGone : (k.zoneGone z iso).offer.names y = true ↔ k.offer.names y = true ∧ y ≠ z := by
  rw [Crew.offer_zoneGone]
  split
  · rename_i hz
    simp only [Offer.names, Bool.false_eq_true, false_iff, not_and, not_not]
    exact fun hy => Offer.names_unique hy hz
  · rename_i hz
    exact ⟨fun hy => ⟨hy, fun heq => hz (heq ▸ hy)⟩, fun h => h.1⟩

theorem Crew.outNames_zoneGone : (k.zoneGone z iso).offer.outNames y = true ↔ k.offer.outNames y = true ∧ y ≠ z := by
  rw [Crew.offer_zoneGone]
  split
  · rename_i hz
    simp only [Offer.outNames, Bool.false_eq_true, false_iff, not_and, not_not]
    exact fun hy => Offer.names_unique (Offer.outNames_names hy) hz
  · rename_i hz
    exact ⟨fun hy => ⟨hy, fun heq => hz (heq ▸ Offer.outNames_names hy)⟩, fun h => h.1⟩

/-- A crew that attended a zone or had its offer OUT is owed a CLEAR or ISOLATE when the zone goes (R83). -/
theorem Crew.mark_zoneGone : (k.zoneGone z iso).mark y =
    if y = z ∧ (z ∈ k.attended ∨ k.offer.outNames z = true) then some (if iso then .isolate else .clear)
    else k.mark y := by
  have hk : ∀ x, (k.dropped z).mark x = k.mark x := fun x => by
    unfold Crew.dropped Crew.mark
    rw [Crew.endOffer_marks]
  have hstands : ∀ held, markStands held (if iso then .isolate else .clear) = false := fun held => by
    cases iso <;> rfl
  have ht : (k.attended.contains z || k.offer.outNames z) = true ↔ z ∈ k.attended ∨ k.offer.outNames z = true := by
    simp
  unfold Crew.zoneGone
  simp only [ht]
  split
  · rename_i htold
    refine (Crew.mark_setMark (k.dropped z) z y _).trans ?_
    rw [hstands, hk]
    simp [htold]
  · rename_i htold
    refine (hk y).trans ?_
    simp [htold]
end gone

/-- Zones that have all become QUIET gone from a crew in turn (R83). -/
def Crew.zonesGone (k : Crew) (zs : List Nat) : Crew := zs.foldl (fun k z => k.zoneGone z false) k

/-- What a crew holds once some zones have gone, for one of them: nothing, and a CLEAR if it attended the zone or had its
offer OUT. -/
theorem Crew.zonesGone_mem (k : Crew) {zs : List Nat} {y : Nat} (h : y ∈ zs) :
    y ∉ (k.zonesGone zs).pending ∧ y ∉ (k.zonesGone zs).attended ∧ y ∉ (k.zonesGone zs).aside ∧
    (k.zonesGone zs).offer.names y = false ∧
    (y ∈ k.attended ∨ k.offer.outNames y = true → (k.zonesGone zs).mark y = some .clear) := by
  have kept : ∀ (zs : List Nat) (k : Crew), y ∉ k.pending ∧ y ∉ k.attended ∧ y ∉ k.aside ∧ k.offer.names y = false →
      (k.zonesGone zs).mark y = k.mark y ∧ y ∉ (k.zonesGone zs).pending ∧ y ∉ (k.zonesGone zs).attended ∧
        y ∉ (k.zonesGone zs).aside ∧ (k.zonesGone zs).offer.names y = false := by
    intro zs
    induction zs with
    | nil => exact fun k hk => ⟨rfl, hk⟩
    | cons z zs ih =>
      rintro k ⟨hp, ha, hs, ho⟩
      have hout : k.offer.outNames y = false :=
        Bool.eq_false_iff.2 fun hy => by simp [Offer.outNames_names hy] at ho
      obtain ⟨hm, hrest⟩ := ih (k.zoneGone z false) ⟨by simp [Crew.mem_pending_zoneGone, hp],
        by simp [Crew.mem_attended_zoneGone, ha], by simp [Crew.mem_aside_zoneGone, hs],
        Bool.eq_false_iff.2 (by simp [Crew.names_zoneGone, ho])⟩
      refine ⟨hm.trans ?_, hrest⟩
      rw [Crew.mark_zoneGone, if_neg]
      rintro ⟨rfl, ht⟩
      simp [ha, hout] at ht
  induction zs generalizing k with
  | nil => simp at h
  | cons z zs ih =>
    by_cases hyz : y = z
    · subst hyz
      obtain ⟨hm, hp, ha, hs, ho⟩ := kept zs (k.zoneGone y false) ⟨by simp [Crew.mem_pending_zoneGone],
        by simp [Crew.mem_attended_zoneGone], by simp [Crew.mem_aside_zoneGone],
        Bool.eq_false_iff.2 (by simp [Crew.names_zoneGone])⟩
      refine ⟨hp, ha, hs, ho, fun htold => hm.trans ?_⟩
      rw [Crew.mark_zoneGone, if_pos ⟨rfl, htold⟩]
      rfl
    · obtain ⟨hp, ha, hs, ho, hm⟩ := ih (k.zoneGone z false) (by simpa [hyz] using h)
      refine ⟨hp, ha, hs, ho, fun htold => hm ?_⟩
      simpa [Crew.mem_attended_zoneGone, Crew.outNames_zoneGone, hyz] using htold

/-- A listed zone that is active, for one crew, before the membership test (R82, R101 step 2). -/
def Crew.zoneMoved (k : Crew) (z : Nat) : Crew := ({ k with aside := without k.aside z } : Crew).noteUrgency z

/-! ### One link at a time -/

theorem crew_zoneGone (c d : Link) (ch : Change) (s : State) : (zoneGone c ch s).crew d =
    if d = c then (s.crew c).zoneGone ch.zone (ch.after == .isolated) else s.crew d :=
  s.crew_modCrew c d (fun k => k.zoneGone ch.zone (ch.after == .isolated))

theorem crew_urgencyMoved (c d : Link) (z : Nat) (s : State) :
    (urgencyMoved c z s).crew d = if d = c then (s.crew c).noteUrgency z else s.crew d := s.crew_modCrew c d _

/-- The membership test adds a listed active zone of a live sector that the crew does not attend (R81). -/
theorem crew_zoneMoved (c d : Link) (z : Nat) (s : State) : (zoneMoved c z s).crew d =
    if d = c then
      if s.zoneActive z = true ∧ inSectors (s.crew c).live (s.zoneDef z).sector = true ∧ z ∉ (s.crew c).attended then
        { (s.crew c).zoneMoved z with pending := ZSet.place (s.crew c).pending z }
      else (s.crew c).zoneMoved z
    else s.crew d := by
  have hk : ((s.modCrew c fun k => k.zoneMoved z).crew c) = (s.crew c).zoneMoved z := s.crew_modCrew_self c _
  have hmarks : MarksOnly { s.crew c with aside := without (s.crew c).aside z } ((s.crew c).zoneMoved z) :=
    marksOnly_noteUrgency _ z
  have hmember : (s.modCrew c fun k => k.zoneMoved z).member c z = true ↔
      s.zoneActive z = true ∧ inSectors (s.crew c).live (s.zoneDef z).sector = true ∧ z ∉ (s.crew c).attended := by
    have hact : (s.modCrew c fun k => k.zoneMoved z).zoneActive z = s.zoneActive z := rfl
    have hdef : (s.modCrew c fun k => k.zoneMoved z).zoneDef z = s.zoneDef z := rfl
    simp [State.member, hk, hact, hdef, hmarks.live, hmarks.attended, hmarks.aside, and_assoc]
  refine (crew_admit c d z (s.modCrew c fun k => k.zoneMoved z)).trans ?_
  have hpending : ((s.crew c).zoneMoved z).pending = (s.crew c).pending := hmarks.pending
  simp only [hk, hmember, hpending, State.crew_modCrew]
  by_cases hd : d = c <;> simp [hd]

/-- A fold of effects on one crew is the crew's own fold; the other crews stay. -/
theorem crew_foldl {α : Type} {f : α → State → State} {g : Crew → α → Crew} {c : Link}
    (h : ∀ a s d, (f a s).crew d = if d = c then g (s.crew c) a else s.crew d) (l : List α) (s : State) (d : Link) :
    (l.foldl (fun s a => f a s) s).crew d = if d = c then l.foldl g (s.crew c) else s.crew d := by
  induction l generalizing s with
  | nil =>
    split
    · subst_vars
      rfl
    · rfl
  | cons a l ih =>
    rw [List.foldl_cons, ih, h, h, List.foldl_cons]
    by_cases hd : d = c <;> simp [hd]

/-- A zone put into a ranked list: the list's members and the zone. -/
theorem State.mem_rankPlace (s : State) (rc : Nat) (l : List Nat) (z y : Nat) :
    y ∈ s.rankPlace rc l z ↔ y = z ∨ y ∈ l := by
  induction l with
  | nil => simp [State.rankPlace]
  | cons x l ih =>
    unfold State.rankPlace
    split
    · simp
    · simp only [List.mem_cons, ih]
      tauto

/-- The rank holds pending zones alone (R84). -/
theorem State.mem_rank {s : State} {c : Link} {z : Nat} (h : z ∈ s.rank c) : z ∈ (s.crew c).pending := by
  have fold : ∀ l acc : List Nat, z ∈ l.foldl (s.rankPlace (s.crew c).rc) acc → z ∈ l ∨ z ∈ acc := by
    intro l
    induction l with
    | nil => exact fun acc h => .inr h
    | cons x l ih =>
      intro acc h
      rcases ih _ h with h | h
      · exact .inl (List.mem_cons_of_mem _ h)
      · rcases (s.mem_rankPlace _ acc x z).1 h with rfl | h
        · exact .inl List.mem_cons_self
        · exact .inr h
  exact (fold _ _ h).resolve_right (by simp)

/-- The offer step offers a pending zone, or lets an OUT offer stand. -/
theorem State.names_offerAfter {s : State} {c : Link} {z : Nat} (hp : z ∉ (s.crew c).pending)
    (ho : (s.crew c).offer.names z = false) : (s.offerAfter c).names z = false := by
  unfold State.offerAfter
  split
  · rename_i y d hout
    rwa [hout] at ho
  · split
    · split
      · rename_i y hy
        have hmem := State.mem_rank (List.mem_of_find?_eq_some hy)
        simp only [Offer.names, beq_eq_false_iff_ne, ne_eq]
        rintro rfl
        exact hp hmem
      · rfl
    · rfl

/-- Effects for the links in turn, each on its own crew: what each makes of its crew under a premise that they all keep. -/
theorem crew_eachLink {F : Link → State → State} {I : State → Prop} {Q : Link → Crew → Crew → Prop}
    (hI : ∀ c u, I u → I (F c u)) (hother : ∀ c d u, d ≠ c → (F c u).crew d = u.crew d)
    (hQ : ∀ c u, I u → Q c (u.crew c) ((F c u).crew c)) {s : State} (hs : I s) (c : Link) :
    Q c (s.crew c) ((eachLink F s).crew c) := by
  have h1 := hI .l1 s hs
  have h2 := hI .l2 _ h1
  have h3 := hI .l3 _ h2
  unfold eachLink
  cases c with
  | l1 =>
    rw [hother .l4 .l1 _ (by decide), hother .l3 .l1 _ (by decide), hother .l2 .l1 _ (by decide)]
    exact hQ .l1 s hs
  | l2 =>
    have h := hQ .l2 _ h1
    rw [hother .l1 .l2 _ (by decide)] at h
    rwa [hother .l4 .l2 _ (by decide), hother .l3 .l2 _ (by decide)]
  | l3 =>
    have h := hQ .l3 _ h2
    rw [hother .l2 .l3 _ (by decide), hother .l1 .l3 _ (by decide)] at h
    rwa [hother .l4 .l3 _ (by decide)]
  | l4 =>
    have h := hQ .l4 _ h3
    rwa [hother .l3 .l4 _ (by decide), hother .l2 .l4 _ (by decide), hother .l1 .l4 _ (by decide)] at h

end Sys2Proof.Machine
end

section
/-! What one zone's event leaves in the picture, in the Urgency Unit and with the crews (R38, R59, R70 to R72, R81 to R83,
R101): `PictureFollows` and `CrewsTold` of every committed record. -/

namespace Sys2Proof.Machine

/-! ### A carried report, crew by crew -/

/-- A report for an attached crew, before the offer step (R101 steps 1 to 3). -/
def State.carriedTo (s : State) (chs : List Change) (us : List UrgencyChange) (c : Link) : State :=
  let gone := (chs.filter (fun ch => !ch.after.active)).foldl (fun s ch => zoneGone c ch s) s
  let moved := (chs.filter (fun ch => ch.after.active)).foldl (fun s ch => zoneMoved c ch.zone s) gone
  us.foldl (fun s u => urgencyMoved c u.zone s) moved

theorem crewCarried_attached {s : State} {c : Link} (h : s.attached c = true) (chs : List Change)
    (us : List UrgencyChange) : crewCarried chs us c s = offerStep c (s.carriedTo chs us c) := if_pos h

theorem crewCarried_unattached {s : State} {c : Link} (h : s.attached c = false) (chs : List Change)
    (us : List UrgencyChange) : crewCarried chs us c s = s := if_neg (by simp [h])

theorem crew_foldl_urgencyMoved (c d : Link) (us : List UrgencyChange) (s : State) :
    (us.foldl (fun s u => urgencyMoved c u.zone s) s).crew d =
      if d = c then (s.crew c).noteUrgencies us else s.crew d :=
  crew_foldl (fun (u : UrgencyChange) s d => crew_urgencyMoved c d u.zone s) us s d

/-- The report for one crew leaves the other crews. -/
theorem crew_crewCarried_other {c d : Link} (h : d ≠ c) (chs : List Change) (us : List UrgencyChange) (s : State) :
    (crewCarried chs us c s).crew d = s.crew d := by
  have gone : ∀ (l : List Change) (u : State), (l.foldl (fun s ch => zoneGone c ch s) u).crew d = u.crew d := fun l u =>
    List.foldlRecOn (motive := fun t => State.crew t d = u.crew d) l _ rfl fun t ih ch _ =>
      (crew_zoneGone c d ch t).trans ((if_neg h).trans ih)
  have moved : ∀ (l : List Change) (u : State), (l.foldl (fun s ch => zoneMoved c ch.zone s) u).crew d = u.crew d :=
    fun l u => List.foldlRecOn (motive := fun t => State.crew t d = u.crew d) l _ rfl fun t ih ch _ =>
      (crew_zoneMoved c d ch.zone t).trans ((if_neg h).trans ih)
  by_cases ha : s.attached c = true
  · rw [crewCarried_attached ha, crew_offerStep, if_neg h, State.carriedTo, crew_foldl_urgencyMoved, if_neg h, moved,
      gone]
  · rw [crewCarried_unattached (by simpa using ha)]

theorem attached_crewCarried (chs : List Change) (us : List UrgencyChange) (c d : Link) (s : State) :
    (crewCarried chs us c s).attached d = s.attached d :=
  (ReportOnly.of_crewWrites (crewWrites_crewCarried chs us c s) (pictureOnly_crewCarried chs us c s)).attached d

/-- What a carried report makes of an attached crew, said of the crew's own part of it in any state that the parts of the
other crews lead to. -/
theorem crew_takeCarried {chs : List Change} {us : List UrgencyChange} {s : State} {Q : Crew → Crew → Prop} {c : Link}
    (ha : s.attached c = true)
    (hQ : ∀ u, ReportOnly s u → Q (u.crew c) ((offerStep c (u.carriedTo chs us c)).crew c)) :
    Q (s.crew c) ((takeCarried chs us s).crew c) := by
  refine crew_eachLink (Q := fun d k k' => d = c → Q k k') (I := ReportOnly s) (fun d u hu => ?_) (fun d e u h => ?_)
    (fun d u hu hd => ?_) (.refl s) c rfl
  · exact hu.trans (.of_crewWrites (crewWrites_crewCarried ..) (pictureOnly_crewCarried ..))
  · exact crew_crewCarried_other h chs us u
  · subst hd
    rw [crewCarried_attached (by rw [hu.attached]; exact ha)]
    exact hQ u hu

/-- A crew that is not attached is not told. -/
theorem crew_takeCarried_unattached {s : State} {c : Link} (ha : s.attached c = false) (chs : List Change)
    (us : List UrgencyChange) : (takeCarried chs us s).crew c = s.crew c := by
  refine crew_eachLink (Q := fun d k k' => d = c → k' = k) (I := fun u => u.attached c = false) (fun d u hu => ?_)
    (fun d e u h => ?_) (fun d u hu hd => ?_) ha c rfl
  · rw [attached_crewCarried]
    exact hu
  · exact crew_crewCarried_other h chs us u
  · subst hd
    rw [crewCarried_unattached hu]

/-- A carried report moves of the live records only those of the zones that have gone. -/
theorem zone_takeCarried {chs : List Change} {y : Nat} (h : ∀ ch ∈ chs, ch.after.active = false → ch.zone ≠ y)
    (us : List UrgencyChange) (s : State) : (takeCarried chs us s).zone y = s.zone y := by
  have crews : ∀ {t u : State}, CrewsOnly t u → u.zone y = t.zone y := fun hc => by
    rw [hc]
    rfl
  have one : ∀ (c : Link) (u : State), (crewCarried chs us c u).zone y = u.zone y := by
    intro c u
    have gone : ((chs.filter (fun ch => !ch.after.active)).foldl (fun s ch => zoneGone c ch s) u).zone y = u.zone y := by
      refine List.foldlRecOn (motive := fun t => State.zone t y = u.zone y) _ _ rfl fun t ih ch hch => ?_
      obtain ⟨hmem, hact⟩ := List.mem_filter.1 hch
      have hne := h ch hmem (by simpa using hact)
      unfold zoneGone
      rw [zone_setAttended, if_neg (Ne.symm hne)]
      exact ih
    have moved : ∀ (l : List Change) (v : State), (l.foldl (fun s ch => zoneMoved c ch.zone s) v).zone y = v.zone y :=
      fun l v => List.foldlRecOn (motive := fun t => State.zone t y = v.zone y) l _ rfl fun t ih ch _ =>
        (crews (crewsOnly_admit c ch.zone _)).trans ih
    have noted : ∀ v : State, (us.foldl (fun s u => urgencyMoved c u.zone s) v).zone y = v.zone y := fun v =>
      List.foldlRecOn (motive := fun t => State.zone t y = v.zone y) us _ rfl fun t ih _ _ => ih
    by_cases ha : u.attached c = true
    · rw [crewCarried_attached ha, crews (crewsOnly_offerStep c _), State.carriedTo, noted, moved, gone]
    · rw [crewCarried_unattached (by simpa using ha)]
  simp only [takeCarried, eachLink, one]

/-! ### One zone told to one crew -/

/-- What a crew has been told stands while marks of other zones are set and the offer is chosen. -/
theorem CrewTold.finish {s t : State} {z : Nat} {k k1 k2 : Crew} (h : CrewTold s t z k k1) (hm : MarksOnly k1 k2)
    (hz : k2.mark z = k1.mark z) {o : Offer} (ho : (t.zone z).cond.active = false → o.names z = false) :
    CrewTold s t z k { k2 with offer := o } := by
  obtain ⟨hact, hinact, hother, hlive, hrc, hdue⟩ := h
  refine ⟨fun ha => ?_, fun ha => ?_, ?_, hm.live.trans hlive, hm.rc.trans hrc, hm.systemDue.trans hdue⟩
  · have h := hact ha
    rw [← hm.aside, ← hm.attended, ← hm.pending, ← hz] at h
    exact h
  · obtain ⟨hp, hat, has, -, hmark⟩ := hinact ha
    rw [← hm.pending] at hp
    rw [← hm.attended] at hat
    rw [← hm.aside] at has
    rw [← hz] at hmark
    exact ⟨hp, hat, has, ho ha, hmark⟩
  · simpa only [hm.aside, hm.attended, hm.pending] using hother

/-- The mark that a crew holds for a zone once an UPDATE has been set (R105). -/
theorem Crew.mark_setMark_update (k : Crew) (z : Nat) : (k.setMark z .update).mark z =
    if k.mark z = some .clear ∨ k.mark z = some .isolate then k.mark z else some .update := by
  rw [Crew.mark_setMark]
  by_cases h1 : k.mark z = some .clear
  · simp [markStands, h1]
  · by_cases h2 : k.mark z = some .isolate <;> simp [markStands, h1, h2]

/-- A listed zone that is active, told to a crew before the offer step (R82, R101 step 2). -/
theorem crewTold_zoneMoved {s t u : State} {c : Link} {z : Nat} (ht : (t.zone z).cond.active = true)
    (hu : u.zoneActive z = true) (hd : u.zoneDef z = s.zoneDef z) :
    CrewTold s t z (u.crew c) ((zoneMoved c z u).crew c) := by
  have hmarks : MarksOnly { u.crew c with aside := without (u.crew c).aside z } ((u.crew c).zoneMoved z) :=
    marksOnly_noteUrgency _ z
  have hmark : z ∈ (u.crew c).attended → ((u.crew c).zoneMoved z).mark z =
      if (u.crew c).mark z = some .clear ∨ (u.crew c).mark z = some .isolate then (u.crew c).mark z
      else some .update := fun ha => by
    have hc : (u.crew c).attended.contains z = true := by simpa using ha
    rw [Crew.zoneMoved, Crew.noteUrgency, if_pos hc]
    exact Crew.mark_setMark_update _ z
  rw [crew_zoneMoved, if_pos rfl, hu, hd]
  split
  · rename_i hadmit
    obtain ⟨-, hsector, hfree⟩ := hadmit
    refine ⟨fun _ => ⟨by simp [hmarks.aside], hmarks.attended, by simp [hsector, hfree], hmark⟩,
      fun hn => absurd (ht.symm.trans hn) (by decide), fun y hy => ?_, hmarks.live, hmarks.rc, hmarks.systemDue⟩
    simp [hmarks.aside, hmarks.attended, hy]
  · rename_i hkept
    refine ⟨fun _ => ⟨by simp [hmarks.aside], hmarks.attended, ?_, hmark⟩,
      fun hn => absurd (ht.symm.trans hn) (by decide), fun y hy => ?_, hmarks.live, hmarks.rc, hmarks.systemDue⟩
    · rw [hmarks.pending]
      exact ⟨.inl, fun h => h.resolve_right fun hs => hkept ⟨rfl, hs⟩⟩
    · simp [hmarks.aside, hmarks.attended, hmarks.pending, hy]

/-- A listed zone that has gone, told to a crew before the offer step (R83). -/
theorem crewTold_zoneGone {s t : State} {z : Nat} {iso : Bool} (k : Crew) (ht : (t.zone z).cond.active = false)
    (hiso : iso = true ↔ (t.zone z).cond = .isolated) : CrewTold s t z k (k.zoneGone z iso) := by
  refine ⟨fun hn => absurd (ht.symm.trans hn) (by decide), fun _ => ⟨?_, ?_, ?_, ?_, fun htold => ?_⟩, fun y hy => ?_,
    Crew.live_zoneGone .., Crew.rc_zoneGone .., Crew.systemDue_zoneGone ..⟩
  · simp [Crew.mem_pending_zoneGone]
  · simp [Crew.mem_attended_zoneGone]
  · simp [Crew.mem_aside_zoneGone]
  · exact Bool.eq_false_iff.2 (by simp [Crew.names_zoneGone])
  · rw [Crew.mark_zoneGone, if_pos ⟨rfl, htold⟩]
    simp only [hiso]
  · simp [Crew.mem_pending_zoneGone, Crew.mem_attended_zoneGone, Crew.mem_aside_zoneGone, hy]

/-- A report that lists one zone, told to an attached crew (R101). -/
theorem crewTold_carriedTo {s t u : State} {c : Link} {ch : Change} {us : List UrgencyChange}
    (ht : (t.zone ch.zone).cond = ch.after) (hu : (u.zone ch.zone).cond = ch.after)
    (hd : u.zoneDef ch.zone = s.zoneDef ch.zone) (hus : ∀ x ∈ us, x.zone ≠ ch.zone) :
    CrewTold s t ch.zone (u.crew c) ((offerStep c (u.carriedTo [ch] us c)).crew c) := by
  have finish : ∀ {k1 : Crew} {v : State}, CrewTold s t ch.zone (u.crew c) k1 → v.crew c = k1.noteUrgencies us →
      CrewTold s t ch.zone (u.crew c) ((offerStep c v).crew c) := by
    intro k1 v h hv
    have hnoted := marksOnly_noteUrgencies k1 us
    rw [crew_offerStep, if_pos rfl, hv]
    refine h.finish hnoted (k1.mark_noteUrgencies hus) fun ha => State.names_offerAfter ?_ ?_
    · rw [hv, hnoted.pending]
      exact (h.2.1 ha).1
    · rw [hv, hnoted.offer]
      exact (h.2.1 ha).2.2.2.1
  cases ha : ch.after.active with
  | true =>
    refine finish (crewTold_zoneMoved (by rw [ht, ha]) (by rw [State.zoneActive, hu, ha]) hd) ?_
    simp [State.carriedTo, crew_foldl_urgencyMoved, ha]
  | false =>
    refine finish (crewTold_zoneGone (iso := ch.after == .isolated) _ (by rw [ht, ha]) (by rw [ht, beq_iff_eq])) ?_
    simp [State.carriedTo, crew_foldl_urgencyMoved, crew_zoneGone, ha]

/-- A carried report that lists one zone, told to every attached crew. -/
theorem crewTold_takeCarried {s t v : State} {c : Link} {ch : Change} {us : List UrgencyChange}
    (ha : v.attached c = true) (ht : (t.zone ch.zone).cond = ch.after) (hv : (v.zone ch.zone).cond = ch.after)
    (hd : v.zoneDef ch.zone = s.zoneDef ch.zone) (hus : ∀ x ∈ us, x.zone ≠ ch.zone) :
    CrewTold s t ch.zone (v.crew c) ((takeCarried [ch] us v).crew c) :=
  crew_takeCarried (Q := fun k k' => CrewTold s t ch.zone k k') ha fun u hu =>
    crewTold_carriedTo ht (by rw [hu.cond, hv]) (by rw [hu.zoneDef, hd]) hus

/-! ### A record committed, as the crews and the picture follow it -/

section committed
variable (z : Nat) (mid : ZoneLive) (s : State)

theorem cond_commitZone : ((commitZone z mid s).zone z).cond = (s.settledZone z mid).cond := by rw [zone_commitZone]

theorem alarms_commitZone : ((commitZone z mid s).zone z).alarms = mid.alarms := by
  rw [zone_commitZone]
  rfl

/-- A committed record has changed exactly when its report lists the zone (R38). -/
theorem zoneChanged_commitZone :
    ZoneChanged s (commitZone z mid s) z ↔ changeOf z (s.zone z) (s.settledZone z mid) ≠ [] := by
  rw [ne_eq, changeOf_eq_nil, ZoneChanged, cond_commitZone, alarms_commitZone]
  exact (not_and_or).symm

/-- The report of a committed record that has not changed is not made. -/
theorem commitZone_unchanged (h : ¬ ZoneChanged s (commitZone z mid s) z) :
    commitZone z mid s = s.storeZone z (s.settledZone z mid) := by
  rw [zoneChanged_commitZone, ne_eq, not_not] at h
  rw [commitZone_eq, takeZoneReport_eq, if_pos h]

/-- The entry of a committed zone in its report. -/
def State.changeTo : Change :=
  ⟨z, (s.zone z).cond, (s.settledZone z mid).cond, (s.zone z).alarms, (s.settledZone z mid).alarms⟩

/-- The report of a committed record that has changed. -/
def State.reportOf : ZoneReport := ⟨[s.changeTo z mid], s.crossingOf z (s.settledZone z mid)⟩

theorem commitZone_changed (h : ZoneChanged s (commitZone z mid s) z) :
    commitZone z mid s = takeCarried [s.changeTo z mid]
      ((s.storeZone z (s.settledZone z mid)).carriedOthers (s.reportOf z mid))
      ((s.storeZone z (s.settledZone z mid)).reckoned (s.reportOf z mid)) := by
  rw [zoneChanged_commitZone] at h
  have hch : changeOf z (s.zone z) (s.settledZone z mid) = [s.changeTo z mid] := by
    unfold changeOf at h ⊢
    split <;> simp_all [State.changeTo]
  rw [commitZone_eq, takeZoneReport_eq, hch, if_neg (by simp)]
  rfl

theorem State.mem_carriedOthers {u : State} {r : ZoneReport} {x : UrgencyChange} (h : x ∈ u.carriedOthers r) :
    ∀ ch ∈ r.changes, ch.zone ≠ x.zone := by
  obtain ⟨y, hy, -, rfl⟩ := (State.mem_urgencyChanges _ _ _).1 h
  exact ((State.mem_crossedZones _ _ _).1 hy).2.1

theorem nr_reckoned (u : State) (r : ZoneReport) : (u.reckoned r).nr = u.nr := by
  have listed : ∀ (l : List Change) (v : State), (v.listed l).nr = v.nr := fun l v => by
    refine List.foldlRecOn (motive := fun w => State.nr w = v.nr) l _ rfl fun w ih ch _ => ?_
    rw [← ih]
    unfold listedZone
    dsimp only
    split
    · split
      · split <;> rfl
      · rfl
    · rfl
  have written : ∀ (l : List UrgencyChange) (v : State), (writeUrgencies l v).nr = v.nr := fun l v =>
    List.foldlRecOn (motive := fun w => State.nr w = v.nr) l _ rfl fun w ih _ _ => ih
  exact (written _ _).trans (listed _ _)

theorem crew_reckoned (u : State) (r : ZoneReport) (c : Link) : (u.reckoned r).crew c = u.crew c :=
  congrArg (fun q : PerLink Crew => q.get c) (nr_reckoned u r)

theorem State.crew_storeZone (new : ZoneLive) (c : Link) : (s.storeZone z new).crew c = s.crew c :=
  congrArg (fun q : PerLink Crew => q.get c) (s.nr_storeZone z new)

theorem State.attached_storeZone (new : ZoneLive) (c : Link) : (s.storeZone z new).attached c = s.attached c := by
  rw [State.attached, State.link, State.cl_storeZone, State.attached, State.link]

/-- A committed record's change told to the crews: each is told of the one zone that the report lists. -/
theorem crewsTold_commitZone : CrewsTold s (commitZone z mid s) z := by
  have hreport := (s.storeZone z (s.settledZone z mid)).reportOnly_reckoned (s.reportOf z mid)
  have hatt : ∀ c, ((s.storeZone z (s.settledZone z mid)).reckoned (s.reportOf z mid)).attached c = s.attached c :=
    fun c => (hreport.attached c).trans (s.attached_storeZone z _ c)
  have hcrew : ∀ c, ((s.storeZone z (s.settledZone z mid)).reckoned (s.reportOf z mid)).crew c = s.crew c :=
    fun c => (crew_reckoned _ _ c).trans (s.crew_storeZone z _ c)
  constructor
  · intro hchanged c ha
    have hcond : (((s.storeZone z (s.settledZone z mid)).reckoned (s.reportOf z mid)).zone z).cond =
        (s.settledZone z mid).cond := by rw [hreport.cond, State.zone_storeZone_self]
    have hdef : ((s.storeZone z (s.settledZone z mid)).reckoned (s.reportOf z mid)).zoneDef z = s.zoneDef z := by
      rw [hreport.zoneDef, State.zoneDef_storeZone]
    have hothers : ∀ x ∈ (s.storeZone z (s.settledZone z mid)).carriedOthers (s.reportOf z mid), x.zone ≠ z :=
      fun x hx => Ne.symm (State.mem_carriedOthers hx _ (List.mem_singleton.2 rfl))
    have h := crewTold_takeCarried (s := s) (ch := s.changeTo z mid) ((hatt c).trans ha) (cond_commitZone z mid s)
      hcond hdef hothers
    rwa [hcrew, ← commitZone_changed z mid s hchanged] at h
  · intro c h
    by_cases hchanged : ZoneChanged s (commitZone z mid s) z
    · have ha := h.resolve_right (not_not.2 hchanged)
      rw [commitZone_changed z mid s hchanged, crew_takeCarried_unattached ((hatt c).trans ha), hcrew]
    · rw [commitZone_unchanged z mid s hchanged, State.crew_storeZone]
end committed

end Sys2Proof.Machine
end

section
/-! What one zone's event leaves in the picture and in the Urgency Unit (R38, R59, R70 to R72). -/

namespace Sys2Proof.Machine

/-! ### A report that lists one zone -/

theorem AttendedOnly.urgency {s t : State} (h : AttendedOnly s t) (z : Nat) :
    (t.zone z).urgency = (s.zone z).urgency := by rw [h.zone z]

/-- A recompute moves urgencies alone. -/
theorem State.zone_recomputed_urgency (s : State) (zs : List Nat) (y : Nat) :
    (s.recomputed zs).zone y = { s.zone y with urgency := ((s.recomputed zs).zone y).urgency } := by
  rw [State.zone_recomputed]
  split <;> rfl

theorem zone_listedZone_urgency (ch : Change) (s : State) (y : Nat) :
    (listedZone ch s).zone y = { s.zone y with urgency := ((listedZone ch s).zone y).urgency } := by
  rw [zone_listedZone]
  split <;> rfl

section single
variable {r : ZoneReport} {ch : Change} (hr : r.changes = [ch]) (u : State)
include hr

theorem takeZoneReport_single : takeZoneReport r u = takeCarried [ch] (u.carriedOthers r)
    ((listedZone ch u).recomputed ((listedZone ch u).crossedZones r)) := by
  rw [takeZoneReport_eq, if_neg (by simp [hr]), hr, State.reckoned, hr]
  rfl

/-- Of the zones not listed only the urgency may move. -/
theorem zone_takeZoneReport_other {y : Nat} (hy : y ≠ ch.zone) : (takeZoneReport r u).zone y =
    { u.zone y with urgency := ((takeZoneReport r u).zone y).urgency } := by
  have h : (takeZoneReport r u).zone y = ((listedZone ch u).recomputed ((listedZone ch u).crossedZones r)).zone y := by
    rw [takeZoneReport_single hr, zone_takeCarried fun x hx _ => by rw [List.mem_singleton.1 hx]; exact Ne.symm hy]
  rw [h, State.zone_recomputed_urgency, zone_listedZone_urgency]

/-- The listed zone's urgency is recomputed or removed (R70). -/
theorem urgency_takeZoneReport_listed : ((takeZoneReport r u).zone ch.zone).urgency =
    if ch.after.active then some ((takeZoneReport r u).urgencyValue ch.zone) else none := by
  rw [(reportOnly_takeZoneReport r u).urgencyValue, takeZoneReport_single hr,
    (crewWrites_takeCarried ..).attendedOnly.urgency, State.zone_recomputed, if_neg, zone_listedZone, if_pos rfl]
  intro hmem
  exact ((State.mem_crossedZones _ _ _).1 hmem).2.1 ch (by simp [hr]) rfl

/-- The active zones one floor up from a crossing have their urgency recomputed (R72). -/
theorem urgency_takeZoneReport_crossed {y : Nat} (hy : y ≠ ch.zone) (hact : u.zoneActive y = true)
    (hx : ∃ x ∈ r.crossings, x.floor = (u.zoneDef y).floor - 1) :
    ((takeZoneReport r u).zone y).urgency = some ((takeZoneReport r u).urgencyValue y) := by
  have hlisted := reportOnly_listedZone ch u
  rw [(reportOnly_takeZoneReport r u).urgencyValue, takeZoneReport_single hr,
    (crewWrites_takeCarried ..).attendedOnly.urgency, State.zone_recomputed, if_pos, hlisted.urgencyValue]
  rw [State.mem_crossedZones, hlisted.zoneActive, hlisted.zoneDef, hr]
  exact ⟨hact, fun x hx => by rw [List.mem_singleton.1 hx]; exact Ne.symm hy, hx⟩

/-- The listed zone's age schedule (R70, R71). -/
theorem ageStep_takeZoneReport_listed : (takeZoneReport r u).ageStep ch.zone =
    if ch.after = .alarm then
      if u.config.escalation ≠ 0 ∧ ch.before ≠ .alarm then
        firstAgeStep ((u.zone ch.zone).alarmEntry.getD 0) u.config.escalation u.uptime
      else u.ageStep ch.zone
    else none := by
  have hkept : ∀ (v : State) (us : List UrgencyChange), (writeUrgencies us v).ageSteps = v.ageSteps := fun v us =>
    List.foldlRecOn (motive := fun w => State.ageSteps w = v.ageSteps) us _ rfl fun w ih _ _ => ih
  have h : (takeZoneReport r u).ageSteps = (listedZone ch u).ageSteps := by
    rw [takeZoneReport_single hr, (crewWrites_takeCarried ..).attendedOnly.ageSteps]
    exact hkept _ _
  rw [State.ageStep, h]
  exact ageStep_listedZone ch u
end single

/-! ### A record committed -/

section committed
variable (z : Nat) (mid : ZoneLive) (s : State)

theorem commitZone_frame :
    commitZone z mid s = { s with
      zp := (commitZone z mid s).zp
      ageSteps := (commitZone z mid s).ageSteps
      nr := (commitZone z mid s).nr } := by
  have hstored := s.storeZone_eq z (s.settledZone z mid)
  rw [commitZone_eq]
  have h := pictureOnly_takeZoneReport ⟨changeOf z (s.zone z) (s.settledZone z mid),
    s.crossingOf z (s.settledZone z mid)⟩ (s.storeZone z (s.settledZone z mid))
  generalize takeZoneReport _ _ = t at h ⊢
  generalize s.storeZone z (s.settledZone z mid) = u at h hstored
  rw [h, hstored]

/-- A committed record's report, when it is made. -/
theorem commitZone_reported (h : ZoneChanged s (commitZone z mid s) z) :
    commitZone z mid s = takeZoneReport (s.reportOf z mid) (s.storeZone z (s.settledZone z mid)) := by
  rw [takeZoneReport_single (ch := s.changeTo z mid) rfl]
  exact commitZone_changed z mid s h

theorem zone_commitZone_other {y : Nat} (hy : y ≠ z) : (commitZone z mid s).zone y =
    { s.zone y with urgency := ((commitZone z mid s).zone y).urgency } := by
  have hs : (s.storeZone z (s.settledZone z mid)).zone y = s.zone y := by rw [State.zone_storeZone, if_neg hy]
  by_cases h : ZoneChanged s (commitZone z mid s) z
  · have ho := zone_takeZoneReport_other (r := s.reportOf z mid) (ch := s.changeTo z mid) rfl
      (s.storeZone z (s.settledZone z mid)) hy
    rwa [← commitZone_reported z mid s h, hs] at ho
  · rw [commitZone_unchanged z mid s h, hs]

theorem urgency_commitZone (h : ZoneChanged s (commitZone z mid s) z) : ((commitZone z mid s).zone z).urgency =
    if ((commitZone z mid s).zone z).cond.active then some ((commitZone z mid s).urgencyValue z) else none := by
  have hu := urgency_takeZoneReport_listed (r := s.reportOf z mid) (ch := s.changeTo z mid) rfl
    (s.storeZone z (s.settledZone z mid))
  rw [← commitZone_reported z mid s h] at hu
  rw [cond_commitZone]
  exact hu

theorem ageStep_commitZone (h : ZoneChanged s (commitZone z mid s) z) : (commitZone z mid s).ageStep z =
    if (s.settledZone z mid).cond = .alarm then
      if s.config.escalation ≠ 0 ∧ (s.zone z).cond ≠ .alarm then some (s.uptime + s.config.escalation)
      else s.ageStep z
    else none := by
  have ha := ageStep_takeZoneReport_listed (r := s.reportOf z mid) (ch := s.changeTo z mid) rfl
    (s.storeZone z (s.settledZone z mid))
  have hz : (s.storeZone z (s.settledZone z mid)).zone z = s.settledZone z mid := State.zone_storeZone_self ..
  have hconf : (s.storeZone z (s.settledZone z mid)).config = s.config := by rw [State.storeZone_eq]; rfl
  have huptime : (s.storeZone z (s.settledZone z mid)).uptime = s.uptime := by rw [State.storeZone_eq]; rfl
  have hsteps : (s.storeZone z (s.settledZone z mid)).ageStep z = s.ageStep z := by rw [State.storeZone_eq]; rfl
  rw [← commitZone_reported z mid s h] at ha
  refine ha.trans ?_
  rw [hconf, huptime]
  simp only [State.changeTo, hz, hsteps]
  split
  · rename_i halarm
    split
    · rename_i hentered
      have hentry : (s.settledZone z mid).alarmEntry = some s.uptime := by
        have hd : deriveCond mid = .alarm := halarm
        simp [State.settledZone, settleZone, hd, hentered.2]
      rw [hentry]
      exact firstAgeStep_now hentered.1
    · rfl
  · rfl

/-- The floor counts after a committed record are those with which it was stored. -/
theorem floors_commitZone : (commitZone z mid s).zp.floors = (s.storeZone z (s.settledZone z mid)).zp.floors := by
  rw [commitZone_eq]
  exact (reportOnly_takeZoneReport ..).floors

theorem floorCount_commitZone (f : Int) :
    (commitZone z mid s).floorCount f = (s.storeZone z (s.settledZone z mid)).floorCount f := by
  rw [State.floorCount, floors_commitZone, State.floorCount]

/-- A record stored that enters ALARM, leaves it, or does neither (R59). -/
theorem State.storeZone_enters {new : ZoneLive} (hn : new.cond = .alarm) (ho : (s.zone z).cond ≠ .alarm) :
    s.storeZone z new = (s.setZone z new).setFloor (s.zoneDef z).floor (s.floorCount (s.zoneDef z).floor + 1) :=
  if_pos ⟨hn, ho⟩

theorem State.storeZone_leaves {new : ZoneLive} (hn : new.cond ≠ .alarm) (ho : (s.zone z).cond = .alarm) :
    s.storeZone z new = (s.setZone z new).setFloor (s.zoneDef z).floor (s.floorCount (s.zoneDef z).floor - 1) :=
  (if_neg fun h => hn h.1).trans (if_pos ⟨ho, hn⟩)

theorem State.storeZone_keeps {new : ZoneLive} (h : new.cond = .alarm ↔ (s.zone z).cond = .alarm) :
    s.storeZone z new = s.setZone z new :=
  (if_neg fun h' => h'.2 (h.1 h'.1)).trans (if_neg fun h' => h'.2 (h.2 h'.1))

theorem State.floorCount_setFloor_self (u : State) (f : Int) (n : Nat) : (u.setFloor f n).floorCount f = n :=
  Tab.get_put_self 0 u.zp.floors (floorKey f) n

/-- A count that leaves or reaches 0 crosses on the zone's floor (R38, R59). -/
theorem State.mem_crossingOf {new : ZoneLive} (h : (s.zone z).cond ≠ .alarm ∧ new.cond = .alarm ∧
      s.floorCount (s.zoneDef z).floor = 0 ∨
    (s.zone z).cond = .alarm ∧ new.cond ≠ .alarm ∧ s.floorCount (s.zoneDef z).floor = 1) :
    ∃ x ∈ s.crossingOf z new, x.floor = (s.zoneDef z).floor := by
  unfold State.crossingOf
  rcases h with ⟨ho, hn, hc⟩ | ⟨ho, hn, hc⟩ <;> simp [ho, hn, hc]

/-- Settling a zone's record and carrying its report leaves the picture and the Urgency Unit as R38, R59 and R70 to R72
say. -/
theorem pictureFollows_commitZone : PictureFollows s (commitZone z mid s) z := by
  refine ⟨commitZone_frame z mid s, fun y hy => zone_commitZone_other z mid s hy, urgency_commitZone z mid s, ?_⟩
  rintro was is hwas his n rfl
  rw [cond_commitZone] at his
  have changed : ¬ (was ↔ is) → ZoneChanged s (commitZone z mid s) z := fun h => by
    refine .inl fun heq => h ?_
    rw [hwas, his, ← cond_commitZone, heq]
  refine ⟨fun hw hi he => ?_, fun hw hi => ?_, fun hw hi => ?_, fun hw hi => ?_, fun hw hi => ?_, fun h => ?_, ?_⟩
  · rw [ageStep_commitZone z mid s (changed (by simp [hw, hi])), if_pos (his.1 hi), if_pos ⟨he, mt hwas.2 hw⟩]
  · by_cases h : ZoneChanged s (commitZone z mid s) z
    · rw [ageStep_commitZone z mid s h, if_pos (his.1 hi), if_neg fun h' => h'.2 (hwas.1 hw)]
    · rw [commitZone_unchanged z mid s h, State.ageStep, State.ageSteps_storeZone, State.ageStep]
  · rw [ageStep_commitZone z mid s (changed (by simp [hw, hi])), if_neg (mt his.2 hi)]
  · rw [floorCount_commitZone, State.storeZone_enters z s (his.1 hi) (mt hwas.2 hw), State.floorCount_setFloor_self]
  · rw [floorCount_commitZone, State.storeZone_leaves z s (mt his.2 hi) (hwas.1 hw), State.floorCount_setFloor_self]
  · rw [floors_commitZone, State.storeZone_keeps z s (by rw [← hwas, ← his, h])]
    rfl
  · intro hcross y hy hact hfloor
    have hchanged := changed (by rcases hcross with ⟨hw, hi, -⟩ | ⟨hw, hi, -⟩ <;> simp [hw, hi])
    rw [hwas, his] at hcross
    have hstored : (s.storeZone z (s.settledZone z mid)).zoneActive y = true := by
      rw [State.zoneActive, State.zone_storeZone, if_neg hy]
      exact hact
    have h := urgency_takeZoneReport_crossed (r := s.reportOf z mid) (ch := s.changeTo z mid) rfl
      (s.storeZone z (s.settledZone z mid)) hy hstored ?_
    · rwa [← commitZone_reported z mid s hchanged] at h
    · obtain ⟨x, hx, hxf⟩ := s.mem_crossingOf z hcross
      refine ⟨x, hx, ?_⟩
      rw [State.zoneDef_storeZone, hfloor, hxf]
      omega
end committed

/-- An event that leaves the state as it was. -/
theorem not_zoneChanged_self (s : State) (z : Nat) : ¬ ZoneChanged s s z := fun h => h.elim (fun h => h rfl) fun h => h rfl

theorem pictureFollows_self (s : State) (z : Nat) : PictureFollows s s z := by
  refine ⟨rfl, fun _ _ => rfl, fun h => absurd h (not_zoneChanged_self s z), ?_⟩
  rintro was is hwas his n rfl
  have h : was ↔ is := hwas.trans his.symm
  exact ⟨fun hw hi => absurd (h.2 hi) hw, fun _ _ => rfl, fun hw hi => absurd (h.1 hw) hi,
    fun hw hi => absurd (h.2 hi) hw, fun hw hi => absurd (h.1 hw) hi, fun _ => rfl, fun hx => by
      rcases hx with ⟨hw, hi, -⟩ | ⟨hw, hi, -⟩
      · exact absurd (h.2 hi) hw
      · exact absurd (h.1 hw) hi⟩

theorem crewsTold_self (s : State) (z : Nat) : CrewsTold s s z :=
  ⟨fun h => absurd h (not_zoneChanged_self s z), fun _ _ => rfl⟩

end Sys2Proof.Machine
end

section
/-! Point events by their case, and the window that expires (R41 to R49, R52). -/

namespace Sys2Proof.Machine

/-! ### A committed record, field by field (R37, R42) -/

section fields
variable (z : Nat) (mid : ZoneLive) (s : State)

theorem commitZone_cond : ((commitZone z mid s).zone z).cond = deriveCond mid := cond_commitZone z mid s

theorem commitZone_points : ((commitZone z mid s).zone z).points = mid.points := by
  rw [zone_commitZone]
  rfl
theorem commitZone_supervisories : ((commitZone z mid s).zone z).supervisories = mid.supervisories := by
  rw [zone_commitZone]
  rfl
theorem commitZone_troubles : ((commitZone z mid s).zone z).troubles = mid.troubles := by
  rw [zone_commitZone]
  rfl
theorem commitZone_isolated : ((commitZone z mid s).zone z).isolated = mid.isolated := by
  rw [zone_commitZone]
  rfl
theorem commitZone_lapses : ((commitZone z mid s).zone z).lapses = mid.lapses := by
  rw [zone_commitZone]
  rfl
theorem commitZone_isolatedEvents : ((commitZone z mid s).zone z).isolatedEvents = mid.isolatedEvents := by
  rw [zone_commitZone]
  rfl
theorem commitZone_alarmEntry : ((commitZone z mid s).zone z).alarmEntry =
    if deriveCond mid = .alarm then if (s.zone z).cond = .alarm then mid.alarmEntry else some s.uptime else none := by
  rw [zone_commitZone]
  rfl
theorem commitZone_deadline : ((commitZone z mid s).zone z).deadline =
    if deriveCond mid = .verifying then mid.deadline else none := by
  rw [zone_commitZone]
  rfl
theorem commitZone_overflow : ((commitZone z mid s).zone z).overflow =
    if deriveCond mid = .quiet then false else mid.overflow := by
  rw [zone_commitZone]
  rfl
end fields

/-- A record in step that is not QUIET settles to itself. -/
theorem ZoneInv.settleZone_self {l : ZoneLive} (h : ZoneInv l) (hq : l.cond ≠ .quiet) (now : Nat) :
    settleZone l.cond now l = l := by
  obtain ⟨hcond, hentry, hdeadline, -⟩ := h
  have he : (if deriveCond l = .alarm then if l.cond = .alarm then l.alarmEntry else some now else none) =
      l.alarmEntry := by
    rw [← hcond]
    split
    · rfl
    · exact (Option.not_isSome_iff_eq_none.1 (mt hentry.1 ‹_›)).symm
  have hd : (if deriveCond l = .verifying then l.deadline else none) = l.deadline := by
    rw [← hcond]
    split
    · rfl
    · exact (Option.not_isSome_iff_eq_none.1 (mt hdeadline.1 ‹_›)).symm
  have ho : (if deriveCond l = .quiet then false else l.overflow) = l.overflow := by rw [← hcond, if_neg hq]
  unfold settleZone
  dsimp only
  rw [he, hd, ho, ← hcond]

/-- A record committed as it was, in step and not QUIET, leaves every zone as it was (R44, R48). -/
theorem zone_commitZone_self {z : Nat} {s : State} (h : ZoneInv (s.zone z)) (hq : (s.zone z).cond ≠ .quiet) (y : Nat) :
    (commitZone z (s.zone z) s).zone y = s.zone y := by
  have hsettled : s.settledZone z (s.zone z) = s.zone z := h.settleZone_self hq _
  have hsame : ¬ ZoneChanged s (commitZone z (s.zone z) s) z := by
    rw [zoneChanged_commitZone, hsettled, ne_eq, not_not, changeOf_eq_nil]
    exact ⟨rfl, rfl⟩
  rw [commitZone_unchanged _ _ _ hsame, hsettled, State.zone_storeZone]
  split
  · rename_i hy
    rw [hy]
  · rfl

theorem zoneEvent_eq {s : State} {z : Nat} (h : (s.zone z).isolated = false) (e : PointEvent) :
    zoneEvent z e s = commitZone z (applyEvent s z (s.zone z) e) s := if_neg (by simp [h])

/-- The condition of a record with an alarm counted (R37). -/
theorem deriveCond_of_alarms {l : ZoneLive} (hi : l.isolated = false) (ha : l.alarms ≠ 0) : deriveCond l = .alarm :=
  (if_neg (by simp [hi])).trans (if_pos ha)

/-! ### Attempts to make a record (R41) -/

section attempts
variable {s : State} {l : ZoneLive} {n q : Nat} {k : RecKind}

theorem State.attempt_present (h : l.holdsRec n q k = true) : s.attempt l n q k = .present := if_pos h

theorem State.attempt_made (h : l.holdsRec n q k = false) (hp : 0 < s.poolFree) (hk : l.kindCount k < kindMost k) :
    s.attempt l n q k = .made := (if_neg (by simp [h])).trans (if_pos ⟨hp, hk⟩)

theorem State.attempt_notMade (h : l.holdsRec n q k = false) (hp : s.poolFree = 0 ∨ kindMost k ≤ l.kindCount k) :
    s.attempt l n q k = .notMade := (if_neg (by simp [h])).trans (if_neg (by omega))

/-- Every attempt for a point whose record the list does not hold has one of the two outcomes. -/
theorem State.attempt_outcome (h : l.holdsRec n q k = false) : s.attempt l n q k = .made ∨ s.attempt l n q k = .notMade := by
  by_cases hm : 0 < s.poolFree ∧ l.kindCount k < kindMost k
  · exact .inl (State.attempt_made h hm.1 hm.2)
  · exact .inr (State.attempt_notMade h (by omega))

/-- A list with no record of a kind holds none for any point. -/
theorem ZoneLive.holdsRec_of_kindCount (h : l.kindCount k = 0) : l.holdsRec n q k = false := by
  rw [ZoneLive.kindCount, List.length_eq_zero_iff, List.filter_eq_nil_iff] at h
  refine Bool.eq_false_iff.2 fun hc => ?_
  obtain ⟨r, hr, hfor⟩ := List.any_eq_true.1 hc
  simp only [PointRec.isFor, Bool.and_eq_true] at hfor
  exact h r hr hfor.2
end attempts

/-! ### Ordinary alarms and verification (R45 to R47) -/

section alarms
variable {s : State} {l : ZoneLive} {e : PointEvent}

theorem ordinaryAlarm_counted (h : l.holdsRec e.node e.point .alarm = false) :
    (ordinaryAlarm s l e).alarms = bump8 l.alarms ∧ (ordinaryAlarm s l e).isolated = l.isolated ∧
      (ordinaryAlarm s l e).alarmEntry = l.alarmEntry := by
  unfold ordinaryAlarm
  rcases State.attempt_outcome (s := s) h with ha | ha <;> rw [ha] <;> exact ⟨rfl, rfl, rfl⟩

theorem ordinaryAlarm_made (h : s.attempt l e.node e.point .alarm = .made) :
    (ordinaryAlarm s l e).points = l.points ++ [⟨e.node, e.point, .alarm, s.uptime⟩] ∧
      (ordinaryAlarm s l e).overflow = l.overflow := by
  unfold ordinaryAlarm
  rw [h]
  exact ⟨rfl, rfl⟩

theorem ordinaryAlarm_notMade (h : s.attempt l e.node e.point .alarm = .notMade) :
    (ordinaryAlarm s l e).points = l.points ∧ (ordinaryAlarm s l e).overflow = true := by
  unfold ordinaryAlarm
  rw [h]
  exact ⟨rfl, rfl⟩

theorem verificationStart_made (h : s.attempt l e.node e.point .prealarm = .made) :
    (verificationStart s l e).points = l.points ++ [⟨e.node, e.point, .prealarm, s.uptime⟩] ∧
      (verificationStart s l e).alarms = l.alarms ∧ (verificationStart s l e).isolated = l.isolated ∧
      (verificationStart s l e).deadline = some (s.uptime + s.config.verifyWindow) := by
  unfold verificationStart
  rw [h]
  exact ⟨rfl, rfl, rfl, rfl⟩

theorem verificationStart_notMade (h : s.attempt l e.node e.point .prealarm = .notMade) :
    (verificationStart s l e).points = l.points ∧ (verificationStart s l e).alarms = bump8 l.alarms ∧
      (verificationStart s l e).isolated = l.isolated ∧ (verificationStart s l e).overflow = true ∧
      (verificationStart s l e).alarmEntry = l.alarmEntry := by
  unfold verificationStart
  rw [h]
  exact ⟨rfl, rfl, rfl, rfl, rfl⟩

/-- A record once its verification is confirmed, before the confirming point's own record (R45 step 1). -/
def ZoneLive.confirmed (l : ZoneLive) : ZoneLive :=
  { l with points := l.points.map PointRec.confirmed, alarms := 1, deadline := none }

/-- The confirmed list holds an ALARM record wherever it held one of an alarm's kinds. -/
theorem ZoneLive.holdsRec_confirmed (n q : Nat) :
    l.confirmed.holdsRec n q .alarm = (l.holdsRec n q .alarm || l.holdsRec n q .prealarm) := by
  have hone : ∀ r : PointRec, r.confirmed.isFor n q .alarm = (r.isFor n q .alarm || r.isFor n q .prealarm) := fun r => by
    obtain ⟨node, point, kind, made⟩ := r
    cases kind <;> simp [PointRec.confirmed, PointRec.isFor]
  have hlist : ∀ ps : List PointRec, (ps.map PointRec.confirmed).any (fun r => r.isFor n q .alarm) =
      (ps.any (fun r => r.isFor n q .alarm) || ps.any (fun r => r.isFor n q .prealarm)) := by
    intro ps
    induction ps with
    | nil => rfl
    | cons r ps ih =>
      simp only [List.map_cons, List.any_cons, ih, hone]
      cases r.isFor n q .alarm <;> cases r.isFor n q .prealarm <;> simp
  exact hlist l.points

/-- Each PREALARM record has become an ALARM record. -/
theorem ZoneLive.kindCount_confirmed : l.confirmed.kindCount .alarm = l.kindCount .alarm + l.kindCount .prealarm := by
  have hlist : ∀ ps : List PointRec, ((ps.map PointRec.confirmed).filter (fun r => r.kind == .alarm)).length =
      (ps.filter (fun r => r.kind == .alarm)).length + (ps.filter (fun r => r.kind == .prealarm)).length := by
    intro ps
    induction ps with
    | nil => rfl
    | cons r ps ih =>
      obtain ⟨node, point, kind, made⟩ := r
      cases kind <;> simp [PointRec.confirmed, ih] <;> omega
  exact hlist l.points

theorem confirmation_same (h : l.holdsRec e.node e.point .prealarm = true) : confirmation s l e = l.confirmed := if_pos h

theorem confirmation_made (h : l.holdsRec e.node e.point .prealarm = false)
    (ha : s.attempt l.confirmed e.node e.point .alarm = .made) :
    confirmation s l e = { l.confirmed.append e.node e.point .alarm s.uptime with alarms := 2 } := by
  unfold confirmation
  rw [if_neg (by simp [h])]
  split
  · exact absurd (ha.symm.trans ‹_›) (by decide)
  · rfl
  · exact absurd (ha.symm.trans ‹_›) (by decide)

theorem confirmation_notMade (h : l.holdsRec e.node e.point .prealarm = false)
    (ha : s.attempt l.confirmed e.node e.point .alarm = .notMade) :
    confirmation s l e = { l.confirmed with alarms := 2, overflow := true } := by
  unfold confirmation
  rw [if_neg (by simp [h])]
  split
  · exact absurd (ha.symm.trans ‹_›) (by decide)
  · exact absurd (ha.symm.trans ‹_›) (by decide)
  · rfl

/-- What an ALARM event makes of a record, by the first case of R44 that holds. -/
theorem alarmEvent_present {z : Nat} (h : l.holdsRec e.node e.point .alarm = true) : alarmEvent s z l e = l := if_pos h

theorem alarmEvent_confirms {z : Nat} (h : l.holdsRec e.node e.point .alarm = false) (hv : l.cond = .verifying) :
    alarmEvent s z l e = confirmation s l e := (if_neg (by simp [h])).trans (if_pos hv)

theorem alarmEvent_starts {z : Nat} (h : l.holdsRec e.node e.point .alarm = false) (hv : l.cond ≠ .verifying)
    (hs : e.kind = .detector ∧ (s.zoneDef z).verify = true ∧ l.alarms = 0 ∧ e.resend = false) :
    alarmEvent s z l e = verificationStart s l e := ((if_neg (by simp [h])).trans (if_neg hv)).trans (if_pos hs)

theorem alarmEvent_ordinary {z : Nat} (h : l.holdsRec e.node e.point .alarm = false) (hv : l.cond ≠ .verifying)
    (hs : ¬ (e.kind = .detector ∧ (s.zoneDef z).verify = true ∧ l.alarms = 0 ∧ e.resend = false)) :
    alarmEvent s z l e = ordinaryAlarm s l e := ((if_neg (by simp [h])).trans (if_neg hv)).trans (if_neg hs)
end alarms

/-! ### ALARM events settled (R44 to R47) -/

section settled
variable {s : State} {z : Nat} {e : PointEvent} (hi : (s.zone z).isolated = false)
include hi

/-- An ordinary alarm (R47). -/
theorem commitZone_ordinaryAlarm (h : (s.zone z).holdsRec e.node e.point .alarm = false) {t : State}
    (ht : t = commitZone z (ordinaryAlarm s (s.zone z) e) s) :
    (t.zone z).alarms = bump8 (s.zone z).alarms ∧ (t.zone z).cond = .alarm ∧
      (t.zone z).alarmEntry = (if (s.zone z).cond = .alarm then (s.zone z).alarmEntry else some s.uptime) ∧
      (0 < s.poolFree → (s.zone z).kindCount .alarm < 255 →
        (t.zone z).points = (s.zone z).points ++ [⟨e.node, e.point, .alarm, s.uptime⟩] ∧
        (t.zone z).overflow = (s.zone z).overflow) ∧
      (s.poolFree = 0 ∨ 255 ≤ (s.zone z).kindCount .alarm →
        (t.zone z).points = (s.zone z).points ∧ (t.zone z).overflow = true) := by
  subst ht
  obtain ⟨ha, hiso, hentry⟩ := ordinaryAlarm_counted (s := s) h
  have hc : deriveCond (ordinaryAlarm s (s.zone z) e) = .alarm :=
    deriveCond_of_alarms (hiso.trans hi) (by rw [ha]; exact bump8_ne_zero _)
  rw [alarms_commitZone, commitZone_cond, commitZone_alarmEntry, commitZone_points, commitZone_overflow, hc, hentry]
  refine ⟨ha, rfl, if_pos rfl, fun hp hk => ?_, fun hp => ?_⟩
  · exact ordinaryAlarm_made (State.attempt_made h hp hk)
  · exact ordinaryAlarm_notMade (State.attempt_notMade h hp)

/-- A verification start: a window opened, or an unrecorded alarm with the pool empty (R46). -/
theorem commitZone_verificationStart (hk : (s.zone z).kindCount .prealarm = 0) (ha : (s.zone z).alarms = 0) {t : State}
    (ht : t = commitZone z (verificationStart s (s.zone z) e) s) :
    (0 < s.poolFree →
        (t.zone z).points = (s.zone z).points ++ [⟨e.node, e.point, .prealarm, s.uptime⟩] ∧
        (t.zone z).alarms = 0 ∧ (t.zone z).cond = .verifying ∧
        (t.zone z).deadline = some (s.uptime + s.config.verifyWindow)) ∧
      (s.poolFree = 0 →
        (t.zone z).points = (s.zone z).points ∧ (t.zone z).alarms = 1 ∧ (t.zone z).overflow = true ∧
        (t.zone z).cond = .alarm ∧ (t.zone z).deadline = none ∧
        (t.zone z).alarmEntry = (if (s.zone z).cond = .alarm then (s.zone z).alarmEntry else some s.uptime)) := by
  subst ht
  have hfree : (s.zone z).holdsRec e.node e.point .prealarm = false := ZoneLive.holdsRec_of_kindCount hk
  refine ⟨fun hp => ?_, fun hp => ?_⟩
  · obtain ⟨hpoints, halarms, hiso, hdeadline⟩ :=
      verificationStart_made (s := s) (State.attempt_made hfree hp (by rw [hk]; decide))
    have hc : deriveCond (verificationStart s (s.zone z) e) = .verifying :=
      (deriveCond_eq_verifying _).2 ⟨hiso.trans hi, halarms.trans ha, by simp [hpoints]⟩
    rw [commitZone_points, alarms_commitZone, commitZone_cond, commitZone_deadline, hc]
    exact ⟨hpoints, halarms.trans ha, rfl, hdeadline⟩
  · obtain ⟨hpoints, halarms, hiso, hover, hentry⟩ :=
      verificationStart_notMade (s := s) (State.attempt_notMade hfree (.inl hp))
    have hone : (verificationStart s (s.zone z) e).alarms = 1 := by
      rw [halarms, ha]
      decide
    have hc : deriveCond (verificationStart s (s.zone z) e) = .alarm :=
      deriveCond_of_alarms (hiso.trans hi) (by simp [hone])
    rw [commitZone_points, alarms_commitZone, commitZone_overflow, commitZone_cond, commitZone_deadline,
      commitZone_alarmEntry, hc, hentry]
    exact ⟨hpoints, hone, hover, rfl, rfl, if_pos rfl⟩

/-- A confirmation (R45). -/
theorem commitZone_confirmation (h : (s.zone z).holdsRec e.node e.point .alarm = false)
    (hv : (s.zone z).cond = .verifying) {t : State} (ht : t = commitZone z (confirmation s (s.zone z) e) s) :
    (t.zone z).cond = .alarm ∧ (t.zone z).deadline = none ∧ (t.zone z).alarmEntry = some s.uptime ∧
      ((s.zone z).holdsRec e.node e.point .prealarm = true →
        (t.zone z).points = (s.zone z).points.map PointRec.confirmed ∧ (t.zone z).alarms = 1) ∧
      ((s.zone z).holdsRec e.node e.point .prealarm = false → (t.zone z).alarms = 2 ∧
        (0 < s.poolFree → (s.zone z).kindCount .prealarm = 1 → (s.zone z).kindCount .alarm = 0 →
          (t.zone z).points =
            (s.zone z).points.map PointRec.confirmed ++ [⟨e.node, e.point, .alarm, s.uptime⟩]) ∧
        (s.poolFree = 0 →
          (t.zone z).points = (s.zone z).points.map PointRec.confirmed ∧ (t.zone z).overflow = true)) := by
  subst ht
  have hne : (s.zone z).cond ≠ .alarm := by simp [hv]
  have alarmed : ∀ {mid : ZoneLive}, mid.isolated = (s.zone z).isolated → mid.alarms ≠ 0 →
      ((commitZone z mid s).zone z).cond = .alarm ∧ ((commitZone z mid s).zone z).deadline = none ∧
        ((commitZone z mid s).zone z).alarmEntry = some s.uptime ∧
        ((commitZone z mid s).zone z).overflow = mid.overflow := by
    intro mid hm ha
    rw [commitZone_cond, commitZone_deadline, commitZone_alarmEntry, commitZone_overflow,
      deriveCond_of_alarms (hm.trans hi) ha]
    exact ⟨rfl, rfl, if_neg hne, rfl⟩
  cases hs : (s.zone z).holdsRec e.node e.point .prealarm with
  | true =>
    rw [confirmation_same hs]
    obtain ⟨hcond, hdeadline, hentry, -⟩ := alarmed (mid := (s.zone z).confirmed) rfl (by simp [ZoneLive.confirmed])
    exact ⟨hcond, hdeadline, hentry, fun _ => ⟨commitZone_points .., alarms_commitZone ..⟩, nofun⟩
  | false =>
    have hfree : (s.zone z).confirmed.holdsRec e.node e.point .alarm = false := by
      rw [ZoneLive.holdsRec_confirmed, h, hs]
      rfl
    rcases State.attempt_outcome (s := s) hfree with ha | ha
    · rw [confirmation_made hs ha]
      obtain ⟨hcond, hdeadline, hentry, -⟩ := alarmed
        (mid := { (s.zone z).confirmed.append e.node e.point .alarm s.uptime with alarms := 2 }) rfl (by simp)
      refine ⟨hcond, hdeadline, hentry, nofun, fun _ => ⟨alarms_commitZone .., fun _ _ _ => commitZone_points ..,
        fun hp => ?_⟩⟩
      rw [State.attempt_notMade hfree (.inl hp)] at ha
      cases ha
    · rw [confirmation_notMade hs ha]
      obtain ⟨hcond, hdeadline, hentry, hover⟩ := alarmed
        (mid := { (s.zone z).confirmed with alarms := 2, overflow := true }) rfl (by simp)
      refine ⟨hcond, hdeadline, hentry, nofun, fun _ => ⟨alarms_commitZone .., fun hp hpre hal => ?_,
        fun _ => ⟨commitZone_points .., hover⟩⟩⟩
      rw [State.attempt_made hfree hp (by rw [ZoneLive.kindCount_confirmed, hpre, hal]; decide)] at ha
      cases ha
end settled

/-- Settles O13: the record that the case of R44 makes, committed. -/
theorem alarmEventByCase : Obligations.AlarmEventByCase := by
  unfold Obligations.AlarmEventByCase
  rintro s t z e he hi ht Starts hStarts
  have happly : applyEvent s z (s.zone z) e = alarmEvent s z (s.zone z) e := by simp only [applyEvent, he]
  rw [zoneEvent_eq hi, happly] at ht
  refine ⟨ht ▸ pictureFollows_commitZone z _ s, ht ▸ crewsTold_commitZone z _ s, fun h hz hq y => ?_, fun h hv hs => ?_,
    fun h hv hs hk => ?_, fun h hv => ?_⟩
  · rw [ht, alarmEvent_present h]
    exact zone_commitZone_self hz hq y
  · exact commitZone_ordinaryAlarm hi h (by rw [ht, alarmEvent_ordinary h hv (by rwa [← hStarts])])
  · have hstarts := hStarts.1 hs
    exact commitZone_verificationStart hi hk hstarts.2.2.1 (by rw [ht, alarmEvent_starts h hv hstarts])
  · exact commitZone_confirmation hi h hv (by rw [ht, alarmEvent_confirms h hv])

end Sys2Proof.Machine
end

section
/-! SUPERVISORY, TROUBLE and NORMAL events, and the window that expires (R48, R49, R52). -/

namespace Sys2Proof.Machine

/-! ### Conditions (R37) -/

/-- The condition of a zone that is not isolated, by the first test that holds (R37). -/
theorem deriveCond_eq {l : ZoneLive} (hi : l.isolated = false) : deriveCond l =
    if l.alarms ≠ 0 then .alarm else if ∃ r ∈ l.points, r.kind = .prealarm then .verifying
    else if l.supervisories ≠ 0 then .supervisory else if l.troubles ≠ 0 then .trouble else .quiet := by
  have hany : (l.points.any (fun r => r.kind == .prealarm) = true) ↔ ∃ r ∈ l.points, r.kind = .prealarm := by simp
  unfold deriveCond
  rw [if_neg (by simp [hi])]
  simp only [hany]

/-- A zone with a supervisory or a trouble counted is not QUIET. -/
theorem deriveCond_ne_quiet {l : ZoneLive} (h : l.supervisories ≠ 0 ∨ l.troubles ≠ 0) : deriveCond l ≠ .quiet := by
  unfold deriveCond
  split
  · decide
  · split
    · decide
    · split
      · decide
      · split
        · decide
        · rw [if_pos (h.resolve_left ‹_›)]
          decide

/-! ### Events that attempt a record and count it (R41, R48) -/

/-- A record attempted, `counted` being the list's zone with the event counted: its record made, or only the overflow mark
set. -/
def State.attempted (s : State) (l counted : ZoneLive) (e : PointEvent) (k : RecKind) : ZoneLive :=
  match s.attempt l e.node e.point k with
  | .present => l
  | .made => counted.append e.node e.point k s.uptime
  | .notMade => { counted with overflow := true }

theorem supervisoryEvent_eq (s : State) (l : ZoneLive) (e : PointEvent) : supervisoryEvent s l e =
    s.attempted l { l with supervisories := bump8 l.supervisories } e .supervisory := by
  unfold supervisoryEvent State.attempted
  cases s.attempt l e.node e.point .supervisory <;> rfl

theorem troubleEvent_eq (s : State) (l : ZoneLive) (e : PointEvent) : troubleEvent s l e =
    s.attempted l { l with troubles := bump8 l.troubles } e .trouble := by
  unfold troubleEvent State.attempted
  cases s.attempt l e.node e.point .trouble <;> rfl

section attempted
variable {s : State} {l counted : ZoneLive} {e : PointEvent} {k : RecKind}

theorem State.attempted_present (h : l.holdsRec e.node e.point k = true) : s.attempted l counted e k = l := by
  unfold State.attempted
  rw [State.attempt_present h]

/-- An attempt for a point whose record the list does not hold counts the event. -/
theorem State.attempted_counted (h : l.holdsRec e.node e.point k = false) :
    (s.attempted l counted e k).supervisories = counted.supervisories ∧
      (s.attempted l counted e k).troubles = counted.troubles := by
  unfold State.attempted
  rcases State.attempt_outcome (s := s) h with ha | ha <;> rw [ha] <;> exact ⟨rfl, rfl⟩

theorem State.attempted_made (h : s.attempt l e.node e.point k = .made) :
    s.attempted l counted e k = counted.append e.node e.point k s.uptime := by
  unfold State.attempted
  rw [h]

theorem State.attempted_notMade (h : s.attempt l e.node e.point k = .notMade) :
    s.attempted l counted e k = { counted with overflow := true } := by
  unfold State.attempted
  rw [h]

/-- No attempt touches what the event does not count. -/
theorem State.attempted_kept {α : Type} {f : ZoneLive → α} (hl : f counted = f l)
    (ha : f (counted.append e.node e.point k s.uptime) = f counted)
    (ho : f { counted with overflow := true } = f counted) : f (s.attempted l counted e k) = f l := by
  unfold State.attempted
  split
  · rfl
  · rw [ha, hl]
  · rw [ho, hl]

/-- A record of a kind that a list may hold 255 times, attempted and committed (R41, R48). -/
theorem commitZone_attempted {z : Nat} {t : State} {n : Byte} (hk : kindMost k = 255)
    (ht : t = commitZone z (s.attempted (s.zone z) counted e k) s) (hp : counted.points = (s.zone z).points)
    (ho : counted.overflow = (s.zone z).overflow) (hcount : bump8 n = counted.supervisories ∨ bump8 n = counted.troubles) :
    ((s.zone z).holdsRec e.node e.point k = true → ZoneInv (s.zone z) → (s.zone z).cond ≠ .quiet →
      ∀ y, t.zone y = s.zone y) ∧
    ((s.zone z).holdsRec e.node e.point k = false →
      (t.zone z).supervisories = counted.supervisories ∧ (t.zone z).troubles = counted.troubles ∧
      (0 < s.poolFree → (s.zone z).kindCount k < 255 →
        (t.zone z).points = (s.zone z).points ++ [⟨e.node, e.point, k, s.uptime⟩] ∧
        (t.zone z).overflow = (s.zone z).overflow) ∧
      (s.poolFree = 0 ∨ 255 ≤ (s.zone z).kindCount k →
        (t.zone z).points = (s.zone z).points ∧ (t.zone z).overflow = true)) := by
  subst ht
  refine ⟨fun h hz hq y => ?_, fun h => ?_⟩
  · rw [State.attempted_present h]
    exact zone_commitZone_self hz hq y
  · obtain ⟨hsup, htr⟩ := State.attempted_counted (s := s) (counted := counted) h
    have hquiet : deriveCond (s.attempted (s.zone z) counted e k) ≠ .quiet := by
      refine deriveCond_ne_quiet ?_
      rw [hsup, htr]
      rcases hcount with hn | hn
      · exact .inl (hn ▸ bump8_ne_zero n)
      · exact .inr (hn ▸ bump8_ne_zero n)
    rw [commitZone_supervisories, commitZone_troubles, commitZone_points, commitZone_overflow, if_neg hquiet]
    refine ⟨hsup, htr, fun hpool hroom => ?_, fun hfull => ?_⟩
    · rw [State.attempted_made (State.attempt_made h hpool (by rwa [hk]))]
      exact ⟨congrArg (· ++ _) hp, ho⟩
    · rw [State.attempted_notMade (State.attempt_notMade h (by rwa [hk]))]
      exact ⟨hp, rfl⟩
end attempted

/-! ### What no such event touches -/

/-- A SUPERVISORY, TROUBLE or NORMAL event leaves the alarm count and the isolation. -/
theorem applyEvent_kept {e : PointEvent} (he : e.cond ≠ .alarm) (s : State) (z : Nat) (l : ZoneLive) :
    (applyEvent s z l e).alarms = l.alarms ∧ (applyEvent s z l e).isolated = l.isolated := by
  unfold applyEvent
  split
  · rename_i h
    exact absurd h he
  · rw [supervisoryEvent_eq]
    exact ⟨State.attempted_kept (f := ZoneLive.alarms) rfl rfl rfl,
      State.attempted_kept (f := ZoneLive.isolated) rfl rfl rfl⟩
  · rw [troubleEvent_eq]
    exact ⟨State.attempted_kept (f := ZoneLive.alarms) rfl rfl rfl,
      State.attempted_kept (f := ZoneLive.isolated) rfl rfl rfl⟩
  · exact ⟨rfl, rfl⟩

theorem commitZone_cond_fields {z : Nat} {mid : ZoneLive} {s t : State} (hi : mid.isolated = false)
    (ht : t = commitZone z mid s) : (t.zone z).cond = if (t.zone z).alarms ≠ 0 then .alarm
      else if ∃ r ∈ (t.zone z).points, r.kind = .prealarm then .verifying
      else if (t.zone z).supervisories ≠ 0 then .supervisory
      else if (t.zone z).troubles ≠ 0 then .trouble else .quiet := by
  subst ht
  rw [commitZone_cond, alarms_commitZone, commitZone_points, commitZone_supervisories, commitZone_troubles]
  exact deriveCond_eq hi

/-- What a NORMAL event leaves in the list (R49). -/
theorem mem_points_normalEvent (l : ZoneLive) (e : PointEvent) (r : PointRec) : r ∈ (normalEvent l e).points ↔
    r ∈ l.points ∧ ¬ (r.node = e.node ∧ r.point = e.point ∧ (r.kind = .supervisory ∨ r.kind = .trouble)) := by
  simp only [normalEvent, List.mem_filter, PointRec.isFor, Bool.and_eq_true, Bool.not_eq_true', Bool.and_eq_false_iff,
    beq_eq_false_iff_ne]
  tauto

/-- Settles O14: the record attempted, or the point's records removed, and the outcome committed. -/
theorem supervisoryTroubleNormal : Obligations.SupervisoryTroubleNormal := by
  unfold Obligations.SupervisoryTroubleNormal
  rintro s t z e he hi ht
  rw [zoneEvent_eq hi] at ht
  obtain ⟨halarms, hiso⟩ := applyEvent_kept he s z (s.zone z)
  refine ⟨ht ▸ pictureFollows_commitZone z _ s, ht ▸ crewsTold_commitZone z _ s,
    by rw [ht, alarms_commitZone, halarms], commitZone_cond_fields (hiso.trans hi) ht, ?_, fun hn => ?_⟩
  · rintro k n n' m m' (⟨hc, rfl, rfl, rfl, rfl, rfl⟩ | ⟨hc, rfl, rfl, rfl, rfl, rfl⟩)
    · have hmid : applyEvent s z (s.zone z) e = s.attempted (s.zone z)
          { s.zone z with supervisories := bump8 (s.zone z).supervisories } e .supervisory := by
        simp only [applyEvent, hc, supervisoryEvent_eq]
      rw [hmid] at ht
      obtain ⟨hpresent, habsent⟩ := commitZone_attempted rfl ht rfl rfl (.inl rfl)
      exact ⟨hpresent, fun h => habsent h⟩
    · have hmid : applyEvent s z (s.zone z) e = s.attempted (s.zone z)
          { s.zone z with troubles := bump8 (s.zone z).troubles } e .trouble := by
        simp only [applyEvent, hc, troubleEvent_eq]
      rw [hmid] at ht
      obtain ⟨hpresent, habsent⟩ := commitZone_attempted rfl ht rfl rfl (.inr rfl)
      refine ⟨hpresent, fun h => ?_⟩
      obtain ⟨hsup, htr, hrecords⟩ := habsent h
      exact ⟨htr, hsup, hrecords⟩
  · have hmid : applyEvent s z (s.zone z) e = normalEvent (s.zone z) e := by simp only [applyEvent, hn]
    rw [hmid] at ht
    rw [ht, commitZone_points, commitZone_supervisories, commitZone_troubles]
    exact ⟨mem_points_normalEvent _ e, rfl, rfl⟩

/-! ### A verification window expires (R52) -/

/-- A committed record that neither enters nor leaves ALARM and makes no crossing leaves every other zone as it was. -/
theorem zone_commitZone_uncrossed {z : Nat} {mid : ZoneLive} {s : State}
    (h : s.crossingOf z (s.settledZone z mid) = []) {y : Nat} (hy : y ≠ z) :
    (commitZone z mid s).zone y = s.zone y := by
  have hstored : (s.storeZone z (s.settledZone z mid)).zone y = s.zone y := by rw [State.zone_storeZone, if_neg hy]
  by_cases hchanged : ZoneChanged s (commitZone z mid s) z
  · have hnone : y ∉ (listedZone (s.changeTo z mid) (s.storeZone z (s.settledZone z mid))).crossedZones
        (s.reportOf z mid) := by
      rw [State.mem_crossedZones, State.reportOf, h]
      rintro ⟨-, -, x, hx, -⟩
      cases hx
    rw [commitZone_reported z mid s hchanged, takeZoneReport_single (ch := s.changeTo z mid) rfl,
      zone_takeCarried fun x hx _ => by rw [List.mem_singleton.1 hx]; exact Ne.symm hy, State.zone_recomputed,
      if_neg hnone, zone_listedZone]
    exact (if_neg hy).trans hstored
  · rw [commitZone_unchanged _ _ _ hchanged, hstored]

theorem ArbitersOnly.of_commitZone {z : Nat} {mid : ZoneLive} {s t : State} (h : ArbitersOnly (commitZone z mid s) t) :
    ArbitersOnly { s with zp := t.zp, ageSteps := t.ageSteps, nr := t.nr } t := by
  have hframe := commitZone_frame z mid s
  have hnr := h.withNr
  rw [hframe] at hnr
  rw [h.zp, h.ageSteps]
  exact hnr

/-- Settles O15: the record without its PREALARM record, committed. -/
theorem verifyWindowExpires : Obligations.VerifyWindowExpires := by
  unfold Obligations.VerifyWindowExpires
  intro s z d hrun hv hi ha hd hdue
  have hwindow : s.windowDue z = true := by simp [State.windowDue, hv, hd, hdue]
  have hexec : exec (.verifyWindowExpiry z) s = .next (settle (commitZone z (s.zone z).lapse s)) := by
    refine congrArg Host.Outcome.next ((whenRunning_of_running hrun _).trans ?_)
    exact if_pos hwindow
  have hnone : ¬ ∃ r ∈ (s.zone z).lapse.points, r.kind = .prealarm := by simp [ZoneLive.lapse]
  have hcond : deriveCond (s.zone z).lapse = if (s.zone z).supervisories ≠ 0 then .supervisory
      else if (s.zone z).troubles ≠ 0 then .trouble else .quiet := by
    have halarms : ¬ (s.zone z).lapse.alarms ≠ 0 := not_not.2 ha
    rw [deriveCond_eq (l := (s.zone z).lapse) hi, if_neg halarms, if_neg hnone]
    rfl
  have hne : deriveCond (s.zone z).lapse ≠ .alarm := by
    rw [hcond]
    split
    · decide
    · split <;> decide
  have hcross : s.crossingOf z (s.settledZone z (s.zone z).lapse) = [] := by
    unfold State.crossingOf
    rw [if_neg (fun h => hne h.1), if_neg (fun h => by rw [hv] at h; cases h.1)]
  refine ⟨_, hexec, ?_⟩
  simp only [settle_zone, settle_zp]
  refine ⟨commitZone_points .., ?_, commitZone_lapses .., alarms_commitZone .., commitZone_supervisories ..,
    commitZone_troubles .., (commitZone_cond ..).trans hcond, fun y hy => zone_commitZone_uncrossed hcross hy, ?_, ?_⟩
  · rw [commitZone_deadline]
    split <;> rfl
  · rw [floors_commitZone, State.storeZone_keeps z s (iff_of_false hne (by rw [hv]; decide))]
    rfl
  · have h := (arbitersOnly_settle (commitZone z (s.zone z).lapse s)).of_commitZone
    rwa [settle_zp] at h

end Sys2Proof.Machine
end

section
/-! Isolation and panel reset (R12, R54 to R56, R83). -/

namespace Sys2Proof.Machine

/-! ### Isolation (R54, R55) -/

/-- A frame that arrives new and fits its kind, handed to a block: the Trunk Interface passes it on, and the event ends with
the arbiters' tests (R12). -/
theorem exec_handed {s : State} {p : Port} {b : Byte} {f : Frame} (h : ArrivesNew s p b f)
    (hk : observedKind f.kind = true) (hfit : payloadFits f.kind f.payload = true) {F : State → State}
    (hF : ∀ u, hand f u = F u) :
    ∃ u t, exec (.trunkFrameComplete p b) s = .next t ∧ PassedOn s u p f ∧ ArbitersOnly (F u) t :=
  ⟨passOn p f s, _, exec_arrivesNew h hk hfit, passedOn_passOn p f s, hF _ ▸ arbitersOnly_settle _⟩

theorem zoneIsolate_same {s : State} {z : Nat} {on : Bool} (h : (s.zoneDef z).defined = false ∨ (s.zone z).isolated = on) :
    zoneIsolate z on s = s := by
  unfold zoneIsolate
  by_cases hd : (s.zoneDef z).defined = false
  · exact if_pos hd
  · exact (if_neg hd).trans (if_pos (h.resolve_left hd))

theorem zoneIsolate_on {s : State} {z : Nat} (hd : (s.zoneDef z).defined = true) (hi : (s.zone z).isolated = false) :
    zoneIsolate z true s = commitZone z { (s.zone z).emptied with isolated := true } s :=
  ((if_neg (by simp [hd])).trans (if_neg (by simp [hi]))).trans (if_pos rfl)

theorem zoneIsolate_off {s : State} {z : Nat} (hd : (s.zoneDef z).defined = true) (hi : (s.zone z).isolated = true) :
    zoneIsolate z false s = commitZone z { s.zone z with isolated := false } s :=
  ((if_neg (by simp [hd])).trans (if_neg (by simp [hi]))).trans (if_neg (by simp))

/-- A ZONE_ISOLATE changes nothing, or commits a record. -/
theorem zoneIsolate_outcome (z : Nat) (on : Bool) (s : State) :
    zoneIsolate z on s = s ∨ ∃ mid, zoneIsolate z on s = commitZone z mid s := by
  by_cases h : (s.zoneDef z).defined = false ∨ (s.zone z).isolated = on
  · exact .inl (zoneIsolate_same h)
  · obtain ⟨hd, hi⟩ := not_or.1 h
    rw [Bool.not_eq_false] at hd
    cases on with
    | true => exact .inr ⟨_, zoneIsolate_on hd (by simpa using hi)⟩
    | false => exact .inr ⟨_, zoneIsolate_off hd (by simpa using hi)⟩

/-- A zone isolated (R54). -/
theorem zone_isolated {s : State} {z : Nat} {mid : ZoneLive} (hmid : mid = { (s.zone z).emptied with isolated := true })
    (hchanged : ZoneChanged s (commitZone z mid s) z) :
    ((commitZone z mid s).zone z).isolated = true ∧ ((commitZone z mid s).zone z).cond = .isolated ∧
      ((commitZone z mid s).zone z).points = [] ∧ ((commitZone z mid s).zone z).alarms = 0 ∧
      ((commitZone z mid s).zone z).supervisories = 0 ∧ ((commitZone z mid s).zone z).troubles = 0 ∧
      ((commitZone z mid s).zone z).overflow = false ∧ ((commitZone z mid s).zone z).alarmEntry = none ∧
      ((commitZone z mid s).zone z).deadline = none ∧ ((commitZone z mid s).zone z).urgency = none ∧
      ((commitZone z mid s).zone z).lapses = (s.zone z).lapses ∧
      ((commitZone z mid s).zone z).isolatedEvents = (s.zone z).isolatedEvents := by
  have hc : deriveCond mid = .isolated := by rw [hmid]; rfl
  rw [urgency_commitZone z mid s hchanged, commitZone_isolated, commitZone_cond, commitZone_points, alarms_commitZone,
    commitZone_supervisories, commitZone_troubles, commitZone_overflow, commitZone_alarmEntry, commitZone_deadline,
    commitZone_lapses, commitZone_isolatedEvents, hc, hmid]
  exact ⟨rfl, rfl, rfl, rfl, rfl, rfl, rfl, rfl, rfl, rfl, rfl, rfl⟩

/-- A payload that holds a ZONE_ISOLATE fits its kind. -/
theorem payloadFits_zoneIsolate {payload : List Byte} {z : Nat} {on : Bool}
    (h : readZoneIsolate payload = some (z, on)) : payloadFits 0x12#8 payload = true := by
  simp [payloadFits, kPointEvent, kZoneIsolate, h]

/-- Settles O16: the record emptied or taken out of isolation, committed. -/
theorem zoneIsolated : Obligations.ZoneIsolated := by
  unfold Obligations.ZoneIsolated
  refine ⟨fun s p b f z on h hk hread => ?_, fun s z on => ?_, fun s z hz => ⟨fun hd hi => ?_, fun hd hi => ?_,
    fun on h => zoneIsolate_same h⟩⟩
  · refine exec_handed h (by rw [hk]; decide) (by rw [hk]; exact payloadFits_zoneIsolate hread) fun u => ?_
    simp [hand, hk, hread, kPointEvent, kPanelReset, kZoneIsolate]
  · rcases zoneIsolate_outcome z on s with heq | ⟨mid, heq⟩ <;> rw [heq]
    · exact ⟨pictureFollows_self s z, crewsTold_self s z⟩
    · exact ⟨pictureFollows_commitZone z mid s, crewsTold_commitZone z mid s⟩
  · rw [zoneIsolate_on hd hi]
    have hne : (s.zone z).cond ≠ .isolated := fun hc => by simp [hz.cond_isolated_iff.1 hc] at hi
    have hcond : ((commitZone z { (s.zone z).emptied with isolated := true } s).zone z).cond = .isolated :=
      commitZone_cond ..
    have hchanged : ZoneChanged s (commitZone z { (s.zone z).emptied with isolated := true } s) z :=
      .inl (by rwa [hcond])
    refine ⟨zone_isolated rfl hchanged, fun c ha => ?_⟩
    obtain ⟨-, hgone, -⟩ := (crewsTold_commitZone z _ s).1 hchanged c ha
    obtain ⟨hp, hat, has, hoffer, hmark⟩ := hgone (by rw [hcond]; rfl)
    refine ⟨hp, hat, has, hoffer, fun htold => ?_⟩
    rw [hmark htold, if_pos hcond]
  · rw [zoneIsolate_off hd hi]
    exact ⟨commitZone_isolated .., (commitZone_cond ..).trans (hz.deriveCond_unisolated hi), commitZone_isolatedEvents ..⟩

/-! ### Panel reset (R56) -/

/-- A zone that a report does not list keeps its record while the others are listed. -/
theorem State.zone_listed_other {chs : List Change} {y : Nat} (h : ∀ ch ∈ chs, ch.zone ≠ y) (s : State) :
    (s.listed chs).zone y = s.zone y :=
  List.foldlRecOn (motive := fun t => State.zone t y = s.zone y) chs _ rfl fun t ih ch hch => by
    rw [zone_listedZone, if_neg (Ne.symm (h ch hch))]
    exact ih

/-- A report leaves the records of the zones that it does not list and that are not active. -/
theorem zone_takeZoneReport_idle {r : ZoneReport} {s : State} {y : Nat} (h : ∀ ch ∈ r.changes, ch.zone ≠ y)
    (ha : s.zoneActive y = false) : (takeZoneReport r s).zone y = s.zone y := by
  rw [takeZoneReport_eq]
  split
  · rfl
  · have hidle : y ∉ (s.listed r.changes).crossedZones r := fun hy => by
      have hact := ((State.mem_crossedZones _ _ _).1 hy).1
      rw [(s.reportOnly_listed _).zoneActive, ha] at hact
      cases hact
    rw [zone_takeCarried fun ch hch _ => h ch hch, State.reckoned, State.zone_recomputed, if_neg hidle,
      State.zone_listed_other h]

/-- The zones of a report that makes them all QUIET, gone from one crew. -/
theorem crew_carriedTo_quiet {chs : List Change} (hq : ∀ ch ∈ chs, ch.after = .quiet) (us : List UrgencyChange) (c : Link)
    (s : State) : (s.carriedTo chs us c).crew c =
      ((s.crew c).zonesGone (chs.map Change.zone)).noteUrgencies us := by
  have hgone : chs.filter (fun ch => !ch.after.active) = chs :=
    List.filter_eq_self.2 fun ch hch => by rw [hq ch hch]; rfl
  have hmoved : chs.filter (fun ch => ch.after.active) = [] :=
    List.filter_eq_nil_iff.2 fun ch hch => by rw [hq ch hch]; decide
  have hfold : ∀ (l : List Change) (k : Crew), (∀ ch ∈ l, ch.after = .quiet) →
      l.foldl (fun k ch => k.zoneGone ch.zone (ch.after == .isolated)) k = k.zonesGone (l.map Change.zone) := by
    intro l
    induction l with
    | nil => exact fun k _ => rfl
    | cons ch l ih =>
      intro k hl
      have hch : (ch.after == Cond.isolated) = false := by rw [hl ch List.mem_cons_self]; rfl
      rw [List.foldl_cons, hch]
      exact ih _ fun x hx => hl x (List.mem_cons_of_mem _ hx)
  have hcrew := crew_foldl (f := fun ch s => zoneGone c ch s)
    (g := fun k ch => k.zoneGone ch.zone (ch.after == .isolated)) (fun ch s d => crew_zoneGone c d ch s) chs s c
  rw [if_pos rfl, hfold chs _ hq] at hcrew
  rw [State.carriedTo, hgone, hmoved, crew_foldl_urgencyMoved, if_pos rfl]
  exact congrArg (fun k : Crew => k.noteUrgencies us) hcrew

/-- What an attached crew holds of a zone after a report that lists it and makes every zone that it lists QUIET (R83). -/
theorem crew_takeCarried_quiet {chs : List Change} {us : List UrgencyChange} {s : State} {c : Link} {z : Nat}
    (ha : s.attached c = true) (hq : ∀ ch ∈ chs, ch.after = .quiet) (hz : z ∈ chs.map Change.zone)
    (hus : ∀ u ∈ us, u.zone ≠ z) :
    z ∉ ((takeCarried chs us s).crew c).pending ∧ z ∉ ((takeCarried chs us s).crew c).attended ∧
      z ∉ ((takeCarried chs us s).crew c).aside ∧ ((takeCarried chs us s).crew c).offer.names z = false ∧
      (z ∈ (s.crew c).attended ∨ (s.crew c).offer.outNames z = true →
        ((takeCarried chs us s).crew c).mark z = some .clear) := by
  refine crew_takeCarried (Q := fun k k' => z ∉ k'.pending ∧ z ∉ k'.attended ∧ z ∉ k'.aside ∧
    k'.offer.names z = false ∧ (z ∈ k.attended ∨ k.offer.outNames z = true → k'.mark z = some .clear)) ha fun u _ => ?_
  obtain ⟨hp, hat, has, hoffer, hmark⟩ := (u.crew c).zonesGone_mem hz
  have hcrew := crew_carriedTo_quiet hq us c u
  have hnoted := marksOnly_noteUrgencies ((u.crew c).zonesGone (chs.map Change.zone)) us
  rw [crew_offerStep, if_pos rfl, hcrew]
  refine ⟨by rwa [← hnoted.pending] at hp, by rwa [← hnoted.attended] at hat, by rwa [← hnoted.aside] at has,
    State.names_offerAfter ?_ ?_, fun htold => ?_⟩
  · rwa [hcrew, hnoted.pending]
  · rwa [hcrew, hnoted.offer]
  · exact (Crew.mark_noteUrgencies _ hus).trans (hmark htold)

section reset
variable (s : State)

theorem reportOnly_panelReset : ReportOnly s.resetZones (panelReset s) := reportOnly_takeZoneReport _ _

theorem State.mem_resetChanges_zone {s : State} {z : Nat} :
    z ∈ s.resetChanges.map Change.zone ↔ s.zoneActive z = true := by
  simp [State.resetChanges, State.mem_activeZones]

theorem State.resetChanges_quiet (ch : Change) (h : ch ∈ s.resetChanges) : ch.after = .quiet := by
  rw [((s.mem_resetChanges ch).1 h).2]

/-- With some zone active a PANEL_RESET's report is made. -/
theorem panelReset_reported (h : s.resetChanges ≠ []) : panelReset s = takeCarried s.resetChanges
    (s.resetZones.carriedOthers ⟨s.resetChanges, s.resetCrossings⟩)
    (s.resetZones.reckoned ⟨s.resetChanges, s.resetCrossings⟩) := by
  rw [panelReset_eq, takeZoneReport_eq, if_neg h]

theorem crew_panelReset_unattached {c : Link} (ha : s.attached c = false) : (panelReset s).crew c = s.crew c := by
  by_cases h : s.resetChanges = []
  · rw [panelReset_eq, takeZoneReport_eq, if_pos h]
    rfl
  · have hatt : (s.resetZones.reckoned ⟨s.resetChanges, s.resetCrossings⟩).attached c = s.attached c :=
      (State.reportOnly_reckoned ..).attached c
    rw [panelReset_reported s h, crew_takeCarried_unattached (hatt.trans ha), crew_reckoned]
    rfl

theorem crew_panelReset {c : Link} {z : Nat} (ha : s.attached c = true) (hz : s.zoneActive z = true) :
    z ∉ ((panelReset s).crew c).pending ∧ z ∉ ((panelReset s).crew c).attended ∧
      z ∉ ((panelReset s).crew c).aside ∧ ((panelReset s).crew c).offer.names z = false ∧
      (z ∈ (s.crew c).attended ∨ (s.crew c).offer.outNames z = true →
        ((panelReset s).crew c).mark z = some .clear) := by
  have hmem : z ∈ s.resetChanges.map Change.zone := State.mem_resetChanges_zone.2 hz
  have hne : s.resetChanges ≠ [] := fun h => by simp [h] at hmem
  have hatt : (s.resetZones.reckoned ⟨s.resetChanges, s.resetCrossings⟩).attached c = s.attached c :=
    (State.reportOnly_reckoned ..).attached c
  have h := crew_takeCarried_quiet (us := s.resetZones.carriedOthers ⟨s.resetChanges, s.resetCrossings⟩) (hatt.trans ha)
    s.resetChanges_quiet hmem fun u hu => by
      obtain ⟨ch, hch, hzone⟩ := List.mem_map.1 hmem
      exact hzone ▸ Ne.symm (State.mem_carriedOthers hu ch hch)
  rwa [← panelReset_reported s hne, crew_reckoned] at h
end reset

/-- Settles O17: every record emptied, then one report that lists the zones that were active. -/
theorem panelResetClears : Obligations.PanelResetClears := by
  unfold Obligations.PanelResetClears
  refine ⟨fun s p b f h hk hp => ?_, fun s hs => ?_⟩
  · refine exec_handed h (by rw [hk]; decide) (by rw [hk, hp]; decide) fun u => ?_
    simp [hand, hk, kPointEvent, kPanelReset]
  · have hreset := State.zone_resetZones hs.1
    refine ⟨fun z hi => ?_, fun z hi => ?_, fun f => ?_, fun c z => crew_panelReset s,
      fun c => crew_panelReset_unattached s, (reportOnly_panelReset s).tables, ?_⟩
    · have hinv := (keepsPicture_panelReset s hs).1.2 z
      have hzone := (reportOnly_panelReset s).zone z
      have hpanel : (s.zone z).panelReset = { (s.zone z).emptied with cond := .quiet } := if_neg (by simp [hi])
      have hcond : ((panelReset s).zone z).cond = .quiet := by rw [hzone, hreset, hpanel]
      have hurgency : ((panelReset s).zone z).urgency = none := by
        rw [← Option.not_isSome_iff_eq_none]
        refine mt ((zoneInv_iff _).1 hinv).2.1 ?_
        rw [hcond]
        decide
      rw [hurgency, hzone, hreset, hpanel]
      exact ⟨rfl, rfl, rfl, rfl, rfl, rfl, rfl, rfl, rfl, rfl, rfl⟩
    · have hidle : s.zoneActive z = false := by
        rw [State.zoneActive, (hs.2 z).cond_isolated_iff.2 hi]
        rfl
      have hkept : s.resetZones.zone z = s.zone z := (hreset z).trans (if_pos hi)
      rw [panelReset_eq, zone_takeZoneReport_idle, hkept]
      · rintro ch hch rfl
        have hact := ((s.mem_resetChanges ch).1 hch).1
        rw [hidle] at hact
        cases hact
      · rw [State.zoneActive, hkept]
        exact hidle
    · rw [(reportOnly_panelReset s).floorCount]
      exact Tab.get_nil ..
    · rw [(reportOnly_panelReset s).picture]
      rfl

end Sys2Proof.Machine
end

section
/-! PICTURE_CLEAR, ZONE_READ and STATUS_READ (R60, R62, R76, R103, R172, R176 to R178). -/

namespace Sys2Proof.Machine

/-! ### The picture cleared (R60, R76, R103) -/

/-- A crew once the picture has been cleared (R103). -/
def Crew.cleared (k : Crew) : Crew :=
  ({ k with pending := [], attended := [], aside := [], offer := .none, marks := [], rc := 0 } : Crew).setSystemDue

theorem crew_unattendAll (c d : Link) (s : State) : (unattendAll c s).crew d = s.crew d :=
  List.foldlRecOn (motive := fun t => State.crew t d = s.crew d) _ _ rfl fun _ ih _ _ => ih

theorem crew_crewCleared (c d : Link) (s : State) : (crewCleared c s).crew d =
    if d = c ∧ s.attached c = true then (s.crew c).cleared else s.crew d := by
  have hmod : (((unattendAll c s).modCrew c Crew.cleared).crew d) = if d = c then (s.crew c).cleared else s.crew d := by
    rw [State.crew_modCrew, crew_unattendAll, crew_unattendAll]
  unfold crewCleared
  split
  · rename_i ha
    refine hmod.trans ?_
    simp [ha]
  · rename_i ha
    simp [ha]

/-- A crew taken out of an attended-by set that is empty leaves it empty. -/
theorem zone_setAttended_start {c : Link} {s : State} (h : ∀ y, s.zone y = ZoneLive.start) (z y : Nat) :
    (setAttended c z false s).zone y = ZoneLive.start := by
  rw [zone_setAttended, h, h]
  split
  · cases c <;> rfl
  · rfl

theorem zone_takeCleared_start {s : State} (h : ∀ y, s.zone y = ZoneLive.start) (y : Nat) :
    (takeCleared s).zone y = ZoneLive.start := by
  have one : ∀ (c : Link) (u : State), (∀ y, u.zone y = ZoneLive.start) → ∀ y, (crewCleared c u).zone y = ZoneLive.start := by
    intro c u hu
    unfold crewCleared
    split
    · exact List.foldlRecOn (motive := fun t => ∀ y, State.zone t y = ZoneLive.start) _ _ hu fun t ih z _ =>
        zone_setAttended_start ih z
    · exact hu
  exact one .l4 _ (one .l3 _ (one .l2 _ (one .l1 _ h))) y

/-- What a picture clear leaves outside the crews' side. -/
theorem pictureClear_frame (s : State) : pictureClear s = { s with
    zp := (pictureClear s).zp
    ageSteps := (pictureClear s).ageSteps
    nr := (pictureClear s).nr } := by
  have h := pictureOnly_takeCleared { s with zp := { live := [], floors := [] }, ageSteps := [] }
  have hclear : pictureClear s = takeCleared { s with zp := { live := [], floors := [] }, ageSteps := [] } := rfl
  rw [hclear]
  generalize takeCleared _ = t at h ⊢
  rw [h]

section cleared
variable (s : State)

theorem zone_pictureClear (z : Nat) : (pictureClear s).zone z = ZoneLive.start :=
  zone_takeCleared_start (fun _ => rfl) z

theorem ageStep_pictureClear (z : Nat) : (pictureClear s).ageStep z = none := by
  rw [State.ageStep, pictureClear, takePictureClear, (crewWrites_takeCleared _).attendedOnly.ageSteps, Tab.get_nil]

theorem floorCount_pictureClear (f : Int) : (pictureClear s).floorCount f = 0 := by
  rw [State.floorCount, pictureClear, takePictureClear, (crewWrites_takeCleared _).attendedOnly.floors]
  exact Tab.get_nil ..

/-- Every attached crew is empty but for its live sectors, and owed a SYSTEM notice (R103). -/
theorem crew_pictureClear {c : Link} (ha : s.attached c = true) : (pictureClear s).crew c = (s.crew c).cleared := by
  refine crew_eachLink (F := crewCleared) (Q := fun d k k' => d = c → k' = k.cleared)
    (I := fun u => u.attached c = true) (fun d u hu => ?_) (fun d e u h => ?_) (fun d u hu hd => ?_)
    (s := { s with zp := { live := [], floors := [] }, ageSteps := [] }) ha c rfl
  · have hkept : (crewCleared d u).cl = u.cl := by
      unfold crewCleared
      split
      · rw [State.modCrew_cl, pictureOnly_unattendAll d u]
      · rfl
    rw [State.attached, State.link, hkept]
    exact hu
  · rw [crew_crewCleared, if_neg fun h' => h h'.1]
  · subst hd
    rw [crew_crewCleared, if_pos ⟨rfl, hu⟩]
end cleared

/-- Two own frames one after the other stand at the end of a queue with room for both (R13). -/
theorem PortUnit.placeOwn_twice (u : PortUnit) (f g : Frame) (h : u.ownQueue.length ≤ 2) :
    ((u.placeOwn f).placeOwn g).ownQueue = u.ownQueue ++ [f, g] := by
  have h1 : u.ownQueue.length < 4 := by omega
  have h2 : (u.ownQueue ++ [f]).length < 4 := by
    rw [List.length_append, List.length_singleton]
    omega
  rw [PortUnit.placeOwn_ownQueue, PortUnit.placeOwn_ownQueue, if_pos h1, if_pos h2, List.append_assoc,
    List.singleton_append]

/-- Settles O18: the picture cleared, then the resync called, then the reply. -/
theorem pictureCleared : Obligations.PictureCleared := by
  unfold Obligations.PictureCleared
  intro s src id hs
  obtain ⟨t, ht, harb⟩ := exec_carried hs (id := id) (i := .pictureClear src id []) rfl (r := .pictureClear) rfl rfl
    (u := reply src id .ok [] (callResync (pictureClear s))) rfl
  have hframe := pictureClear_frame s
  have hport : ∀ p, (pictureClear s).port p = s.port p := fun p => by
    rw [hframe]
    rfl
  refine ⟨t, ht, fun z => ⟨?_, ?_⟩, fun f => ?_, fun c ha => ?_, ?_, ?_, fun p hq => ?_, ?_, ?_, ?_, ?_, ?_⟩
  · rw [harb.zone, State.zone, reply_zp, callResync_zp]
    exact zone_pictureClear s z
  · rw [State.ageStep, harb.ageSteps, reply_ageSteps, callResync_ageSteps]
    exact ageStep_pictureClear s z
  · rw [State.floorCount, harb.zp, reply_zp, callResync_zp]
    exact floorCount_pictureClear s f
  · have hcrew : (reply src id .ok [] (callResync (pictureClear s))).crew c =
        (setStatus .resyncing (pictureClear s)).crew c := by
      rw [State.crew, reply_nr, callResync_eq]
      rfl
    rw [harb.crew, hcrew, crew_setStatus, crew_pictureClear s ha]
    split <;> exact ⟨rfl, rfl, rfl, rfl, fun _ => rfl, rfl, rfl, rfl⟩
  · rw [harb.sc, reply_sc, callResync_eq, hframe]
    rfl
  · have hseq : (callResync (pictureClear s)).ti.ownSeq = s.ti.ownSeq + 1 := by
      rw [callResync_eq, hframe]
      rfl
    rw [harb.ti, reply_ownSeq, hseq, add_assoc]
    rfl
  · have hseq : (callResync (pictureClear s)).ti.ownSeq = s.ti.ownSeq + 1 := by
      rw [callResync_eq, hframe]
      rfl
    have hcall : (pictureClear s).ti.ownSeq = s.ti.ownSeq := by rw [hframe]
    refine ⟨(pictureClear s).ownFrame 0x00#8 kResyncCall [],
      (callResync (pictureClear s)).ownFrame src kMgmtReply (be16 id ++ [0x00#8]), rfl, rfl, hcall, rfl, rfl, rfl, hseq, ?_⟩
    rw [harb.port, port_reply, port_callResync, hport]
    exact PortUnit.placeOwn_twice _ _ _ hq
  · rw [harb.tables, reply_tables, callResync_tables, hframe]
  · rw [harb.mr, reply_mr, callResync_mr, hframe]
    exact hs.2.2
  · rw [harb.tb, reply_tb, callResync_tb, hframe]
  · rw [harb.planMem, reply_planMem, callResync_planMem, hframe]
  · rw [harb.orphans, reply_orphans, callResync_orphans, hframe]

/-! ### Records read (R62, R176 to R178) -/

theorem zoneNumber_iff (z : Nat) : zoneNumber z = true ↔ 1 ≤ z ∧ z ≤ 1023 := by
  simp [zoneNumber, Nat.one_le_iff_ne_zero]

/-- The frame of a reply with a result and its data (R160). -/
theorem reply_ownQueue {s : State} {p : Port} (h : (s.port p).ownQueue.length < 4) (src : Byte) (id : Word16)
    (data : List Byte) : ∃ f : Frame, f.dst = src ∧ f.payload = be16 id ++ 0x00#8 :: data ∧
      ((reply src id .ok data s).port p).ownQueue = (s.port p).ownQueue ++ [f] := by
  refine ⟨s.ownFrame src kMgmtReply (be16 id ++ 0x00#8 :: data), rfl, rfl, ?_⟩
  rw [port_reply, PortUnit.placeOwn_ownQueue, if_pos h]
  rfl

/-- A port with its counters cleared (R178). -/
theorem port_clearCounters (s : State) (p : Port) :
    (clearCounters s).port p = { s.port p with counters := PortCounters.zero } := by cases p <;> rfl

theorem link_clearCounters (s : State) (c : Link) : (clearCounters s).link c = { s.link c with rxErrors := 0 } := by
  cases c <;> rfl

/-- A STATUS_READ with its mark set, as the arbiters leave it: the counters cleared, then the reply placed (R178). -/
theorem clearingRead {s t : State} {src : Byte} {id : Word16}
    (h : ArbitersOnly (reply src id .ok s.statusRecord (clearCounters s)) t) :
    (∀ p, (s.port p).ownQueue.length < 4 → (t.port p).counters = PortCounters.zero ∧
        ∃ f : Frame, f.dst = src ∧ f.payload = be16 id ++ 0x00#8 :: s.statusRecord ∧
          (t.port p).ownQueue = (s.port p).ownQueue ++ [f]) ∧
      t.orphans = 0 ∧ t.ss.planFaults = 0 ∧ (∀ c, (t.link c).rxErrors = 0) := by
  refine ⟨fun p hq => ?_, ?_, ?_, fun c => ?_⟩
  · have hport := port_clearCounters s p
    have hq' : ((clearCounters s).port p).ownQueue.length < 4 := by rwa [hport]
    obtain ⟨f, hdst, hpayload, hqueue⟩ := reply_ownQueue hq' src id s.statusRecord
    rw [h.port]
    refine ⟨?_, f, hdst, hpayload, by rw [hqueue, hport]⟩
    rw [port_reply, PortUnit.placeOwn_counters, if_pos hq', hport]
  · rw [h.orphans, reply_orphans]
    rfl
  · rw [h.planFaults, reply_ss]
    rfl
  · rw [h.link, State.link, reply_cl]
    exact congrArg LinkUnit.rxErrors (link_clearCounters s c)

/-- Settles O46: the record is copied before the counters are cleared, and the reply is placed after. -/
theorem recordsRead : Obligations.RecordsRead := by
  unfold Obligations.RecordsRead
  intro s src id h l hs
  have carryZone : ∀ z, carryOut src id (.zoneRead z) s =
      if zoneNumber z then reply src id .ok (s.zoneRecord z) s else reply src id .badIndex [] s := fun _ => rfl
  refine ⟨fun hz => ?_, fun h1 h2 => ?_, ?_, ?_⟩
  · refine exec_carried hs rfl rfl rfl ((carryZone (num16 h l)).trans (if_neg ?_))
    rw [zoneNumber_iff]
    omega
  · exact exec_carried hs rfl rfl rfl ((carryZone (num16 h l)).trans (if_pos ((zoneNumber_iff _).2 ⟨h1, h2⟩)))
  · exact exec_carried hs rfl (r := .statusRead false) rfl rfl rfl
  · obtain ⟨t, ht, harb⟩ := exec_carried hs (id := id) (i := .statusRead src id [0x01#8]) rfl (r := .statusRead true) rfl
      rfl (u := reply src id .ok s.statusRecord (clearCounters s)) rfl
    obtain ⟨hports, horphans, hfaults, herrors⟩ := clearingRead harb
    refine ⟨t, ht, hports, harb.ti, horphans, hfaults, herrors, harb.sc, ?_⟩
    rw [harb.ti]
    exact harb

end Sys2Proof.Machine
end

section
/-! TABLE_WRITE to the zone definitions and to the sheet directory (R34, R134, R164): the entries read back from their bytes,
and the tests in their order. -/

namespace Sys2Proof.Machine

/-! ### Fields (10.1) -/

theorem toNat_floorByte (f : Int) : (floorByte f).toNat = (f % 256).toNat := by
  simp [floorByte, BitVec.toNat_ofInt]

/-- A floor of R33 reads back from its byte. -/
theorem readFloor_floorByte {f : Int} (h1 : -8 ≤ f) (h2 : f ≤ 127) : readFloor (floorByte f) = some f := by
  have hn := toNat_floorByte f
  unfold readFloor
  rw [hn]
  split
  · congr 1
    omega
  · rw [if_pos (by omega)]
    congr 1
    omega

/-- The bytes of a floor that are reserved read as none. -/
theorem readFloor_reserved {b : Byte} (h1 : 128 ≤ b.toNat) (h2 : b.toNat ≤ 247) : readFloor b = none := by
  unfold readFloor
  rw [if_neg (by omega), if_neg (by omega)]

/-- A sheet field of R33 reads back from its two bytes. -/
theorem readSheetField_sheetField {x : Option Nat} (h : x.all (fun n => decide (n ≤ 511)) = true) :
    ∃ a b, sheetField x = [a, b] ∧ readSheetField a b = some x := by
  cases x with
  | none => exact ⟨0xFF#8, 0xFF#8, rfl, by simp [readSheetField, num16]⟩
  | some n =>
    have hn : n ≤ 511 := by simpa using h
    refine ⟨_, _, rfl, ?_⟩
    simp only [readSheetField]
    rw [num16_nat16 (by omega), if_neg (by omega), if_pos (by omega)]

/-- The numbers of a sheet field that are reserved read as none. -/
theorem readSheetField_reserved {a b : Byte} (h1 : 512 ≤ num16 a b) (h2 : num16 a b ≠ 65535) :
    readSheetField a b = none := by
  unfold readSheetField
  dsimp only
  rw [if_neg h2, if_neg (by omega)]

/-! ### A zone definition (10.3) -/

/-- What a zone definition's first byte holds. -/
theorem zoneFlags (defined verify : Bool) {hazard : Nat} (h : hazard ≤ 3) :
    byteOf (defined.toNat * 128 + verify.toNat * 64 + hazard) &&& 0x3C#8 = 0 ∧
    (byteOf (defined.toNat * 128 + verify.toNat * 64 + hazard)).getLsbD 7 = defined ∧
    (byteOf (defined.toNat * 128 + verify.toNat * 64 + hazard)).getLsbD 6 = verify ∧
    (byteOf (defined.toNat * 128 + verify.toNat * 64 + hazard) &&& 0x03#8).toNat = hazard := by
  have all : ∀ (a v : Bool) (n : Fin 4), byteOf (a.toNat * 128 + v.toNat * 64 + n.val) &&& 0x3C#8 = 0 ∧
      (byteOf (a.toNat * 128 + v.toNat * 64 + n.val)).getLsbD 7 = a ∧
      (byteOf (a.toNat * 128 + v.toNat * 64 + n.val)).getLsbD 6 = v ∧
      (byteOf (a.toNat * 128 + v.toNat * 64 + n.val) &&& 0x03#8).toNat = n.val := by decide
  exact all defined verify ⟨hazard, by omega⟩

/-- The fields of a definition within their ranges (R33). -/
theorem ZoneDef.inRange_iff (d : ZoneDef) : d.inRange = true ↔
    (-8 ≤ d.floor ∧ d.floor ≤ 127) ∧ (1 ≤ d.sector ∧ d.sector ≤ 16) ∧ d.hazard ≤ 3 ∧
    d.primary.all (fun n => decide (n ≤ 511)) = true ∧ d.secondary.all (fun n => decide (n ≤ 511)) = true ∧
    d.label.length ≤ 24 ∧ ∀ b ∈ d.label, 0x20 ≤ b.toNat ∧ b.toNat ≤ 0x7E := by
  simp only [ZoneDef.inRange, Bool.and_eq_true, decide_eq_true_eq, List.all_eq_true, and_assoc]

/-- A definition in range reads back from its bytes. -/
theorem readZoneDef_bytes {d : ZoneDef} (h : d.inRange = true) : readZoneDef d.bytes = some d := by
  obtain ⟨⟨hf1, hf2⟩, ⟨hs1, hs2⟩, hhazard, hprimary, hsecondary, hlength, -⟩ := d.inRange_iff.1 h
  obtain ⟨p1, p2, hp, hreadp⟩ := readSheetField_sheetField hprimary
  obtain ⟨q1, q2, hq, hreadq⟩ := readSheetField_sheetField hsecondary
  obtain ⟨hflags, hdefined, hverify, hhaz⟩ := zoneFlags d.defined d.verify hhazard
  have hlen : (byteOf d.label.length).toNat = d.label.length := toNat_byteOf (by omega)
  have hsector : (byteOf d.sector).toNat = d.sector := toNat_byteOf (by omega)
  rw [ZoneDef.bytes, hp, hq]
  simp only [List.cons_append, List.nil_append, readZoneDef]
  rw [if_pos ⟨hlen.symm, by omega, hflags⟩, readFloor_floorByte hf1 hf2, hreadp, hreadq]
  simp only [hdefined, hverify, hhaz, hsector]

/-- A definition read from its bytes, field by field. -/
theorem readZoneDef_some {b0 fl sec p1 p2 q1 q2 n : Byte} {label : List Byte} {d : ZoneDef}
    (h : readZoneDef (b0 :: fl :: sec :: p1 :: p2 :: q1 :: q2 :: n :: label) = some d) :
    (label.length = n.toNat ∧ n.toNat ≤ 24 ∧ b0 &&& 0x3C#8 = 0) ∧ readFloor fl = some d.floor ∧
      readSheetField p1 p2 = some d.primary ∧ readSheetField q1 q2 = some d.secondary ∧ d.sector = sec.toNat ∧
      d.label = label := by
  simp only [readZoneDef] at h
  split at h
  · rename_i hhead
    split at h
    · rename_i floor primary secondary hfloor hprimary hsecondary
      cases h
      exact ⟨hhead, hfloor, hprimary, hsecondary, rfl, rfl⟩
    · cases h
  · cases h

/-- An entry with a field out of its range or of a reserved value reads as no definition in range. -/
theorem readZoneDef_refused {b0 fl sec p1 p2 q1 q2 n : Byte} {label : List Byte}
    (hbad : b0 &&& 0x3C#8 ≠ 0 ∨ (128 ≤ fl.toNat ∧ fl.toNat ≤ 247) ∨ sec.toNat = 0 ∨ 16 < sec.toNat ∨
      (512 ≤ num16 p1 p2 ∧ num16 p1 p2 ≠ 65535) ∨ (512 ≤ num16 q1 q2 ∧ num16 q1 q2 ≠ 65535) ∨
      label.length ≠ n.toNat ∨ 24 < n.toNat ∨ ∃ x ∈ label, x.toNat < 0x20 ∨ 0x7E < x.toNat) {d : ZoneDef}
    (h : readZoneDef (b0 :: fl :: sec :: p1 :: p2 :: q1 :: q2 :: n :: label) = some d) : d.inRange = false := by
  obtain ⟨⟨hlength, hmost, hflags⟩, hfloor, hprimary, hsecondary, hsector, hlabel⟩ := readZoneDef_some h
  refine Bool.eq_false_iff.2 fun hr => ?_
  obtain ⟨-, ⟨hs1, hs2⟩, -, -, -, -, hchars⟩ := d.inRange_iff.1 hr
  rw [hsector] at hs1 hs2
  rw [hlabel] at hchars
  rcases hbad with hb | ⟨h1, h2⟩ | hb | hb | ⟨h1, h2⟩ | ⟨h1, h2⟩ | hb | hb | ⟨x, hx, hb⟩
  · exact hb hflags
  · rw [readFloor_reserved h1 h2] at hfloor
    cases hfloor
  · omega
  · omega
  · rw [readSheetField_reserved h1 h2] at hprimary
    cases hprimary
  · rw [readSheetField_reserved h1 h2] at hsecondary
    cases hsecondary
  · exact hb hlength
  · omega
  · obtain ⟨hc1, hc2⟩ := hchars x hx
    omega

/-! ### A directory record (10.3) -/

/-- The reserved bits of a directory record's first byte are clear. -/
theorem sheetFlags (defined : Bool) {code q : Nat} (hc : code < 4) (hq : q < 8) :
    byteOf (defined.toNat * 128 + code * 16 + q) &&& 0x48#8 = 0 := by
  have all : ∀ (a : Bool) (c : Fin 4) (n : Fin 8), byteOf (a.toNat * 128 + c.val * 16 + n.val) &&& 0x48#8 = 0 := by decide
  exact all defined ⟨code, hc⟩ ⟨q, hq⟩

theorem SheetKind.code_lt (k : SheetKind) : k.code < 4 := by cases k <;> decide

/-- A kind reads back from its code. -/
theorem SheetKind.read_code (k : SheetKind) : (if k.code = 0 then .floor else if k.code = 1 then .riser
    else if k.code = 2 then .services else .hazard : SheetKind) = k := by cases k <;> rfl

theorem SheetRec.inRange_iff (r : SheetRec) : r.inRange = true ↔
    r.first ≤ 2047 ∧ (1 ≤ r.count ∧ r.count ≤ 64) ∧ (1 ≤ r.lastLen ∧ r.lastLen ≤ 256) ∧ -8 ≤ r.floor ∧ r.floor ≤ 127 := by
  simp only [SheetRec.inRange, Bool.and_eq_true, decide_eq_true_eq, and_assoc]

/-- The high byte of a 16-bit field. -/
theorem highByte_eq {n : Nat} : (BitVec.ofNat 16 n).extractLsb' 8 8 = byteOf (n / 256) := by
  apply BitVec.eq_of_toNat_eq
  simp only [byteOf, BitVec.extractLsb'_toNat, BitVec.toNat_ofNat, Nat.shiftRight_eq_div_pow]
  omega

/-- A record in range reads back from its bytes. -/
theorem readSheetRec_bytes {r : SheetRec} (h : r.inRange = true) : readSheetRec r.bytes = some r := by
  obtain ⟨hfirst, ⟨hc1, hc2⟩, ⟨hl1, hl2⟩, hf1, hf2⟩ := r.inRange_iff.1 h
  have hcode := r.kind.code_lt
  set w := r.defined.toNat * 32768 + r.kind.code * 4096 + r.first with hw
  have hbit : r.defined.toNat ≤ 1 := by cases r.defined <;> decide
  have hw16 : w < 65536 := by omega
  have hhigh : w / 256 = r.defined.toNat * 128 + r.kind.code * 16 + r.first / 256 := by omega
  have hflags : (BitVec.ofNat 16 w).extractLsb' 8 8 &&& 0x48#8 = 0 := by
    rw [highByte_eq, hhigh]
    exact sheetFlags r.defined hcode (by omega)
  have hdefined : decide (32768 ≤ w) = r.defined := by
    cases hd : r.defined
    · simp only [hd, Bool.toNat_false] at hw
      exact decide_eq_false (by omega)
    · simp only [hd, Bool.toNat_true] at hw
      exact decide_eq_true (by omega)
  have hkind : w / 4096 % 4 = r.kind.code := by omega
  have hpage : w % 2048 = r.first := by omega
  have hcount : (byteOf r.count).toNat = r.count := toNat_byteOf (by omega)
  show readSheetRec [(BitVec.ofNat 16 w).extractLsb' 8 8, (BitVec.ofNat 16 w).extractLsb' 0 8, byteOf r.count,
    (BitVec.ofNat 16 r.lastLen).extractLsb' 8 8, (BitVec.ofNat 16 r.lastLen).extractLsb' 0 8, floorByte r.floor] = some r
  simp only [readSheetRec]
  rw [if_pos hflags, readFloor_floorByte hf1 hf2]
  simp only [num16_nat16 hw16, num16_nat16 (show r.lastLen < 65536 by omega), hdefined, hkind, hpage, hcount,
    SheetKind.read_code]

/-- A record read from its bytes, field by field. -/
theorem readSheetRec_some {x1 x2 n y1 y2 fl : Byte} {r : SheetRec}
    (h : readSheetRec [x1, x2, n, y1, y2, fl] = some r) :
    x1 &&& 0x48#8 = 0 ∧ readFloor fl = some r.floor ∧ r.count = n.toNat ∧ r.lastLen = num16 y1 y2 := by
  simp only [readSheetRec] at h
  split at h
  · rename_i hhead
    split at h
    · rename_i floor hfloor
      cases h
      exact ⟨hhead, hfloor, rfl, rfl⟩
    · cases h
  · cases h

/-- An entry with a field out of its range or of a reserved value reads as no record in range. -/
theorem readSheetRec_refused {x1 x2 n y1 y2 fl : Byte}
    (hbad : x1 &&& 0x48#8 ≠ 0 ∨ n.toNat = 0 ∨ 64 < n.toNat ∨ num16 y1 y2 = 0 ∨ 256 < num16 y1 y2 ∨
      (128 ≤ fl.toNat ∧ fl.toNat ≤ 247)) {r : SheetRec} (h : readSheetRec [x1, x2, n, y1, y2, fl] = some r) :
    r.inRange = false := by
  obtain ⟨hflags, hfloor, hcount, hlast⟩ := readSheetRec_some h
  refine Bool.eq_false_iff.2 fun hr => ?_
  obtain ⟨-, ⟨hc1, hc2⟩, ⟨hl1, hl2⟩, -⟩ := r.inRange_iff.1 hr
  rw [hcount] at hc1 hc2
  rw [hlast] at hl1 hl2
  rcases hbad with hb | hb | hb | hb | hb | ⟨h1, h2⟩
  · exact hb hflags
  · omega
  · omega
  · omega
  · omega
  · rw [readFloor_reserved h1 h2] at hfloor
    cases hfloor

/-! ### The tests (R134, R164) -/

section tests
variable {s : State}

theorem writeZoneDef_badIndex {z : Nat} (hz : z = 0 ∨ 1023 < z) (d : ZoneDef) :
    writeZoneDef z d s = (.badIndex, s) := by
  have h : zoneNumber z = false := Bool.eq_false_iff.2 (by rw [ne_eq, zoneNumber_iff]; omega)
  exact if_pos (by simp [h])

theorem writeZoneDef_badValue {z : Nat} (hz : zoneNumber z = true) {d : ZoneDef} (hd : d.inRange = false) :
    writeZoneDef z d s = (.badValue, s) := by simp [writeZoneDef, hz, hd]

theorem writeZoneDef_inUse {z : Nat} (hz : zoneNumber z = true) {d : ZoneDef} (hd : d.inRange = true)
    (hc : (s.zone z).cond ≠ .quiet) : writeZoneDef z d s = (.inUse, s) := by simp [writeZoneDef, hz, hd, hc]

theorem writeZoneDef_ok {z : Nat} (hz : zoneNumber z = true) {d : ZoneDef} (hd : d.inRange = true)
    (hc : (s.zone z).cond = .quiet) : writeZoneDef z d s =
      (.ok, setTables { s.tables with defs := Tab.put ZoneDef.cold s.tables.defs z d } s) := by
  simp [writeZoneDef, hz, hd, hc]

theorem writeSheet_refused {i : Nat} {r : SheetRec} {c : MgmtResult} (h : writeSheetTests s i r = c) (hc : c ≠ .ok) :
    writeSheet i r s = (c, s) := by
  unfold writeSheet
  split
  · rename_i hok
    exact absurd (h.symm.trans hok) hc
  · rw [h]

theorem writeSheet_ok {i : Nat} {r : SheetRec} (h : writeSheetTests s i r = .ok) : writeSheet i r s =
    (.ok, setTables { s.tables with dir := Tab.put SheetRec.cold s.tables.dir i r } s) := by
  unfold writeSheet
  rw [h]

theorem writeSheetTests_badIndex {i : Nat} (hi : 511 < i) (r : SheetRec) : writeSheetTests s i r = .badIndex := if_pos hi

theorem writeSheetTests_badValue {i : Nat} (hi : i ≤ 511) {r : SheetRec} (hr : r.inRange = false) :
    writeSheetTests s i r = .badValue := (if_neg (by omega)).trans (if_pos (by simp [hr]))

theorem writeSheetTests_badPages {i : Nat} (hi : i ≤ 511) {r : SheetRec} (hr : r.inRange = true)
    (hd : r.defined = true) (hp : r.first = 0 ∨ s.config.planPages < r.first + r.count) :
    writeSheetTests s i r = .badValue :=
  ((if_neg (by omega)).trans (if_neg (by simp [hr]))).trans (if_pos ⟨hd, by omega⟩)

theorem writeSheetTests_passed {i : Nat} (hi : i ≤ 511) {r : SheetRec} (hr : r.inRange = true)
    (hp : r.defined = true → 1 ≤ r.first ∧ r.first + r.count ≤ s.config.planPages) : writeSheetTests s i r = .ok :=
  ((if_neg (by omega)).trans (if_neg (by simp [hr]))).trans (if_neg fun h => h.2 (hp h.1))
end tests

/-! ### The requests (R158) -/

/-- The request of a zone definition that can be read. -/
theorem zoneDef_request {h l : Byte} {entry : List Byte} {d : ZoneDef} (hd : readZoneDef entry = some d) :
    parseMgmt opTableWrite (tZoneDefinition :: h :: l :: entry) = .ok (.writeZoneDef (num16 h l) d) := by
  show Parsed.ofOption ((readZoneDef entry).map (.writeZoneDef (num16 h l))) = _
  rw [hd]
  rfl

/-- The request of a directory record that can be read. -/
theorem sheet_request {h l : Byte} {entry : List Byte} {r : SheetRec} (hr : readSheetRec entry = some r) :
    parseMgmt opTableWrite (tSheetDirectory :: h :: l :: entry) = .ok (.writeSheet (num16 h l) r) := by
  show Parsed.ofOption ((readSheetRec entry).map (.writeSheet (num16 h l))) = _
  rw [hr]
  rfl

theorem carryOut_writeZoneDef {z : Nat} {d : ZoneDef} {s u : State} {c : MgmtResult} (h : writeZoneDef z d s = (c, u))
    (src : Byte) (id : Word16) : carryOut src id (.writeZoneDef z d) s = reply src id c [] u := by
  rw [carryOut, h]
  rfl

theorem carryOut_writeSheet {i : Nat} {r : SheetRec} {s u : State} {c : MgmtResult} (h : writeSheet i r s = (c, u))
    (src : Byte) (id : Word16) : carryOut src id (.writeSheet i r) s = reply src id c [] u := by
  rw [carryOut, h]
  rfl

section requests
variable {s : State} {src : Byte} (hs : Serves s src) {id : Word16} {i : Instr}
include hs

/-- A request whose arguments cannot be read is answered BAD_VALUE (R158 test 6). -/
theorem exec_unread {op : Byte} {args : List Byte} (hi : requestOf i = some (src, id, op, args))
    (hp : parseMgmt op args = .badValue) :
    ∃ t, exec i s = .next t ∧ ArbitersOnly (reply src id .badValue [] s) t := by
  obtain ⟨hrun, hadm, hmr⟩ := hs
  refine ⟨_, exec_of_requestOf hi s, ?_⟩
  rw [mgmtRow, whenRunning_of_running hrun, takeMgmt]
  simp only [hadm, hmr, hp, Bool.not_true, Bool.false_eq_true, Option.isSome_none, if_false]
  exact arbitersOnly_settle _

variable (hlock : s.lockHolds = false) {h l : Byte}
include hlock

/-- A zone definition written with an answer other than OK. -/
theorem exec_zoneDef_refused {entry : List Byte} {d : ZoneDef} (hd : readZoneDef entry = some d) {c : MgmtResult}
    (hc : writeZoneDef (num16 h l) d s = (c, s)) :
    ∃ t, exec (.tableWriteZoneDefinition src id (h :: l :: entry)) s = .next t ∧
      ArbitersOnly (reply src id c [] s) t :=
  exec_carried hs rfl (zoneDef_request hd) (by simp [hlock]) (carryOut_writeZoneDef hc src id)

/-- An entry that is no definition in range, for a zone that there is. -/
theorem exec_zoneDef_badValue {entry : List Byte} (hz : zoneNumber (num16 h l) = true)
    (hd : ∀ d, readZoneDef entry = some d → d.inRange = false) :
    ∃ t, exec (.tableWriteZoneDefinition src id (h :: l :: entry)) s = .next t ∧
      ArbitersOnly (reply src id .badValue [] s) t := by
  cases hread : readZoneDef entry with
  | none =>
    refine exec_unread hs (i := .tableWriteZoneDefinition src id (h :: l :: entry)) rfl ?_
    show Parsed.ofOption ((readZoneDef entry).map (.writeZoneDef (num16 h l))) = _
    rw [hread]
    rfl
  | some d => exact exec_zoneDef_refused hs hlock hread (writeZoneDef_badValue hz (hd d hread))

/-- A directory record written with an answer other than OK. -/
theorem exec_sheet_refused {entry : List Byte} {r : SheetRec} (hr : readSheetRec entry = some r) {c : MgmtResult}
    (hc : writeSheetTests s (num16 h l) r = c) (hok : c ≠ .ok) :
    ∃ t, exec (.tableWriteSheetDirectory src id (h :: l :: entry)) s = .next t ∧
      ArbitersOnly (reply src id c [] s) t :=
  exec_carried hs rfl (sheet_request hr) (by simp [hlock])
    (carryOut_writeSheet (writeSheet_refused hc hok) src id)

/-- An entry that is no record in range, for a sheet that there is. -/
theorem exec_sheet_badValue {entry : List Byte} (hi : num16 h l ≤ 511)
    (hr : ∀ r, readSheetRec entry = some r → r.inRange = false) :
    ∃ t, exec (.tableWriteSheetDirectory src id (h :: l :: entry)) s = .next t ∧
      ArbitersOnly (reply src id .badValue [] s) t := by
  cases hread : readSheetRec entry with
  | none =>
    refine exec_unread hs (i := .tableWriteSheetDirectory src id (h :: l :: entry)) rfl ?_
    show Parsed.ofOption ((readSheetRec entry).map (.writeSheet (num16 h l))) = _
    rw [hread]
    rfl
  | some r => exact exec_sheet_refused hs hlock hread (writeSheetTests_badValue hi (hr r hread)) (by decide)
end requests

/-- Settles O42: an entry in range reads back from its bytes, any other is refused at its reading or by its test. -/
theorem recordWriteAnswered : Obligations.RecordWriteAnswered := by
  unfold Obligations.RecordWriteAnswered
  intro s src id h l hs hlock
  refine ⟨fun b0 fl sec p1 p2 q1 q2 n label h1 h2 hbad => ?_, fun x1 x2 n y1 y2 fl hi hbad => ?_,
    fun d hd => ⟨fun hz => ?_, fun h1 h2 hc => ?_, fun h1 h2 hc => ?_⟩,
    fun r hr => ⟨fun hi => ?_, fun hi hd hp => ?_, fun hi hp => ?_⟩⟩
  · exact exec_zoneDef_badValue hs hlock ((zoneNumber_iff _).2 ⟨h1, h2⟩) fun d hd => readZoneDef_refused hbad hd
  · exact exec_sheet_badValue hs hlock hi fun r hr => readSheetRec_refused hbad hr
  · exact exec_zoneDef_refused hs hlock (readZoneDef_bytes hd) (writeZoneDef_badIndex hz d)
  · exact exec_zoneDef_refused hs hlock (readZoneDef_bytes hd)
      (writeZoneDef_inUse ((zoneNumber_iff _).2 ⟨h1, h2⟩) hd hc)
  · obtain ⟨t, ht, htab, hsc, hti, harb⟩ := exec_writesTables (i := .tableWriteZoneDefinition src id (h :: l :: d.bytes))
      hs rfl (zoneDef_request (readZoneDef_bytes hd)) (by simp [hlock]) (d := [])
      (carryOut_writeZoneDef (writeZoneDef_ok ((zoneNumber_iff _).2 ⟨h1, h2⟩) hd hc) src id) rfl
    refine ⟨t, ht, fun z => ?_, by rw [htab], hsc, hti, harb⟩
    rw [State.zoneDef, htab]
    exact Tab.get_put ..
  · exact exec_sheet_refused hs hlock (readSheetRec_bytes hr) (writeSheetTests_badIndex hi r) (by decide)
  · exact exec_sheet_refused hs hlock (readSheetRec_bytes hr) (writeSheetTests_badPages hi hr hd hp) (by decide)
  · obtain ⟨t, ht, htab, hsc, hti, harb⟩ := exec_writesTables (i := .tableWriteSheetDirectory src id (h :: l :: r.bytes))
      hs rfl (sheet_request (readSheetRec_bytes hr)) (by simp [hlock]) (d := [])
      (carryOut_writeSheet (writeSheet_ok (writeSheetTests_passed hi hr hp)) src id) rfl
    refine ⟨t, ht, fun j => ?_, by rw [htab], hsc, hti, harb⟩
    rw [State.sheet, htab]
    exact Tab.get_put ..

end Sys2Proof.Machine
end

section
/-! The urgency of an active zone, urgency reports and age steps (R64 to R71, R75, R102). -/

namespace Sys2Proof.Machine

/-! ### The five terms (R64 to R69) -/

theorem baseTerm_of_active {k : Cond} (h : k.active = true) :
    baseTerm k = if k = .alarm then 120 else if k = .verifying then 64 else if k = .supervisory then 40 else 16 := by
  cases k with
  | quiet | isolated => cases h
  | _ => rfl

theorem sixteen_le_baseTerm {k : Cond} (h : k.active = true) : 16 ≤ baseTerm k := by
  cases k with
  | quiet | isolated => cases h
  | _ => decide

/-- The bonus of a class is its entry in the hazard bonus table (R65). -/
theorem ConfigTable.bonus_of_getElem? {k : ConfigTable} {cls b : Nat}
    (h : [k.bonus0, k.bonus1, k.bonus2, k.bonus3][cls]? = some b) : k.bonus cls = b := by
  match cls with
  | 0 | 1 | 2 | 3 => exact Option.some.inj h
  | _ + 4 => cases h

/-- The clamp of R69, and the least base of R64 under it. -/
theorem State.urgencyValue_bounds {s : State} {z : Nat} (h : s.zoneActive z = true) :
    16 ≤ s.urgencyValue z ∧ s.urgencyValue z ≤ 255 := by
  have hbase := sixteen_le_baseTerm h
  unfold State.urgencyValue
  dsimp only
  omega

/-! ### An urgency report taken by the Notice Resolver (R102) -/

theorem crewsOnly_urgencyMoved (c : Link) (z : Nat) (s : State) : CrewsOnly s (urgencyMoved c z s) := rfl

theorem crewsOnly_crewUrgency (us : List UrgencyChange) (c : Link) (s : State) : CrewsOnly s (crewUrgency us c s) := by
  unfold crewUrgency
  split
  · have noted := foldl_rel (R := CrewsOnly) .refl .trans (fun s (u : UrgencyChange) => crewsOnly_urgencyMoved c u.zone s) us s
    exact noted.trans (crewsOnly_offerStep c _)
  · exact .refl s

theorem crewsOnly_takeUrgency (us : List UrgencyChange) (s : State) : CrewsOnly s (takeUrgency us s) := by
  unfold takeUrgency
  split
  · exact .refl s
  · exact eachLink_rel (R := CrewsOnly) .trans (crewsOnly_crewUrgency us) s

theorem CrewsOnly.zone {s t : State} (h : CrewsOnly s t) (z : Nat) : t.zone z = s.zone z := by rw [h]; rfl
theorem CrewsOnly.ageStep {s t : State} (h : CrewsOnly s t) (z : Nat) : t.ageStep z = s.ageStep z := by rw [h]; rfl
theorem CrewsOnly.attached {s t : State} (h : CrewsOnly s t) (c : Link) : t.attached c = s.attached c := by rw [h]; rfl

theorem crew_crewUrgency_other {c d : Link} (h : d ≠ c) (us : List UrgencyChange) (s : State) :
    (crewUrgency us c s).crew d = s.crew d := by
  unfold crewUrgency
  split
  · rw [crew_offerStep, if_neg h, crew_foldl_urgencyMoved, if_neg h]
  · rfl

theorem mark_crewUrgency {c : Link} {s : State} (ha : s.attached c = true) (us : List UrgencyChange) (z : Nat) :
    ((crewUrgency us c s).crew c).mark z = ((s.crew c).noteUrgencies us).mark z := by
  rw [crewUrgency, if_pos ha, crew_offerStep, if_pos rfl, crew_foldl_urgencyMoved, if_pos rfl]
  rfl

/-- The marks that an attached crew holds after an urgency report: every zone of the report noted. -/
theorem mark_takeUrgency {c : Link} {s : State} (ha : s.attached c = true) (us : List UrgencyChange) (z : Nat) :
    ((takeUrgency us s).crew c).mark z = ((s.crew c).noteUrgencies us).mark z := by
  unfold takeUrgency
  split
  · rename_i hnil
    rw [hnil]
    rfl
  · refine crew_eachLink (Q := fun d k k' => d = c → k'.mark z = (k.noteUrgencies us).mark z)
      (I := fun u => u.attached c = true) (fun d u hu => ?_) (fun d e u h => crew_crewUrgency_other h us u)
      (fun d u hu hd => ?_) ha c rfl
    · rwa [(crewsOnly_crewUrgency us d u).attached]
    · subst hd
      exact mark_crewUrgency hu us z

/-- An attended zone noted leaves an UPDATE, unless a CLEAR or ISOLATE is owed (R102, R105). -/
theorem Crew.mark_noteUrgency_self {k : Crew} {z : Nat} (ha : z ∈ k.attended) (hc : k.mark z ≠ some .clear)
    (hi : k.mark z ≠ some .isolate) : (k.noteUrgency z).mark z = some .update := by
  rw [Crew.noteUrgency, if_pos (by simpa using ha), Crew.mark_setMark_update, if_neg (not_or.2 ⟨hc, hi⟩)]

/-! ### Zones recomputed, with the report that follows (R75) -/

theorem writeUrgencies_eq (us : List UrgencyChange) (s : State) :
    writeUrgencies us s = { s with zp := (writeUrgencies us s).zp } :=
  foldl_rel (R := fun s t => t = { s with zp := t.zp }) (fun _ => rfl) (fun h g => by rw [g, h]) (fun _ _ => rfl) us s

theorem zone_recomputeAndReport (zs : List Nat) (s : State) (y : Nat) : (recomputeAndReport zs s).zone y =
    if y ∈ zs then { s.zone y with urgency := some (s.urgencyValue y) } else s.zone y := by
  rw [recomputeAndReport_eq, (crewsOnly_takeUrgency ..).zone, State.zone_recomputed]

theorem ageStep_recomputeAndReport (zs : List Nat) (s : State) (y : Nat) :
    (recomputeAndReport zs s).ageStep y = s.ageStep y := by
  rw [recomputeAndReport_eq, (crewsOnly_takeUrgency ..).ageStep, State.recomputed, writeUrgencies_eq]
  rfl

theorem mark_recomputeAndReport {c : Link} {s : State} (ha : s.attached c = true) (zs : List Nat) (y : Nat) :
    ((recomputeAndReport zs s).crew c).mark y = ((s.crew c).noteUrgencies (s.urgencyChanges zs)).mark y := by
  have hcrew : (s.recomputed zs).crew c = s.crew c := by
    rw [State.recomputed, writeUrgencies_eq]
    rfl
  have hatt := (s.reportOnly_recomputed zs).attached c
  rw [recomputeAndReport_eq, mark_takeUrgency (hatt.trans ha), hcrew]

theorem State.urgencyChanges_singleton {s : State} {z : Nat} (h : (s.zone z).urgency ≠ some (s.urgencyValue z)) :
    s.urgencyChanges [z] = [⟨z, (s.zone z).urgency, some (s.urgencyValue z)⟩] := by
  simp [State.urgencyChanges, h]

/-! ### An age step (R71) -/

theorem zone_ageStepFalls (z : Nat) (s : State) (y : Nat) : (ageStepFalls z s).zone y =
    if y = z then { s.zone z with urgency := some (s.urgencyValue z) } else s.zone y := by
  rw [ageStepFalls, zone_recomputeAndReport, (ReportOnly.setAgeStep ..).urgencyValue, State.zone_setAgeStep]
  simp only [List.mem_singleton]
  split
  · subst_vars
    rfl
  · rfl

theorem ageStep_ageStepFalls (z : Nat) (s : State) (y : Nat) : (ageStepFalls z s).ageStep y =
    if y = z then s.nextAgeStep z ((s.ageStep z).getD 0) else s.ageStep y := by
  rw [ageStepFalls, ageStep_recomputeAndReport, State.ageStep_setAgeStep]

/-- A crew that attends the zone of an age step is owed an UPDATE when the urgency changed (R102). -/
theorem mark_ageStepFalls {z : Nat} {s : State} {c : Link} (ha : s.attached c = true) (hz : z ∈ (s.crew c).attended)
    (hu : (s.zone z).urgency ≠ some (s.urgencyValue z)) (hc : (s.crew c).mark z ≠ some .clear)
    (hi : (s.crew c).mark z ≠ some .isolate) : ((ageStepFalls z s).crew c).mark z = some .update := by
  rw [ageStepFalls, mark_recomputeAndReport (s := s.setAgeStep z _) ha, State.urgencyChanges_singleton]
  · exact Crew.mark_noteUrgency_self hz hc hi
  · rw [(ReportOnly.setAgeStep ..).urgencyValue]
    exact hu

theorem pictureOnly_ageStepFalls (z : Nat) (s : State) : PictureOnly s (ageStepFalls z s) :=
  .trans (ReportOnly.setAgeStep ..).picture (pictureOnly_recomputeAndReport ..)

/-- An AGE_STEP that is due falls, and the arbiters end the event (R71). -/
theorem exec_ageStep_due {s : State} {z u : Nat} (hrun : s.running = true) (ha : (s.zone z).cond = .alarm)
    (hu : s.ageStep z = some u) (hdue : u ≤ s.uptime) :
    ∃ t, exec (.ageStep z) s = .next t ∧ ArbitersOnly (ageStepFalls z s) t := by
  have hstep : s.ageStepDue z = true := by simp [State.ageStepDue, ha, hu, hdue]
  refine ⟨_, ?_, arbitersOnly_settle _⟩
  refine congrArg Host.Outcome.next ((whenRunning_of_running hrun _).trans ?_)
  exact if_pos hstep

/-! ### What the arbiters leave -/

section arbiters
variable {s t : State} (h : ArbitersOnly s t)
include h

theorem ArbitersOnly.ageStep (z : Nat) : t.ageStep z = s.ageStep z := by rw [State.ageStep, h.ageSteps, State.ageStep]

theorem ArbitersOnly.mark (c : Link) (z : Nat) : (t.crew c).mark z = (s.crew c).mark z := by
  rw [h.crew c]
  rfl

/-- An effect on the picture, the schedules and the crews, seen through the arbiters that act after it. -/
theorem ArbitersOnly.of_pictureOnly {r : State} (hp : PictureOnly r s) :
    ArbitersOnly { r with zp := t.zp, ageSteps := t.ageSteps, nr := t.nr } t := by
  have hnr := h.withNr
  rw [hp] at hnr
  rw [h.zp, h.ageSteps, hp]
  exact hnr
end arbiters

/-- Settles O19: the terms of an urgency written out; an age step moves the schedule on and recomputes its one zone, and
the arbiters leave the record, the schedule and the marks as they are. The bare name is the model's own. -/
theorem Urgency.ageStepFalls : Obligations.AgeStepFalls := by
  unfold Obligations.AgeStepFalls
  refine ⟨fun s z H hact hH => ⟨?_, s.urgencyValue_bounds hact⟩, fun s z u entry hrun ha hentry hu hdue => ?_⟩
  · rw [← baseTerm_of_active hact, ← ConfigTable.bonus_of_getElem? hH]
    rfl
  · obtain ⟨t, ht, harb⟩ := exec_ageStep_due hrun ha hu hdue
    have hpicture := pictureOnly_ageStepFalls z s
    refine ⟨t, ht, fun y => ?_, fun y => ?_, fun c hatt hz hne hc hi => ?_, ?_, harb.of_pictureOnly hpicture⟩
    · rw [harb.zone, zone_ageStepFalls]
    · rw [harb.ageStep, ageStep_ageStepFalls, hu, State.nextAgeStep, hentry]
      rfl
    · rw [harb.mark]
      exact mark_ageStepFalls hatt hz hne hc hi
    · rw [harb.zp, hpicture]

end Sys2Proof.Machine
end

section
/-! What a link, its crew and its sheet queue hold, one link at a time (R77, R112, R117, R125, R126, R135), and the
relation of two states between which all of it is kept. -/

namespace Sys2Proof.Machine

/-! ### The invariants, one link at a time -/

/-- A crew's three collections lie apart, and its attended list stays within its size (R77, R93). -/
def Crew.Apart (k : Crew) : Prop :=
  k.attended.length ≤ 8 ∧ k.attended.Nodup ∧ (∀ z ∈ k.pending, z ∉ k.attended ∧ z ∉ k.aside) ∧
    ∀ z ∈ k.attended, z ∉ k.aside

theorem collectionsInv_iff (s : State) : CollectionsInv s ↔ ∀ c, (s.crew c).Apart := Iff.rfl

/-- A crew agrees with the picture of a state (R77, R81, R83, R87), except that the zones of `gone` that it holds may have
left their active conditions: those that a report under way has still to take out of it. -/
def CrewFits (gone : List Nat) (s : State) (c : Link) (k : Crew) : Prop :=
  ∀ z, ((s.zone z).attendedBy.get c = true ↔ z ∈ k.attended) ∧
    (z ∈ k.pending → (z ∈ gone ∨ s.zoneActive z = true) ∧ inSectors k.live (s.zoneDef z).sector = true) ∧
    (z ∈ k.attended ∨ z ∈ k.aside → z ∈ gone ∨ s.zoneActive z = true) ∧
    (k.offer.names z = true → z ∈ k.pending)

theorem crewsInv_iff (s : State) : CrewsInv s ↔ ∀ c, CrewFits [] s c (s.crew c) := by
  simp [CrewsInv, CrewFits]

/-- A link within its sizes, its receiver and its outputs as its state gives, and empty unless it is ATTACHED (R111, R112,
R117, R125, R126). -/
def LinkUnit.Sound (u : LinkUnit) : Prop :=
  u.rxHeld ≤ 64 ∧ u.replies.length ≤ 4 ∧ u.txFifo.length ≤ 64 ∧ (u.receiver = .waitMarking → u.asm = .hunting) ∧
  (u.tx = .highZ ↔ u.state = .disabled) ∧ (u.ctrlReady = .highZ ↔ u.state = .disabled) ∧
  (u.state = .detached → u.ctrlReady = .low) ∧
  (u.state ≠ .attached → u.receiver = .idle ∧ u.asm = .hunting ∧ u.waiting = [] ∧ u.replies = [] ∧ u.writing = none ∧
    u.txFifo = [])

/-- A sheet queue within its size, with no sheet twice and none in transfer (R135). -/
def SheetSlot.Loose (x : SheetSlot) : Prop :=
  x.queue.length ≤ 4 ∧ x.queue.Nodup ∧ ∀ t, x.transfer = some t → t.sheet ∉ x.queue

/-- A sheet queue as R135 says: a sheet waits only behind a transfer. -/
def SheetSlot.Sound (x : SheetSlot) : Prop := x.Loose ∧ (x.queue ≠ [] → x.transfer ≠ none)

/-- A slot without a sheet. -/
def SheetSlot.Idle (x : SheetSlot) : Prop := x.queue = [] ∧ x.transfer = none

theorem sheetQueueInv_iff (s : State) : SheetQueueInv s ↔ ∀ c, (s.slot c).Sound := by
  simp [SheetQueueInv, SheetSlot.Sound, SheetSlot.Loose, and_assoc]

theorem linksInv_iff (s : State) : LinksInv s ↔
    ∀ c, (s.link c).Sound ∧ ((s.link c).state ≠ .attached → s.crew c = Crew.empty ∧ (s.slot c).Idle) := by
  refine forall_congr' fun c => ⟨?_, ?_⟩
  · rintro ⟨hrx, hrep, htx, hrec, hout, hready, hlow, hidle⟩
    refine ⟨⟨hrx, hrep, htx, hrec, hout, hready, hlow, fun h => ?_⟩, fun h => ?_⟩
    · obtain ⟨h1, h2, h3, h4, h5, h6, -⟩ := hidle h
      exact ⟨h1, h2, h3, h4, h5, h6⟩
    · obtain ⟨-, -, -, -, -, -, h7, h8, h9⟩ := hidle h
      exact ⟨h7, h8, h9⟩
  · rintro ⟨⟨hrx, hrep, htx, hrec, hout, hready, hlow, hidle⟩, hempty⟩
    refine ⟨hrx, hrep, htx, hrec, hout, hready, hlow, fun h => ?_⟩
    obtain ⟨h1, h2, h3, h4, h5, h6⟩ := hidle h
    obtain ⟨h7, h8, h9⟩ := hempty h
    exact ⟨h1, h2, h3, h4, h5, h6, h7, h8, h9⟩

theorem LinksInv.sound {s : State} (h : LinksInv s) (c : Link) : (s.link c).Sound := ((linksInv_iff s).1 h c).1
theorem LinksInv.crew_empty {s : State} (h : LinksInv s) {c : Link} (hc : (s.link c).state ≠ .attached) :
    s.crew c = Crew.empty := (((linksInv_iff s).1 h c).2 hc).1
theorem LinksInv.slot_idle {s : State} (h : LinksInv s) {c : Link} (hc : (s.link c).state ≠ .attached) :
    (s.slot c).Idle := (((linksInv_iff s).1 h c).2 hc).2

theorem State.attached_iff (s : State) (c : Link) : s.attached c = true ↔ (s.link c).state = .attached := by
  simp [State.attached]

/-! ### The relation -/

/-- What is kept of the links, of the collections and of the sheet queues by themselves. -/
structure KeepsLists (s t : State) : Prop where
  apart : CollectionsInv s → CollectionsInv t
  queues : SheetQueueInv s → SheetQueueInv t
  links : LinksInv s → LinksInv t

/-- What is kept of all that the links hold: with the lists, the crews' agreement with the picture. -/
structure KeepsHeld (s t : State) : Prop extends KeepsLists s t where
  wf : Tab.wf ZoneLive.start s.zp.live = true → Tab.wf ZoneLive.start t.zp.live = true
  crews : LinksInv s → Tab.wf ZoneLive.start s.zp.live = true → CrewsInv s → CrewsInv t

theorem KeepsLists.refl (s : State) : KeepsLists s s := ⟨id, id, id⟩

theorem KeepsLists.trans {s t u : State} (h : KeepsLists s t) (g : KeepsLists t u) : KeepsLists s u :=
  ⟨g.apart ∘ h.apart, g.queues ∘ h.queues, g.links ∘ h.links⟩

theorem KeepsHeld.refl (s : State) : KeepsHeld s s := ⟨.refl s, id, fun _ _ => id⟩

theorem KeepsHeld.trans {s t u : State} (h : KeepsHeld s t) (g : KeepsHeld t u) : KeepsHeld s u :=
  ⟨h.toKeepsLists.trans g.toKeepsLists, g.wf ∘ h.wf, fun hl hw hc => g.crews (h.links hl) (h.wf hw) (h.crews hl hw hc)⟩

/-! ### Writes that touch none of it, or one link of it -/

theorem State.crew_of_nr {s t : State} (h : t.nr = s.nr) (c : Link) : t.crew c = s.crew c := by
  rw [State.crew, h, State.crew]
theorem State.link_of_cl {s t : State} (h : t.cl = s.cl) (c : Link) : t.link c = s.link c := by
  rw [State.link, h, State.link]
theorem State.slot_of_slots {s t : State} (h : t.ss.slots = s.ss.slots) (c : Link) : t.slot c = s.slot c := by
  rw [State.slot, h, State.slot]

/-- Agreement with the picture rests on the zones' conditions, sectors and attended-by sets. -/
theorem CrewFits.of_zones {gone : List Nat} {s t : State} {c : Link} {k : Crew} (h : CrewFits gone s c k)
    (hby : ∀ z, (t.zone z).attendedBy.get c = (s.zone z).attendedBy.get c) (hact : ∀ z, t.zoneActive z = s.zoneActive z)
    (hdef : ∀ z, t.zoneDef z = s.zoneDef z) : CrewFits gone t c k := fun z => by
  rw [hby, hact, hdef]
  exact h z

theorem KeepsLists.of_eq {s t : State} (hnr : t.nr = s.nr) (hcl : t.cl = s.cl) (hss : t.ss.slots = s.ss.slots) :
    KeepsLists s t := by
  refine ⟨fun h => (collectionsInv_iff t).2 fun c => ?_, fun h => (sheetQueueInv_iff t).2 fun c => ?_,
    fun h => (linksInv_iff t).2 fun c => ?_⟩
  · rw [State.crew_of_nr hnr]
    exact h c
  · rw [State.slot_of_slots hss]
    exact (sheetQueueInv_iff s).1 h c
  · rw [State.link_of_cl hcl, State.crew_of_nr hnr, State.slot_of_slots hss]
    exact (linksInv_iff s).1 h c

/-- Writes beside the links, the crews, the slots, the live records and the zone definitions. -/
theorem KeepsHeld.of_eq {s t : State} (hnr : t.nr = s.nr) (hcl : t.cl = s.cl) (hss : t.ss.slots = s.ss.slots)
    (hzp : t.zp = s.zp) (hdefs : t.tables.defs = s.tables.defs) : KeepsHeld s t := by
  have hzone : ∀ z, t.zone z = s.zone z := fun z => by rw [State.zone, hzp, State.zone]
  refine ⟨.of_eq hnr hcl hss, by rw [hzp]; exact id, fun _ _ h => (crewsInv_iff t).2 fun c => ?_⟩
  rw [State.crew_of_nr hnr]
  refine ((crewsInv_iff s).1 h c).of_zones (fun z => by rw [hzone]) (fun z => ?_) fun z => ?_
  · rw [State.zoneActive, hzone, State.zoneActive]
  · rw [State.zoneDef, hdefs, State.zoneDef]

/-- A link rewritten soundly, one that was ATTACHED still so. -/
theorem KeepsHeld.of_link {s : State} {c : Link} {u : LinkUnit}
    (hstate : u.state ≠ .attached → (s.link c).state ≠ .attached) (hu : (s.link c).Sound → u.Sound) :
    KeepsHeld s (s.setLink c u) := by
  refine ⟨⟨id, id, fun h => (linksInv_iff _).2 fun d => ?_⟩, id, fun _ _ => id⟩
  rw [State.link_setLink]
  split
  · rename_i hd
    subst hd
    exact ⟨hu (h.sound d), fun hn => ⟨h.crew_empty (hstate hn), h.slot_idle (hstate hn)⟩⟩
  · exact (linksInv_iff s).1 h d

/-- A slot rewritten soundly, one without a sheet still so unless its link is ATTACHED. -/
theorem KeepsHeld.of_slot {s : State} {c : Link} {x : SheetSlot} (hx : (s.slot c).Sound → x.Sound)
    (hidle : s.attached c = true ∨ ((s.slot c).Idle → x.Idle)) : KeepsHeld s (s.setSlot c x) := by
  refine ⟨⟨id, fun h => (sheetQueueInv_iff _).2 fun d => ?_, fun h => (linksInv_iff _).2 fun d => ?_⟩, id, fun _ _ => id⟩
  · rw [State.slot_setSlot]
    split
    · exact hx ((sheetQueueInv_iff s).1 h c)
    · exact (sheetQueueInv_iff s).1 h d
  · rw [State.slot_setSlot]
    split
    · rename_i hd
      subst hd
      refine ⟨h.sound d, fun hn => ⟨h.crew_empty hn, ?_⟩⟩
      rcases hidle with ha | hi
      · exact absurd ((s.attached_iff d).1 ha) hn
      · exact hi (h.slot_idle hn)
    · exact (linksInv_iff s).1 h d

theorem KeepsHeld.ite {s t : State} {c : Prop} [Decidable c] (h : c → KeepsHeld s t) : KeepsHeld s (if c then t else s) := by
  split
  · rename_i hc
    exact h hc
  · exact .refl s

theorem KeepsHeld.whenRunning {s : State} {f : State → State} (h : KeepsHeld s (f s)) : KeepsHeld s (whenRunning s f) := by
  unfold Machine.whenRunning
  exact .ite fun _ => h

end Sys2Proof.Machine
end

section
/-! Steps on one crew (R77 to R103): what each leaves of the other crews and of the picture, and that it keeps the crew's
collections apart and in agreement with the picture. -/

namespace Sys2Proof.Machine

/-! ### The relation -/

/-- `t` is `s` but for one crew and its part of the attended-by sets, and the crew's collections are kept apart. -/
structure CrewStep (c : Link) (s t : State) : Prop where
  frame : t = { s with nr := t.nr, zp := { s.zp with live := t.zp.live } }
  crews : ∀ d, d ≠ c → t.crew d = s.crew d
  wf : Tab.wf ZoneLive.start s.zp.live = true → Tab.wf ZoneLive.start t.zp.live = true
  zone : ∀ z, t.zone z = { s.zone z with attendedBy := (t.zone z).attendedBy }
  attendedBy : ∀ d, d ≠ c → ∀ z, (t.zone z).attendedBy.get d = (s.zone z).attendedBy.get d
  apart : (s.crew c).Apart → (t.crew c).Apart

/-- A step on one crew that keeps the crew's agreement with the picture. -/
structure CrewFitStep (c : Link) (s t : State) : Prop extends CrewStep c s t where
  fits : ∀ gone, CrewFits gone s c (s.crew c) → CrewFits gone t c (t.crew c)

namespace CrewStep

theorem refl (c : Link) (s : State) : CrewStep c s s := ⟨rfl, fun _ _ => rfl, id, fun _ => rfl, fun _ _ _ => rfl, id⟩

theorem trans {c : Link} {s t u : State} (h : CrewStep c s t) (g : CrewStep c t u) : CrewStep c s u := by
  refine ⟨?_, fun d hd => (g.crews d hd).trans (h.crews d hd), g.wf ∘ h.wf, fun z => ?_,
    fun d hd z => (g.attendedBy d hd z).trans (h.attendedBy d hd z), g.apart ∘ h.apart⟩
  · rw [g.frame, h.frame]
  · rw [g.zone z, h.zone z]

section fields
variable {c : Link} {s t : State} (h : CrewStep c s t)
include h
theorem cl : t.cl = s.cl := by rw [h.frame]
theorem ss : t.ss = s.ss := by rw [h.frame]
theorem tables : t.tables = s.tables := by rw [h.frame]
theorem link (d : Link) : t.link d = s.link d := State.link_of_cl h.cl d
theorem slot (d : Link) : t.slot d = s.slot d := State.slot_of_slots (congrArg _ h.ss) d
theorem attached (d : Link) : t.attached d = s.attached d := State.attached_of_cl h.cl d
theorem zoneDef (z : Nat) : t.zoneDef z = s.zoneDef z := by rw [State.zoneDef, h.tables, State.zoneDef]
theorem profile (d : Link) : t.profile d = s.profile d := by rw [State.profile, h.tables, State.profile]
theorem zoneActive (z : Nat) : t.zoneActive z = s.zoneActive z := by
  rw [State.zoneActive, h.zone z]
  rfl

/-- The other crews' agreement with the picture is not touched. -/
theorem fits_other {gone : List Nat} {d : Link} (hd : d ≠ c) (hf : CrewFits gone s d (s.crew d)) :
    CrewFits gone t d (t.crew d) := by
  rw [h.crews d hd]
  exact hf.of_zones (h.attendedBy d hd) h.zoneActive h.zoneDef

/-- The links, the collections and the sheet queues are kept when the crew's link is ATTACHED, as it is where the crew
holds something (R77). -/
theorem keepsLists (hbusy : s.attached c = true ∨ s.crew c ≠ Crew.empty) : KeepsLists s t := by
  refine ⟨fun hs => (collectionsInv_iff t).2 fun d => ?_, fun hs => (sheetQueueInv_iff t).2 fun d => ?_,
    fun hs => (linksInv_iff t).2 fun d => ?_⟩
  · by_cases hd : d = c
    · subst hd
      exact h.apart (hs d)
    · rw [h.crews d hd]
      exact hs d
  · rw [h.slot]
    exact (sheetQueueInv_iff s).1 hs d
  · rw [h.link, h.slot]
    refine ⟨hs.sound d, fun hn => ⟨?_, hs.slot_idle hn⟩⟩
    by_cases hd : d = c
    · subst hd
      rcases hbusy with ha | he
      · exact absurd ((s.attached_iff d).1 ha) hn
      · exact absurd (hs.crew_empty hn) he
    · rw [h.crews d hd]
      exact hs.crew_empty hn
end fields

/-- A crew rewritten. -/
theorem setCrew {s : State} {c : Link} {k : Crew} (hk : (s.crew c).Apart → k.Apart) : CrewStep c s (s.setCrew c k) := by
  refine ⟨rfl, fun d hd => ?_, id, fun _ => rfl, fun _ _ _ => rfl, fun ha => ?_⟩
  · rw [State.crew_setCrew, if_neg hd]
  · rw [State.crew_setCrew_self]
    exact hk ha

/-- A crew put into or taken out of a zone's attended-by set. -/
theorem setAttended (c : Link) (z : Nat) (on : Bool) (s : State) : CrewStep c s (setAttended c z on s) := by
  refine ⟨rfl, fun _ _ => rfl, fun w => Tab.wf_put w z _, fun y => ?_, fun d hd y => ?_, id⟩
  · rw [zone_setAttended]
    split
    · subst_vars
      rfl
    · rfl
  · rw [zone_setAttended]
    split
    · subst_vars
      exact (PerLink.get_set ..).trans (if_neg hd)
    · rfl

/-- Steps for the members of a list in turn. -/
theorem foldl {α : Type} {c : Link} {f : State → α → State} (h : ∀ s a, CrewStep c s (f s a)) (l : List α) (s : State) :
    CrewStep c s (l.foldl f s) := foldl_rel (R := CrewStep c) (refl c) trans h l s

end CrewStep

namespace CrewFitStep

theorem refl (c : Link) (s : State) : CrewFitStep c s s := ⟨.refl c s, fun _ => id⟩

theorem trans {c : Link} {s t u : State} (h : CrewFitStep c s t) (g : CrewFitStep c t u) : CrewFitStep c s u :=
  ⟨h.toCrewStep.trans g.toCrewStep, fun gone hf => g.fits gone (h.fits gone hf)⟩

theorem foldl {α : Type} {c : Link} {f : State → α → State} (h : ∀ s a, CrewFitStep c s (f s a)) (l : List α) (s : State) :
    CrewFitStep c s (l.foldl f s) := foldl_rel (R := CrewFitStep c) (refl c) trans h l s

theorem keepsHeld {c : Link} {s t : State} (h : CrewFitStep c s t) (hbusy : s.attached c = true ∨ s.crew c ≠ Crew.empty) :
    KeepsHeld s t := by
  refine ⟨h.toCrewStep.keepsLists hbusy, h.wf, fun _ _ hs => (crewsInv_iff t).2 fun d => ?_⟩
  by_cases hd : d = c
  · subst hd
    exact h.fits [] ((crewsInv_iff s).1 hs d)
  · exact h.fits_other hd ((crewsInv_iff s).1 hs d)

end CrewFitStep

/-! ### Crews with the same collections and offer -/

/-- `k'` has the live sectors, the collections and the offer of `k`. -/
def Crew.SameLists (k k' : Crew) : Prop :=
  k' = { k' with live := k.live, pending := k.pending, attended := k.attended, aside := k.aside, offer := k.offer }

theorem Crew.SameLists.apart {k k' : Crew} (h : k.SameLists k') (hk : k.Apart) : k'.Apart := by
  rw [h]
  exact hk

theorem Crew.SameLists.fits {k k' : Crew} (h : k.SameLists k') {gone : List Nat} {s : State} {c : Link}
    (hk : CrewFits gone s c k) : CrewFits gone s c k' := by
  rw [h]
  exact hk

theorem MarksOnly.sameLists {k k' : Crew} (h : MarksOnly k k') : k.SameLists k' := by
  rw [h]
  rfl

/-- A crew rewritten with its collections and its offer kept. -/
theorem CrewFitStep.of_sameLists {s : State} {c : Link} {k : Crew} (h : (s.crew c).SameLists k) :
    CrewFitStep c s (s.setCrew c k) := by
  refine ⟨.setCrew h.apart, fun gone hf => ?_⟩
  rw [State.crew_setCrew_self]
  exact h.fits hf

/-- A crew rewritten so that it lies apart and agrees with the picture if it did. -/
theorem CrewFitStep.of_crew {s : State} {c : Link} {k : Crew} (hk : (s.crew c).Apart → k.Apart)
    (hf : ∀ gone, CrewFits gone s c (s.crew c) → CrewFits gone s c k) : CrewFitStep c s (s.setCrew c k) := by
  refine ⟨.setCrew hk, fun gone h => ?_⟩
  rw [State.crew_setCrew_self]
  exact hf gone h

/-- A crew rewritten together with its place in one zone's attended-by set. -/
theorem CrewFitStep.of_attended {s : State} {c : Link} {k : Crew} {z : Nat} {on : Bool} (hk : (s.crew c).Apart → k.Apart)
    (hf : ∀ gone, CrewFits gone s c (s.crew c) → CrewFits gone (setAttended c z on s) c k) :
    CrewFitStep c s (setAttended c z on (s.setCrew c k)) := by
  refine ⟨(CrewStep.setCrew hk).trans (.setAttended c z on _), fun gone h => ?_⟩
  have hcrew : (setAttended c z on (s.setCrew c k)).crew c = k := s.crew_setCrew_self c k
  rw [hcrew]
  exact hf gone h

/-- What a crew's agreement becomes with one zone's attended-by set. -/
theorem attendedBy_setAttended (c : Link) (z y : Nat) (on : Bool) (s : State) :
    ((setAttended c z on s).zone y).attendedBy.get c = if y = z then on else (s.zone y).attendedBy.get c := by
  rw [zone_setAttended]
  split
  · exact PerLink.get_set_self ..
  · rfl

@[simp] theorem zoneActive_setAttended (c : Link) (z y : Nat) (on : Bool) (s : State) :
    (setAttended c z on s).zoneActive y = s.zoneActive y := (CrewStep.setAttended c z on s).zoneActive y

@[simp] theorem zoneDef_setAttended (c : Link) (z y : Nat) (on : Bool) (s : State) :
    (setAttended c z on s).zoneDef y = s.zoneDef y := rfl

/-! ### Membership and the offer (R81, R88) -/

theorem crewFitStep_offerStep (c : Link) (s : State) : CrewFitStep c s (offerStep c s) := by
  rw [offerStep_eq]
  refine .of_crew id fun gone h z => ?_
  obtain ⟨hby, hp, ha, ho⟩ := h z
  refine ⟨hby, hp, ha, fun hn => ?_⟩
  by_contra hz
  have := State.names_offerAfter hz (Bool.eq_false_iff.2 (mt ho hz))
  simp [this] at hn

theorem crewFitStep_admitZone (c : Link) (z : Nat) (s : State) : CrewFitStep c s (admitZone c z s) := by
  unfold admitZone
  split
  · rename_i hm
    obtain ⟨hact, hsec, hatt, has⟩ : s.zoneActive z = true ∧ inSectors (s.crew c).live (s.zoneDef z).sector = true ∧
        z ∉ (s.crew c).attended ∧ z ∉ (s.crew c).aside := by simpa [State.member, and_assoc] using hm
    refine .of_crew (fun ⟨hlen, hnd, hpa, hd⟩ => ⟨hlen, hnd, fun y hy => ?_, hd⟩) fun gone h y => ?_
    · rcases (ZSet.mem_place _ z y).1 hy with rfl | hy
      · exact ⟨hatt, has⟩
      · exact hpa y hy
    · obtain ⟨hby, hp, ha, ho⟩ := h y
      refine ⟨hby, fun hy => ?_, ha, fun hn => (ZSet.mem_place ..).2 (.inr (ho hn))⟩
      rcases (ZSet.mem_place _ z y).1 hy with rfl | hy
      · exact ⟨.inr hact, hsec⟩
      · exact hp hy
  · exact .refl c s

theorem crewFitStep_admitAll (c : Link) (s : State) : CrewFitStep c s (admitAll c s) :=
  .foldl (fun s z => crewFitStep_admitZone c z s) _ s

end Sys2Proof.Machine
end

section
/-! Reports taken by the Notice Resolver (R82, R83, R101 to R103), the picture's events that make them, and a picture
clear: each takes out of every crew the zones that have left their active conditions, and admits those that entered them. -/

namespace Sys2Proof.Machine

/-! ### One zone told to one crew -/

/-- Zones taken out of a crew leave its collections apart. -/
theorem Crew.Apart.without {k k' : Crew} (h : k.Apart) {z : Nat} (hp : k'.pending = without k.pending z)
    (ha : k'.attended = without k.attended z) (hs : k'.aside = without k.aside z) : k'.Apart := by
  obtain ⟨hlen, hnd, hpa, hd⟩ := h
  have hsub : (Machine.without k.attended z).Sublist k.attended := List.filter_sublist
  rw [Crew.Apart, hp, ha, hs]
  refine ⟨hsub.length_le.trans hlen, hnd.sublist hsub, fun y hy => ?_, fun y hy => ?_⟩
  · obtain ⟨hya, hys⟩ := hpa y ((mem_without ..).1 hy).1
    exact ⟨mt (fun h => ((mem_without ..).1 h).1) hya, mt (fun h => ((mem_without ..).1 h).1) hys⟩
  · exact mt (fun h => ((mem_without ..).1 h).1) (hd y ((mem_without ..).1 hy).1)

theorem Crew.apart_zoneGone {k : Crew} (h : k.Apart) (z : Nat) (iso : Bool) : (k.zoneGone z iso).Apart := by
  have hm := k.zoneGone_marksOnly z iso
  exact h.without (hm.pending.trans (Crew.endOffer_pending ..)) (hm.attended.trans (Crew.endOffer_attended ..))
    (hm.aside.trans (Crew.endOffer_aside ..))

theorem crewStep_zoneGone (c : Link) (ch : Change) (s : State) : CrewStep c s (zoneGone c ch s) :=
  (CrewStep.setCrew fun h => Crew.apart_zoneGone h ch.zone _).trans (.setAttended c ch.zone false _)

/-- A zone that has gone from a crew need no longer be among those still to go. -/
theorem fits_zoneGone {gone : List Nat} {c : Link} {ch : Change} {s : State}
    (h : CrewFits (ch.zone :: gone) s c (s.crew c)) : CrewFits gone (zoneGone c ch s) c ((zoneGone c ch s).crew c) := by
  have hby : ∀ y, ((zoneGone c ch s).zone y).attendedBy.get c =
      if y = ch.zone then false else (s.zone y).attendedBy.get c := fun y =>
    attendedBy_setAttended c ch.zone y false (s.modCrew c fun k => k.zoneGone ch.zone (ch.after == .isolated))
  intro y
  obtain ⟨hs, hp, ha, ho⟩ := h y
  rw [crew_zoneGone, if_pos rfl, (crewStep_zoneGone c ch s).zoneActive, (crewStep_zoneGone c ch s).zoneDef, hby,
    Crew.mem_pending_zoneGone, Crew.mem_attended_zoneGone, Crew.mem_aside_zoneGone, Crew.names_zoneGone,
    Crew.live_zoneGone]
  simp only [List.mem_cons] at hp ha
  by_cases hy : y = ch.zone
  · simp [hy]
  · simp only [hy, false_or] at hp ha
    simpa [hy] using ⟨hs, hp, ha, ho⟩

theorem fits_zonesGone {c : Link} (chs : List Change) {s : State}
    (h : CrewFits (chs.map Change.zone) s c (s.crew c)) :
    CrewFits [] (chs.foldl (fun s ch => zoneGone c ch s) s) c ((chs.foldl (fun s ch => zoneGone c ch s) s).crew c) := by
  induction chs generalizing s with
  | nil => exact h
  | cons ch chs ih => exact ih (fits_zoneGone h)

theorem crewFitStep_urgencyMoved (c : Link) (z : Nat) (s : State) : CrewFitStep c s (urgencyMoved c z s) :=
  .of_sameLists (marksOnly_noteUrgency (s.crew c) z).sameLists

/-- A zone taken out of a crew's set-aside set alone. -/
theorem crewFitStep_zoneMoved (c : Link) (z : Nat) (s : State) : CrewFitStep c s (zoneMoved c z s) := by
  have hm : MarksOnly { s.crew c with aside := without (s.crew c).aside z } ((s.crew c).zoneMoved z) :=
    marksOnly_noteUrgency _ z
  have moved : CrewFitStep c s (s.setCrew c ((s.crew c).zoneMoved z)) := by
    refine .of_crew (fun ⟨hlen, hnd, hpa, hd⟩ => hm.sameLists.apart ⟨hlen, hnd, fun y hy => ?_, fun y hy => ?_⟩)
      fun gone h => hm.sameLists.fits fun y => ?_
    · exact ⟨(hpa y hy).1, fun h => (hpa y hy).2 ((mem_without ..).1 h).1⟩
    · exact fun h => hd y hy ((mem_without ..).1 h).1
    · obtain ⟨hs, hp, ha, ho⟩ := h y
      exact ⟨hs, hp, fun h => ha (h.imp_right fun h => ((mem_without ..).1 h).1), ho⟩
  exact moved.trans (crewFitStep_admitZone c z _)

/-! ### A report told to one crew (R101) -/

/-- The report once its gone zones have left the crew: the others moved, and the offer step. -/
theorem crewFitStep_carriedRest (moved : List Change) (us : List UrgencyChange) (c : Link) (s : State) :
    CrewFitStep c s (offerStep c (us.foldl (fun s u => urgencyMoved c u.zone s)
      (moved.foldl (fun s ch => zoneMoved c ch.zone s) s))) :=
  ((CrewFitStep.foldl (fun s (ch : Change) => crewFitStep_zoneMoved c ch.zone s) moved s).trans
    (.foldl (fun s (u : UrgencyChange) => crewFitStep_urgencyMoved c u.zone s) us _)).trans (crewFitStep_offerStep c _)

theorem crewStep_crewCarried (chs : List Change) (us : List UrgencyChange) (c : Link) (s : State) :
    CrewStep c s (crewCarried chs us c s) := by
  unfold crewCarried
  split
  · exact (CrewStep.foldl (fun s ch => crewStep_zoneGone c ch s) _ s).trans
      (crewFitStep_carriedRest _ us c _).toCrewStep
  · exact .refl c s

theorem keepsLists_crewCarried (chs : List Change) (us : List UrgencyChange) (c : Link) (s : State) :
    KeepsLists s (crewCarried chs us c s) := by
  by_cases ha : s.attached c = true
  · exact (crewStep_crewCarried chs us c s).keepsLists (.inl ha)
  · rw [crewCarried_unattached (by simpa using ha)]
    exact .refl s

/-- The zones that a report takes out of the crews (R83). -/
def goneZones (chs : List Change) : List Nat := (chs.filter (fun ch => !ch.after.active)).map Change.zone

theorem mem_goneZones {chs : List Change} {z : Nat} :
    z ∈ goneZones chs ↔ ∃ ch ∈ chs, ch.after.active = false ∧ ch.zone = z := by
  simp [goneZones, and_assoc]

theorem fits_crewCarried {chs : List Change} {us : List UrgencyChange} {c : Link} {s : State} (ha : s.attached c = true)
    (h : CrewFits (goneZones chs) s c (s.crew c)) :
    CrewFits [] (crewCarried chs us c s) c ((crewCarried chs us c s).crew c) := by
  rw [crewCarried_attached ha]
  exact (crewFitStep_carriedRest _ us c _).fits [] (fits_zonesGone _ h)

/-- A crew that holds nothing agrees with the picture, whatever has gone. -/
theorem CrewFits.of_empty {gone gone' : List Nat} {s : State} {c : Link} (h : CrewFits gone s c Crew.empty) :
    CrewFits gone' s c Crew.empty := fun z => by
  simpa [Crew.empty, Offer.names] using (h z).1

/-! ### A report told to every crew -/

/-- Effects for the links in turn, each of which establishes `Q` of its own link from `P` of it and leaves both of the
others: `Q` of every link. -/
theorem eachLink_establishes {F : Link → State → State} {P Q : Link → State → Prop} (hown : ∀ c u, P c u → Q c (F c u))
    (hP : ∀ c d u, d ≠ c → P d u → P d (F c u)) (hQ : ∀ c d u, d ≠ c → Q d u → Q d (F c u)) {s : State}
    (h : ∀ c, P c s) (c : Link) : Q c (eachLink F s) := by
  unfold eachLink
  cases c with
  | l1 => exact hQ .l4 .l1 _ (by decide) (hQ .l3 .l1 _ (by decide) (hQ .l2 .l1 _ (by decide) (hown .l1 s (h .l1))))
  | l2 => exact hQ .l4 .l2 _ (by decide) (hQ .l3 .l2 _ (by decide) (hown .l2 _ (hP .l1 .l2 _ (by decide) (h .l2))))
  | l3 => exact hQ .l4 .l3 _ (by decide) (hown .l3 _ (hP .l2 .l3 _ (by decide) (hP .l1 .l3 _ (by decide) (h .l3))))
  | l4 => exact hown .l4 _ (hP .l3 .l4 _ (by decide) (hP .l2 .l4 _ (by decide) (hP .l1 .l4 _ (by decide) (h .l4))))

theorem keepsLists_takeCarried (chs : List Change) (us : List UrgencyChange) (s : State) :
    KeepsLists s (takeCarried chs us s) :=
  eachLink_rel (R := KeepsLists) KeepsLists.trans (keepsLists_crewCarried chs us) s

/-- A report makes every crew agree with the picture, when each did but for the zones that the report takes out. -/
theorem fits_takeCarried {chs : List Change} {us : List UrgencyChange} {s : State}
    (hidle : ∀ c, s.attached c = false → s.crew c = Crew.empty)
    (h : ∀ c, CrewFits (goneZones chs) s c (s.crew c)) : CrewsInv (takeCarried chs us s) := by
  refine (crewsInv_iff _).2 fun c => ?_
  have step := fun c u => crewStep_crewCarried chs us c u
  refine eachLink_establishes
    (P := fun d u => (u.attached d = false → u.crew d = Crew.empty) ∧ CrewFits (goneZones chs) u d (u.crew d))
    (Q := fun d u => CrewFits [] u d (u.crew d)) (fun d u hu => ?_) (fun d e u hne hu => ?_)
    (fun d e u hne hu => (step d u).fits_other hne hu) (fun d => ⟨hidle d, h d⟩) c
  · obtain ⟨hempty, hfit⟩ := hu
    by_cases ha : u.attached d = true
    · exact fits_crewCarried ha hfit
    · have ha : u.attached d = false := by simpa using ha
      rw [crewCarried_unattached ha]
      rw [hempty ha] at hfit ⊢
      exact hfit.of_empty
  · rw [(step d u).attached, (step d u).crews e hne]
    exact ⟨hu.1, (step d u).crews e hne ▸ (step d u).fits_other hne hu.2⟩

/-! ### A zone change report (R70 to R75, R101) -/

theorem LinksInv.crew_unattached {s : State} (h : LinksInv s) {c : Link} (hc : s.attached c = false) :
    s.crew c = Crew.empty :=
  h.crew_empty fun ha => by simp [(s.attached_iff c).2 ha] at hc

/-- The urgencies recomputed leave the crews and the attended-by sets. -/
theorem attendedBy_reckoned (u : State) (r : ZoneReport) (z : Nat) :
    ((u.reckoned r).zone z).attendedBy = (u.zone z).attendedBy := by
  have listed : ((u.listed r.changes).zone z).attendedBy = (u.zone z).attendedBy :=
    List.foldlRecOn (motive := fun t => (State.zone t z).attendedBy = (u.zone z).attendedBy) r.changes _ rfl
      fun t ih ch _ => by
        rw [zone_listedZone]
        split <;> exact ih
  rw [State.reckoned, State.zone_recomputed]
  split <;> exact listed

theorem keepsLists_takeZoneReport (r : ZoneReport) (s : State) : KeepsLists s (takeZoneReport r s) := by
  rw [takeZoneReport_eq]
  split
  · exact .refl s
  · have h := s.reportOnly_reckoned r
    exact (KeepsLists.of_eq (nr_reckoned s r) h.cl (by rw [h.picture])).trans (keepsLists_takeCarried ..)

/-- A report of every zone that has left its active condition since the crews last agreed with the picture. -/
theorem crewsInv_takeZoneReport {r : ZoneReport} {s u : State} (hl : LinksInv s) (hc : CrewsInv s) (hnr : u.nr = s.nr)
    (hcl : u.cl = s.cl) (hdefs : u.tables.defs = s.tables.defs)
    (hby : ∀ z, (u.zone z).attendedBy = (s.zone z).attendedBy)
    (hact : ∀ z, s.zoneActive z = true → u.zoneActive z = true ∨ z ∈ goneZones r.changes) :
    CrewsInv (takeZoneReport r u) := by
  have hdef : ∀ z, u.zoneDef z = s.zoneDef z := fun z => by rw [State.zoneDef, hdefs, State.zoneDef]
  have fits : ∀ c, CrewFits (goneZones r.changes) u c (s.crew c) := fun c z => by
    obtain ⟨hs, hp, ha, ho⟩ := (crewsInv_iff s).1 hc c z
    simp only [List.not_mem_nil, false_or] at hp ha
    rw [hby, hdef]
    exact ⟨hs, fun hz => ⟨(hact z (hp hz).1).symm, (hp hz).2⟩, fun hz => (hact z (ha hz)).symm, ho⟩
  rw [takeZoneReport_eq]
  split
  · rename_i hnil
    refine (crewsInv_iff u).2 fun c => ?_
    have h := fits c
    rw [hnil] at h
    rw [State.crew_of_nr hnr]
    exact h
  · have hr := u.reportOnly_reckoned r
    have hcrew : ∀ c, (u.reckoned r).crew c = s.crew c := fun c => State.crew_of_nr ((nr_reckoned u r).trans hnr) c
    refine fits_takeCarried (fun c ha => ?_) fun c => ?_
    · rw [hcrew]
      rw [hr.attached, State.attached_of_cl hcl] at ha
      exact hl.crew_unattached ha
    · rw [hcrew]
      exact (fits c).of_zones (fun z => by rw [attendedBy_reckoned]) hr.zoneActive hr.zoneDef

/-! ### The picture's events (R37, R43 to R56) -/

/-- A record committed with its attended-by set as it was. -/
theorem keepsHeld_commitZone {z : Nat} {mid : ZoneLive} {s : State} (hmid : mid.attendedBy = (s.zone z).attendedBy) :
    KeepsHeld s (commitZone z mid s) := by
  have hstore := s.storeZone_eq z (s.settledZone z mid)
  have hss : (s.storeZone z (s.settledZone z mid)).ss = s.ss := by rw [hstore]
  have hzone := s.zone_storeZone z (s.settledZone z mid)
  have hby : ∀ y, ((s.storeZone z (s.settledZone z mid)).zone y).attendedBy = (s.zone y).attendedBy := fun y => by
    rw [hzone]
    split
    · rename_i hy
      rw [hy]
      exact hmid
    · rfl
  rw [commitZone_eq]
  refine ⟨(KeepsLists.of_eq (s.nr_storeZone z _) (s.cl_storeZone z _) (congrArg _ hss)).trans
    (keepsLists_takeZoneReport ..), fun hw => (reportOnly_takeZoneReport ..).wf (s.wf_storeZone z _ hw),
    fun hl _ hc => crewsInv_takeZoneReport hl hc (s.nr_storeZone z _) (s.cl_storeZone z _)
      (congrArg _ (s.tables_storeZone z _)) hby fun y hy => ?_⟩
  by_cases hyz : y = z
  · subst hyz
    cases hact : (s.storeZone y (s.settledZone y mid)).zoneActive y with
    | true => exact .inl rfl
    | false =>
      have hafter : (s.settledZone y mid).cond.active = false := by
        rwa [State.zoneActive, State.zone_storeZone_self] at hact
      refine .inr (mem_goneZones.2 ⟨⟨y, (s.zone y).cond, (s.settledZone y mid).cond, (s.zone y).alarms, mid.alarms⟩, ?_,
        hafter, rfl⟩)
      have hne : ¬ ((s.zone y).cond = (s.settledZone y mid).cond ∧ (s.zone y).alarms = (s.settledZone y mid).alarms) := by
        rintro ⟨heq, -⟩
        rw [State.zoneActive, heq, hafter] at hy
        cases hy
      rw [changeOf, if_neg hne]
      exact List.mem_singleton.2 rfl
  · refine .inl ?_
    rw [State.zoneActive, hzone, if_neg hyz]
    exact hy

theorem attendedBy_applyEvent (s : State) (z : Nat) (l : ZoneLive) (e : PointEvent) :
    (applyEvent s z l e).attendedBy = l.attendedBy := by
  have ordinary : (ordinaryAlarm s l e).attendedBy = l.attendedBy := by
    unfold ordinaryAlarm
    split <;> rfl
  have start : (verificationStart s l e).attendedBy = l.attendedBy := by
    unfold verificationStart
    split <;> rfl
  have confirmed : (confirmation s l e).attendedBy = l.attendedBy := by
    unfold confirmation
    dsimp only
    split
    · rfl
    · split <;> rfl
  unfold applyEvent
  cases e.cond with
  | alarm =>
    show (alarmEvent s z l e).attendedBy = l.attendedBy
    unfold alarmEvent
    split
    · rfl
    · split
      · exact confirmed
      · split
        · exact start
        · exact ordinary
  | supervisory =>
    show (supervisoryEvent s l e).attendedBy = l.attendedBy
    unfold supervisoryEvent
    split <;> rfl
  | trouble =>
    show (troubleEvent s l e).attendedBy = l.attendedBy
    unfold troubleEvent
    split <;> rfl
  | normal => rfl

/-- A zone's record rewritten with its condition and its attended-by set kept. -/
theorem keepsHeld_setZone {s : State} {z : Nat} {l : ZoneLive} (hcond : l.cond = (s.zone z).cond)
    (hby : l.attendedBy = (s.zone z).attendedBy) : KeepsHeld s (s.setZone z l) := by
  have hzone : ∀ y, ((s.setZone z l).zone y).cond = (s.zone y).cond ∧
      ((s.setZone z l).zone y).attendedBy = (s.zone y).attendedBy := fun y => by
    rw [State.zone_setZone]
    split
    · subst_vars
      exact ⟨hcond, hby⟩
    · exact ⟨rfl, rfl⟩
  refine ⟨.of_eq rfl rfl rfl, fun hw => Tab.wf_put hw z l, fun _ _ hc => (crewsInv_iff _).2 fun c => ?_⟩
  refine ((crewsInv_iff s).1 hc c).of_zones (fun y => by rw [(hzone y).2]) (fun y => ?_) fun _ => rfl
  rw [State.zoneActive, (hzone y).1, State.zoneActive]

theorem keepsHeld_pointEvent (e : PointEvent) (s : State) : KeepsHeld s (pointEvent e s) := by
  unfold pointEvent
  dsimp only
  split
  · exact .of_eq rfl rfl rfl rfl rfl
  · unfold zoneEvent
    dsimp only
    split
    · exact keepsHeld_setZone rfl rfl
    · exact keepsHeld_commitZone (attendedBy_applyEvent ..)

theorem keepsHeld_windowExpires (z : Nat) (s : State) : KeepsHeld s (windowExpires z s) := keepsHeld_commitZone rfl

theorem keepsHeld_zoneIsolate (z : Nat) (on : Bool) (s : State) : KeepsHeld s (zoneIsolate z on s) := by
  unfold zoneIsolate
  dsimp only
  split
  · exact .refl s
  · split
    · exact .refl s
    · split <;> exact keepsHeld_commitZone rfl

theorem keepsHeld_panelReset (s : State) : KeepsHeld s (panelReset s) := by
  have hwf : Tab.wf ZoneLive.start s.zp.live = true → Tab.wf ZoneLive.start s.resetZones.zp.live = true := fun hw =>
    Tab.wf_mapAll hw _
  rw [panelReset_eq]
  refine ⟨(KeepsLists.of_eq (s := s) (t := s.resetZones) rfl rfl rfl).trans (keepsLists_takeZoneReport ..),
    fun hw => (reportOnly_takeZoneReport ..).wf (hwf hw), fun hl hw hc =>
      crewsInv_takeZoneReport hl hc rfl rfl rfl (fun z => ?_) fun z hz => .inr ?_⟩
  · rw [State.zone_resetZones hw, ZoneLive.panelReset]
    split <;> rfl
  · obtain ⟨ch, hch, hzone⟩ := List.mem_map.1 (State.mem_resetChanges_zone.2 hz)
    exact mem_goneZones.2 ⟨ch, hch, by rw [s.resetChanges_quiet ch hch]; rfl, hzone⟩

/-! ### Urgency reports (R71 to R75, R102) -/

theorem keepsHeld_takeUrgency (us : List UrgencyChange) (s : State) : KeepsHeld s (takeUrgency us s) := by
  unfold takeUrgency
  split
  · exact .refl s
  · refine eachLink_rel (R := KeepsHeld) KeepsHeld.trans (fun c u => .ite fun ha => ?_) s
    exact ((CrewFitStep.foldl (fun s (x : UrgencyChange) => crewFitStep_urgencyMoved c x.zone s) us u).trans
      (crewFitStep_offerStep c _)).keepsHeld (.inl ha)

/-- Urgencies and age schedules are no part of what the links hold. -/
theorem keepsHeld_recomputed (zs : List Nat) (s : State) : KeepsHeld s (s.recomputed zs) := by
  have h := s.reportOnly_recomputed zs
  have hnr : (s.recomputed zs).nr = s.nr := by
    rw [State.recomputed, writeUrgencies_eq]
  refine ⟨.of_eq hnr h.cl (by rw [h.picture]), h.wf, fun _ _ hc => (crewsInv_iff _).2 fun c => ?_⟩
  rw [State.crew_of_nr hnr]
  refine ((crewsInv_iff s).1 hc c).of_zones (fun z => ?_) h.zoneActive h.zoneDef
  rw [State.zone_recomputed]
  split <;> rfl

theorem keepsHeld_recomputeAndReport (zs : List Nat) (s : State) : KeepsHeld s (recomputeAndReport zs s) := by
  rw [recomputeAndReport_eq]
  exact (keepsHeld_recomputed zs s).trans (keepsHeld_takeUrgency _ _)

theorem keepsHeld_ageStepFalls (z : Nat) (s : State) : KeepsHeld s (ageStepFalls z s) :=
  (KeepsHeld.of_eq (s := s) (t := s.setAgeStep z (s.nextAgeStep z ((s.ageStep z).getD 0))) rfl rfl rfl rfl rfl).trans
    (keepsHeld_recomputeAndReport _ _)

theorem keepsHeld_setConfig (t : ConfigTable) (s : State) : KeepsHeld s (setConfig t s) := by
  have h : KeepsHeld s (setTables { s.tables with config := t } s) := .of_eq rfl rfl rfl rfl rfl
  unfold setConfig takeConfigChange
  dsimp only
  split
  · exact h.trans (keepsHeld_recomputeAndReport _ _)
  · refine (h.trans ?_).trans (keepsHeld_recomputeAndReport _ _)
    rw [rescheduleAll_eq]
    exact .of_eq rfl rfl rfl rfl rfl

/-! ### A picture clear (R60, R103) -/

theorem crew_pictureClear_unattached {s : State} {c : Link} (ha : s.attached c = false) :
    (pictureClear s).crew c = s.crew c := by
  refine crew_eachLink (F := crewCleared) (Q := fun d k k' => d = c → k' = k) (I := fun u => u.attached c = false)
    (fun d u hu => ?_) (fun d e u h => ?_) (fun d u hu hd => ?_)
    (s := { s with zp := { live := [], floors := [] }, ageSteps := [] }) ha c rfl
  · have hkept : (crewCleared d u).cl = u.cl := by
      unfold crewCleared
      split
      · rw [State.modCrew_cl, pictureOnly_unattendAll d u]
      · rfl
    exact (State.attached_of_cl hkept c).trans hu
  · rw [crew_crewCleared, if_neg fun h' => h h'.1]
  · subst hd
    rw [crew_crewCleared, if_neg (by simp [hu])]

/-- With every live record at its start value, a crew that holds no zone agrees with the picture. -/
theorem fits_of_start {s : State} {c : Link} {k : Crew} (hz : ∀ z, s.zone z = ZoneLive.start) (hp : k.pending = [])
    (ha : k.attended = []) (hs : k.aside = []) (ho : k.offer = .none) : CrewFits [] s c k := fun z => by
  rw [hz, hp, ha, hs, ho]
  cases c <;> simp [ZoneLive.start, PerLink.get, Offer.names]

theorem keepsHeld_pictureClear (s : State) : KeepsHeld s (pictureClear s) := by
  have hframe := pictureClear_frame s
  have hlink : ∀ c, (pictureClear s).link c = s.link c := fun c => State.link_of_cl (by rw [hframe]) c
  have hslot : ∀ c, (pictureClear s).slot c = s.slot c := fun c => State.slot_of_slots (by rw [hframe]) c
  refine ⟨⟨fun h => (collectionsInv_iff _).2 fun c => ?_, fun h => (sheetQueueInv_iff _).2 fun c => ?_,
    fun h => (linksInv_iff _).2 fun c => ?_⟩, fun _ => (crewWrites_takeCleared _).attendedOnly.wf (Tab.wf_nil _),
    fun hl _ hc => (crewsInv_iff _).2 fun c => ?_⟩
  · by_cases ha : s.attached c = true
    · rw [crew_pictureClear s ha]
      simp [Crew.Apart, Crew.cleared]
    · rw [crew_pictureClear_unattached (by simpa using ha)]
      exact h c
  · rw [hslot]
    exact (sheetQueueInv_iff s).1 h c
  · rw [hlink, hslot]
    refine ⟨h.sound c, fun hn => ⟨?_, h.slot_idle hn⟩⟩
    have ha : s.attached c = false := by simpa [State.attached] using hn
    rw [crew_pictureClear_unattached ha, h.crew_empty hn]
  · have hz := zone_pictureClear s
    by_cases ha : s.attached c = true
    · rw [crew_pictureClear s ha]
      exact fits_of_start hz rfl rfl rfl rfl
    · rw [crew_pictureClear_unattached (by simpa using ha), hl.crew_unattached (by simpa using ha)]
      exact fits_of_start hz rfl rfl rfl rfl

end Sys2Proof.Machine
end

section
/-! What ends an event keeps all that the links hold (R128, R129, R144), and the Sheet Streamer keeps the sheet queues
(R133 to R149). -/

namespace Sys2Proof.Machine

/-! ### Slots with the same sheets -/

theorem SheetSlot.Loose.of_sameSheets {x y : SheetSlot} (h : x.Loose) (hq : y.queue = x.queue)
    (ht : y.transfer.map Transfer.sheet = x.transfer.map Transfer.sheet) : y.Loose := by
  obtain ⟨hlen, hnd, hsheet⟩ := h
  refine ⟨hq ▸ hlen, hq ▸ hnd, fun t hy => ?_⟩
  obtain ⟨u, hu, heq⟩ := Option.map_eq_some_iff.1 (ht.symm.trans (congrArg (Option.map Transfer.sheet) hy))
  rw [hq, ← heq]
  exact hsheet u hu

theorem SheetSlot.Sound.of_sameSheets {x y : SheetSlot} (h : x.Sound) (hq : y.queue = x.queue)
    (ht : y.transfer.map Transfer.sheet = x.transfer.map Transfer.sheet) : y.Sound := by
  obtain ⟨hloose, hbusy⟩ := h
  refine ⟨hloose.of_sameSheets hq ht, fun hne hn => hbusy (hq ▸ hne) ?_⟩
  rw [hn] at ht
  simpa using ht.symm

theorem SheetSlot.Idle.of_sameSheets {x y : SheetSlot} (h : x.Idle) (hq : y.queue = x.queue)
    (ht : y.transfer.map Transfer.sheet = x.transfer.map Transfer.sheet) : y.Idle := by
  obtain ⟨hqueue, htransfer⟩ := h
  rw [htransfer] at ht
  exact ⟨hq.trans hqueue, by simpa using ht⟩

theorem SheetSlot.Idle.sound {x : SheetSlot} (h : x.Idle) : x.Sound := by
  obtain ⟨hq, ht⟩ := h
  simp [SheetSlot.Sound, SheetSlot.Loose, hq, ht]

/-! ### What ends an event -/

/-- What an arbiter may begin, on an ATTACHED link only, within the transmit FIFO's size. -/
structure ArbiterStep (s t : State) : Prop where
  only : ArbitersOnly s t
  idle : ∀ c, s.attached c = false → t.crew c = s.crew c ∧ t.link c = s.link c
  fifo : ∀ c, (s.link c).txFifo.length ≤ 64 → (t.link c).txFifo.length ≤ 64

namespace ArbiterStep

theorem refl (s : State) : ArbiterStep s s := ⟨.refl s, fun _ _ => ⟨rfl, rfl⟩, fun _ => id⟩

theorem trans {s t u : State} (h : ArbiterStep s t) (g : ArbiterStep t u) : ArbiterStep s u := by
  refine ⟨h.only.trans g.only, fun c hc => ?_, fun c => g.fifo c ∘ h.fifo c⟩
  obtain ⟨hcrew, hlink⟩ := h.idle c hc
  obtain ⟨gcrew, glink⟩ := g.idle c ((h.only.attached c).trans hc)
  exact ⟨gcrew.trans hcrew, glink.trans hlink⟩

theorem of_slots {s t : State} (h : ArbitersOnly s t) (hnr : t.nr = s.nr) (hcl : t.cl = s.cl) : ArbiterStep s t :=
  ⟨h, fun c _ => ⟨State.crew_of_nr hnr c, State.link_of_cl hcl c⟩, fun c hc => by rwa [State.link_of_cl hcl]⟩

/-- Writes on one ATTACHED link. -/
theorem of_link {s t : State} {c : Link} (h : ArbitersOnly s t) (ha : s.attached c = true)
    (hcrew : ∀ d, d ≠ c → t.crew d = s.crew d) (hlink : ∀ d, d ≠ c → t.link d = s.link d)
    (hfifo : (s.link c).txFifo.length ≤ 64 → (t.link c).txFifo.length ≤ 64) : ArbiterStep s t := by
  have other : ∀ d, s.attached d = false → d ≠ c := by
    rintro d hd rfl
    simp [ha] at hd
  refine ⟨h, fun d hd => ⟨hcrew d (other d hd), hlink d (other d hd)⟩, fun d hd => ?_⟩
  by_cases hdc : d = c
  · subst hdc
    exact hfifo hd
  · rwa [hlink d hdc]

/-- What the arbiters begin keeps all that the links hold. -/
theorem keepsHeld {s t : State} (h : ArbiterStep s t) : KeepsHeld s t := by
  have ho := h.only
  have same : ∀ c, (s.crew c).SameLists (t.crew c) := fun c => by
    rw [ho.crew c]
    rfl
  refine ⟨⟨fun hs => (collectionsInv_iff t).2 fun c => (same c).apart (hs c),
    fun hs => (sheetQueueInv_iff t).2 fun c => ?_, fun hs => (linksInv_iff t).2 fun c => ?_⟩, by rw [ho.zp]; exact id,
    fun _ _ hs => (crewsInv_iff t).2 fun c => (same c).fits (((crewsInv_iff s).1 hs c).of_zones (fun z => by rw [ho.zone])
      (fun z => by rw [State.zoneActive, ho.zone, State.zoneActive]) fun z => by rw [State.zoneDef, ho.tables, State.zoneDef])⟩
  · exact ((sheetQueueInv_iff s).1 hs c).of_sameSheets (ho.queue c) (ho.sheet c)
  · cases ha : s.attached c with
    | false =>
      obtain ⟨hcrew, hlink⟩ := h.idle c ha
      rw [hlink, hcrew]
      exact ⟨hs.sound c, fun hn => ⟨hs.crew_empty hn, (hs.slot_idle hn).of_sameSheets (ho.queue c) (ho.sheet c)⟩⟩
    | true =>
      have hstate := (t.attached_iff c).1 ((ho.attached c).trans ha)
      refine ⟨?_, fun hn => absurd hstate hn⟩
      obtain ⟨hrx, hrep, htx, hrec, hout, hready, hlow, -⟩ := hs.sound c
      have hfifo := h.fifo c htx
      have hl := ho.link c
      rw [hl] at hstate hfifo ⊢
      exact ⟨hrx, hrep, hfifo, hrec, hout, hready, hlow, fun hn => absurd hstate hn⟩

end ArbiterStep

/-! ### The writer and the frame arbiter (R128, R129) -/

theorem noteDrained_cl_nr (c : Link) (o : Owner) (n : Nat) (s : State) :
    (noteDrained c o n s).cl = s.cl ∧ (noteDrained c o n s).nr = s.nr := by
  unfold noteDrained
  split <;> exact ⟨rfl, rfl⟩

/-- A link once the writer has filled the free places of its transmit FIFO (R129). -/
def LinkUnit.filled (u : LinkUnit) : LinkUnit :=
  match u.writing with
  | none => u
  | some w =>
    let n := min (64 - u.txFifo.length) (w.rest.length - 1)
    { u with writing := some { w with rest := w.rest.drop n }, txFifo := u.txFifo ++ (w.rest.take n).map OutChar.ch }

theorem LinkUnit.filled_idle {u : LinkUnit} (h : u.writing = none) : u.filled = u := by
  unfold LinkUnit.filled
  rw [h]

theorem LinkUnit.filled_writing {u : LinkUnit} {w : Writing} (h : u.writing = some w) : u.filled =
    { u with writing := some { w with rest := w.rest.drop (min (64 - u.txFifo.length) (w.rest.length - 1)) },
             txFifo := u.txFifo ++ (w.rest.take (min (64 - u.txFifo.length) (w.rest.length - 1))).map OutChar.ch } := by
  unfold LinkUnit.filled
  rw [h]

theorem LinkUnit.length_filled {u : LinkUnit} (h : u.txFifo.length ≤ 64) : u.filled.txFifo.length ≤ 64 := by
  unfold LinkUnit.filled
  split
  · exact h
  · simp only [List.length_append, List.length_map, List.length_take]
    omega

theorem link_writerFill (c d : Link) (s : State) :
    (writerFill c s).link d = if d = c then (s.link c).filled else s.link d := by
  unfold writerFill
  dsimp only
  split
  · rename_i h
    rw [LinkUnit.filled_idle h]
    split
    · rename_i hd
      rw [hd]
    · rfl
  · rename_i w h
    rw [State.link_of_cl (noteDrained_cl_nr ..).1, State.link_setLink, LinkUnit.filled_writing h]

theorem crew_writerFill (c d : Link) (s : State) : (writerFill c s).crew d = s.crew d := by
  unfold writerFill
  dsimp only
  split
  · rfl
  · rw [State.crew_of_nr (noteDrained_cl_nr ..).2]
    rfl

theorem arbiterStep_writerFill {c : Link} {s : State} (ha : s.attached c = true) : ArbiterStep s (writerFill c s) := by
  refine .of_link (arbitersOnly_writerFill c s) ha (fun d _ => crew_writerFill c d s) (fun d hd => ?_) fun h => ?_
  · rw [link_writerFill, if_neg hd]
  · rw [link_writerFill, if_pos rfl]
    exact LinkUnit.length_filled h

theorem arbiterStep_beginFrame {c : Link} {s : State} (ha : s.attached c = true) (o : Owner) (cs : List OutChar) :
    ArbiterStep s (beginFrame c o cs s) := by
  have begun : ArbiterStep s (s.modLink c fun u => { u with writing := some ⟨o, cs⟩ }) := by
    refine .of_link (.setLink s c (some ⟨o, cs⟩) (s.link c).txFifo) ha (fun _ _ => rfl) (fun d hd => ?_) fun h => ?_
    · rw [State.link_modLink, if_neg hd]
    · rw [State.link_modLink_self]
      exact h
  exact begun.trans (arbiterStep_writerFill ((begun.only.attached c).trans ha))

theorem arbiterStep_linkArbiter (c : Link) (s : State) : ArbiterStep s (linkArbiter c s) := by
  unfold linkArbiter
  split
  · rename_i hm
    have ha : s.attached c = true := by
      simp only [State.mayBegin, Bool.and_eq_true] at hm
      exact hm.1.1
    split
    · exact arbiterStep_beginFrame ha _ _
    · split
      · rename_i n z _
        have flown : ArbiterStep s (s.modCrew c fun k => { k with flight := some ⟨n, z, false⟩ }) :=
          .of_link (.setFlight s c _) ha (fun d hd => by rw [State.crew_modCrew, if_neg hd]) (fun _ _ => rfl) id
        exact flown.trans (arbiterStep_beginFrame ((flown.only.attached c).trans ha) _ _)
      · split
        · rename_i t b _
          have taken : ArbiterStep s (s.setSlot c ((s.slot c).setBuf (bufOf t.drainSpan) { b with state := .draining })) :=
            .of_slots (.setSlot _ c _ (by simp) (by simp) (by simp)) rfl rfl
          exact taken.trans (arbiterStep_beginFrame ((taken.only.attached c).trans ha) _ _)
        · exact .refl s
  · exact .refl s

/-! ### The plan reader's arbiter (R144, R145) -/

/-- `t` is `s` but for the Sheet Streamer. -/
def StreamerOnly (s t : State) : Prop := t = { s with ss := t.ss }

theorem StreamerOnly.refl (s : State) : StreamerOnly s s := rfl

theorem StreamerOnly.trans {s t u : State} (h : StreamerOnly s t) (g : StreamerOnly t u) : StreamerOnly s u := by
  unfold StreamerOnly at *
  rw [g, h]

section fields
variable {s t : State} (h : StreamerOnly s t)
include h
theorem StreamerOnly.nr : t.nr = s.nr := by rw [h]
theorem StreamerOnly.cl : t.cl = s.cl := by rw [h]
theorem StreamerOnly.zp : t.zp = s.zp := by rw [h]
theorem StreamerOnly.tables : t.tables = s.tables := by rw [h]
theorem StreamerOnly.crew (c : Link) : t.crew c = s.crew c := State.crew_of_nr h.nr c
theorem StreamerOnly.link (c : Link) : t.link c = s.link c := State.link_of_cl h.cl c
theorem StreamerOnly.attached (c : Link) : t.attached c = s.attached c := State.attached_of_cl h.cl c
end fields

theorem streamerOnly_enterDue (c : Link) (s : State) : StreamerOnly s (enterDue c s) := by
  unfold enterDue
  split
  · rfl
  · split
    · rfl
    · split <;> rfl

theorem streamerOnly_grant (c : Link) (s : State) : StreamerOnly s (grant c s) := by
  unfold grant
  split
  · rfl
  · dsimp only
    split <;> rfl

theorem streamerOnly_chooseOnce (s : State) : StreamerOnly s (chooseOnce s) := by
  unfold chooseOnce
  split
  · rfl
  · split
    · rfl
    · split
      · exact streamerOnly_grant _ s
      · rfl

theorem streamerOnly_readerArbiter (s : State) : StreamerOnly s (readerArbiter s) := by
  have h : StreamerOnly s (eachLink enterDue s) :=
    eachLink_rel (R := StreamerOnly) StreamerOnly.trans streamerOnly_enterDue s
  have next : ∀ {u}, StreamerOnly s u → StreamerOnly s (chooseOnce u) := fun hu => hu.trans (streamerOnly_chooseOnce _)
  exact next (next (next (next (next h))))

theorem arbiterStep_settle (s : State) : ArbiterStep s (settle s) := by
  have hr := streamerOnly_readerArbiter s
  exact (ArbiterStep.of_slots (arbitersOnly_readerArbiter s) hr.nr hr.cl).trans
    (eachLink_rel (R := ArbiterStep) ArbiterStep.trans arbiterStep_linkArbiter _)

theorem KeepsHeld.settle {s t : State} (h : KeepsHeld s t) : KeepsHeld s (settle t) :=
  h.trans (arbiterStep_settle t).keepsHeld

/-! ### Steps on one crew's sheets -/

/-- `t` is `s` but for one crew's sheets and the reader, and the crew's sheet queue is kept sound. -/
structure SheetStep (c : Link) (s t : State) : Prop where
  only : StreamerOnly s t
  slots : ∀ d, d ≠ c → t.slot d = s.slot d
  sound : (s.slot c).Sound → (t.slot c).Sound

namespace SheetStep

theorem refl (c : Link) (s : State) : SheetStep c s s := ⟨rfl, fun _ _ => rfl, id⟩

theorem trans {c : Link} {s t u : State} (h : SheetStep c s t) (g : SheetStep c t u) : SheetStep c s u :=
  ⟨h.only.trans g.only, fun d hd => (g.slots d hd).trans (h.slots d hd), g.sound ∘ h.sound⟩

theorem setSlot {c : Link} {s : State} {x : SheetSlot} (h : (s.slot c).Sound → x.Sound) :
    SheetStep c s (s.setSlot c x) := by
  refine ⟨rfl, fun d hd => ?_, fun hs => ?_⟩
  · rw [State.slot_setSlot, if_neg hd]
  · rw [State.slot_setSlot_self]
    exact h hs

theorem keepsHeld {c : Link} {s t : State} (h : SheetStep c s t)
    (hidle : s.attached c = true ∨ ((s.slot c).Idle → (t.slot c).Idle)) : KeepsHeld s t := by
  have slots : ∀ d, t.slot d = (s.setSlot c (t.slot c)).slot d := fun d => by
    rw [State.slot_setSlot]
    split
    · rename_i hd
      rw [hd]
    · exact h.slots d ‹_›
  have hset : KeepsHeld s (s.setSlot c (t.slot c)) := .of_slot h.sound hidle
  refine hset.trans (.of_eq h.only.nr h.only.cl ?_ h.only.zp (congrArg _ h.only.tables))
  exact PerLink.ext_get slots

end SheetStep

/-! ### Queued, started and stopped sheets (R137 to R142) -/

theorem State.newTransfer_sheet (s : State) (i : Nat) : (s.newTransfer i).sheet = i := by
  unfold State.newTransfer
  dsimp only
  split <;> rfl

theorem streamerOnly_startTransfer (c : Link) (s : State) : StreamerOnly s (startTransfer c s) := by
  unfold startTransfer
  dsimp only
  split <;> rfl

theorem slot_startTransfer_other {c d : Link} (h : d ≠ c) (s : State) : (startTransfer c s).slot d = s.slot d := by
  unfold startTransfer
  dsimp only
  split
  · rw [State.slot_setSlot, if_neg h]
  · rfl

/-- A transfer that starts takes its sheet out of the queue, so that none waits behind an empty slot (R135, R137). -/
theorem sound_startTransfer {c : Link} {s : State} (h : (s.slot c).Loose) : ((startTransfer c s).slot c).Sound := by
  obtain ⟨hlen, hnd, hsheet⟩ := id h
  unfold startTransfer
  dsimp only
  split
  · rename_i i rest _ hq
    rw [hq, List.nodup_cons] at hnd
    rw [hq, List.length_cons] at hlen
    rw [State.slot_setSlot_self]
    refine ⟨⟨show rest.length ≤ 4 by omega, hnd.2, ?_⟩, fun _ => Option.some_ne_none _⟩
    rintro t ht
    obtain rfl := Option.some.inj ht
    rw [State.newTransfer_sheet]
    exact hnd.1
  · rename_i hnot
    refine ⟨h, fun hne hnone => ?_⟩
    obtain ⟨i, rest, hq⟩ := List.exists_cons_of_ne_nil hne
    exact hnot i rest hnone hq

/-- A slot rewritten so that its queue is sound once a transfer has started where one can. -/
theorem SheetStep.started {c : Link} {s : State} {x : SheetSlot} (h : (s.slot c).Sound → x.Loose) :
    SheetStep c s (startTransfer c (s.setSlot c x)) := by
  refine ⟨StreamerOnly.trans (t := s.setSlot c x) rfl (streamerOnly_startTransfer c _), fun d hd => ?_,
    fun hs => sound_startTransfer ?_⟩
  · rw [slot_startTransfer_other hd, State.slot_setSlot, if_neg hd]
  · rw [State.slot_setSlot_self]
    exact h hs

theorem SheetSlot.Loose.queued {x : SheetSlot} (h : x.Loose) {i : Nat} (hi : x.holds i = false)
    (hlen : x.queue.length < 4) : SheetSlot.Loose { x with queue := x.queue ++ [i] } := by
  obtain ⟨-, hnd, hsheet⟩ := h
  simp only [SheetSlot.holds, Bool.or_eq_false_iff] at hi
  obtain ⟨hq, ht⟩ := hi
  have hmem : i ∉ x.queue := by simpa using hq
  refine ⟨by simpa using hlen, ?_, fun t hx => ?_⟩
  · exact List.nodup_append.2 ⟨hnd, List.nodup_singleton i, fun a ha b hb => by
      rw [List.mem_singleton.1 hb]
      rintro rfl
      exact hmem ha⟩
  · have hne : t.sheet ≠ i := by
      have hx : x.transfer = some t := hx
      rw [hx] at ht
      simpa using ht
    simpa [hne] using hsheet t hx

theorem sheetStep_queueSheet (c : Link) (i : Nat) (s : State) : SheetStep c s (queueSheet c i s).2 := by
  unfold queueSheet
  split
  · exact .refl c s
  · split
    · exact .refl c s
    · split
      · exact .refl c s
      · rename_i hi hlen
        exact .started fun h => h.1.queued (by simpa using hi) (by simpa using hlen)

theorem sheetStep_requestSheet (c : Link) (i : Nat) (s : State) : SheetStep c s (requestSheet c i s).2 := by
  unfold requestSheet
  split
  · exact .refl c s
  · exact sheetStep_queueSheet c i s

theorem sheetStep_queueField (c : Link) (f : Option Nat) (s : State) : SheetStep c s (queueField c f s).2 := by
  unfold queueField
  split
  · exact .refl c s
  · exact sheetStep_queueSheet c _ s

theorem sheetStep_requestByZone (c : Link) (z : Nat) (s : State) : SheetStep c s (requestByZone c z s).2.2 := by
  unfold requestByZone
  split
  · exact .refl c s
  · split
    · exact .refl c s
    · exact (sheetStep_queueField c _ s).trans (sheetStep_queueField c _ _)

theorem SheetSlot.Loose.abort {x : SheetSlot} (h : x.Loose) : x.abort.Loose := by
  obtain ⟨hlen, hnd, -⟩ := h
  exact ⟨hlen, hnd, fun t ht => by cases ht⟩

theorem sheetStep_stopSheet (c : Link) (i : Nat) (s : State) : SheetStep c s (stopSheet c i s).2 := by
  unfold stopSheet
  dsimp only
  split
  · refine .setSlot ?_
    rintro ⟨⟨hlen, hnd, hsheet⟩, hbusy⟩
    have hsub : (without (s.slot c).queue i).Sublist (s.slot c).queue := List.filter_sublist
    refine ⟨⟨hsub.length_le.trans hlen, hnd.sublist hsub, fun t ht => mt (fun h => hsub.subset h) (hsheet t ht)⟩,
      fun hne => hbusy fun hnil => hne ?_⟩
    show without (s.slot c).queue i = []
    rw [hnil]
    rfl
  · split
    · split
      · exact .started fun h => h.1.abort
      · exact .refl c s
    · exact .refl c s

theorem sheetStep_stopAllSheets (c : Link) (s : State) : SheetStep c s (stopAllSheets c s) := by
  refine .setSlot fun _ => ?_
  cases (s.slot c).transfer <;> simp [SheetSlot.Sound, SheetSlot.Loose]

/-! ### Spans filled and drained (R146 to R149) -/

theorem SheetStep.setBuf (c : Link) (i : BufId) (b : SpanBuf) (s : State) :
    SheetStep c s (s.setSlot c ((s.slot c).setBuf i b)) :=
  .setSlot fun h => h.of_sameSheets (by simp) (by simp)

theorem keepsHeld_setBuf (c : Link) (i : BufId) (b : SpanBuf) (s : State) :
    KeepsHeld s (s.setSlot c ((s.slot c).setBuf i b)) :=
  .of_slot (fun h => h.of_sameSheets (by simp) (by simp)) (.inr fun h => h.of_sameSheets (by simp) (by simp))

theorem keepsHeld_spanComplete (c : Link) (i : BufId) (s : State) : KeepsHeld s (spanComplete c i s) := by
  unfold spanComplete
  dsimp only
  split
  · exact keepsHeld_setBuf c i _ s
  · split
    · refine SheetStep.keepsHeld (c := c) (.started fun h => ?_) (.inr fun h => ?_)
      · obtain ⟨⟨hlen, hnd, -⟩, -⟩ := h
        exact ⟨by simpa using hlen, by simpa using hnd, fun t ht => by cases ht⟩
      · obtain ⟨hq, -⟩ := h
        unfold startTransfer
        simp [hq, SheetSlot.Idle]
    · have hsame : ∀ f : Transfer → Transfer, (∀ t, (f t).sheet = t.sheet) →
          ((s.slot c).transfer.map f).map Transfer.sheet = (s.slot c).transfer.map Transfer.sheet := fun f hf => by
        cases (s.slot c).transfer <;> simp [hf]
      refine .of_slot (fun h => h.of_sameSheets (by simp) ?_) (.inr fun h => h.of_sameSheets (by simp) ?_) <;>
      · rw [SheetSlot.setBuf_transfer]
        exact hsame _ fun _ => rfl

theorem keepsHeld_enterFault (c : Link) (i : BufId) (k : Nat) (f : FaultCause) (s : State) :
    KeepsHeld s (s.setSlot c ((s.slot c).enterFault i k f)) :=
  (ArbiterStep.of_slots (.enterFault s c i k f) rfl rfl).keepsHeld

theorem keepsHeld_fillComplete (s : State) : KeepsHeld s (fillComplete s) := by
  have freed : KeepsHeld s { s with ss := { s.ss with reader := none } } := .of_eq rfl rfl rfl rfl rfl
  unfold fillComplete
  split
  · dsimp only
    split <;> exact freed.trans (keepsHeld_setBuf _ _ _ { s with ss := { s.ss with reader := none } })
  · exact .refl s

theorem keepsHeld_fillFail (s : State) : KeepsHeld s (fillFail s) := by
  have freed : KeepsHeld s { s with ss := { s.ss with reader := none } } := .of_eq rfl rfl rfl rfl rfl
  have counted : KeepsHeld s ({ s with ss := { s.ss with reader := none } } : State).countPlanFault :=
    .of_eq rfl rfl rfl rfl rfl
  unfold fillFail
  split
  · dsimp only
    split
    · exact freed.trans (keepsHeld_setBuf _ _ _ { s with ss := { s.ss with reader := none } })
    · exact counted.trans (keepsHeld_enterFault _ _ _ _ ({ s with ss := { s.ss with reader := none } } : State).countPlanFault)
  · exact .refl s

end Sys2Proof.Machine
end

section
/-! The crew requests keep all that the links hold (R92 to R100, R139 to R142, R123). -/

namespace Sys2Proof.Machine

/-! ### The first of the best of a list -/

/-- The first member of a list at which `u` is largest. -/
theorem foldl_best (u : Nat → Nat) (z : Nat) (r : List Nat) : ∃ b before after,
    r.foldl (fun best y => if u best < u y then y else best) z = b ∧ z :: r = before ++ b :: after ∧
      (∀ y ∈ before, u y < u b) ∧ ∀ y ∈ after, u y ≤ u b := by
  induction r generalizing z with
  | nil => exact ⟨z, [], [], rfl, rfl, by simp, by simp⟩
  | cons y r ih =>
    rw [List.foldl_cons]
    split
    · rename_i hlt
      obtain ⟨b, before, after, hb, hsplit, hbefore, hafter⟩ := ih y
      have hy : u y ≤ u b := by
        have hmem : y ∈ before ++ b :: after := hsplit ▸ List.mem_cons_self
        rcases List.mem_append.1 hmem with h | h
        · exact (hbefore y h).le
        · rcases List.mem_cons.1 h with h | h
          · rw [h]
          · exact hafter y h
      exact ⟨b, z :: before, after, hb, by rw [hsplit]; rfl, by simpa using ⟨hlt.trans_le hy, hbefore⟩, hafter⟩
    · rename_i hle
      obtain ⟨b, before, after, hb, hsplit, hbefore, hafter⟩ := ih z
      cases before with
      | nil =>
        obtain ⟨rfl, rfl⟩ := List.cons.inj hsplit
        exact ⟨z, [], y :: r, hb, rfl, by simp, by simpa using ⟨not_lt.1 hle, hafter⟩⟩
      | cons x before =>
        obtain ⟨rfl, rfl⟩ := List.cons.inj hsplit
        have hz := hbefore z List.mem_cons_self
        refine ⟨b, z :: y :: before, after, hb, rfl, ?_, hafter⟩
        simpa using ⟨hz, (not_lt.1 hle).trans_lt hz, fun w hw => hbefore w (List.mem_cons_of_mem _ hw)⟩

/-- The attended zone of highest urgency is attended (R97). -/
theorem State.mem_topAttended {s : State} {c : Link} {z : Nat} (h : s.topAttended c = some z) : z ∈ (s.crew c).attended := by
  unfold State.topAttended at h
  split at h
  · cases h
  · rename_i y r heq
    obtain ⟨b, before, after, hb, hsplit, -⟩ := foldl_best s.urgencyOf y r
    rw [heq, hsplit, ← hb, Option.some.inj h]
    simp

/-! ### Acceptance (R93, R94) -/

/-- The collections of a crew that accepts a pending zone, before its marks. -/
def Crew.taken (k : Crew) (z : Nat) : Crew :=
  ({ k with pending := without k.pending z, attended := k.attended ++ [z] } : Crew).endOffer z

theorem marksOnly_dropMark (k : Crew) (z : Nat) : MarksOnly k (k.dropMark z) := rfl

theorem marksOnly_accept (k : Crew) (z : Nat) : MarksOnly (k.taken z) (k.accept z) := by
  unfold Crew.accept
  dsimp only
  split
  · exact marksOnly_dropMark _ z
  · exact (marksOnly_dropMark _ z).trans (marksOnly_setMark ..)
  · exact (marksOnly_dropMark _ z).trans (marksOnly_setMark ..)
  · rfl

theorem Crew.names_endOffer (k : Crew) (z y : Nat) : (k.endOffer z).offer.names y = true ↔ k.offer.names y = true ∧ y ≠ z := by
  rw [Crew.offer_endOffer]
  split
  · rename_i hz
    simp only [Offer.names, Bool.false_eq_true, false_iff, not_and, not_not]
    exact fun hy => Offer.names_unique hy hz
  · rename_i hz
    exact ⟨fun hy => ⟨hy, fun h => hz (h ▸ hy)⟩, And.left⟩

theorem Crew.apart_taken {k : Crew} (h : k.Apart) {z : Nat} (hz : z ∈ k.pending) (hlen : k.attended.length < 8) :
    (k.taken z).Apart := by
  obtain ⟨-, hnd, hpa, hd⟩ := h
  obtain ⟨hza, hzs⟩ := hpa z hz
  unfold Crew.Apart Crew.taken
  simp only [Crew.endOffer_attended, Crew.endOffer_pending, Crew.endOffer_aside, mem_without, List.mem_append,
    List.mem_singleton]
  refine ⟨by simpa using hlen, ?_, fun y hy => ⟨by simpa [hy.2] using (hpa y hy.1).1, (hpa y hy.1).2⟩, fun y hy => ?_⟩
  · exact List.nodup_append.2 ⟨hnd, List.nodup_singleton z, fun a ha b hb => by
      rw [List.mem_singleton.1 hb]
      rintro rfl
      exact hza ha⟩
  · rcases hy with hy | rfl
    · exact hd y hy
    · exact hzs

theorem fits_taken {gone : List Nat} {s : State} {c : Link} {k : Crew} (h : CrewFits gone s c k) {z : Nat}
    (hz : z ∈ k.pending) : CrewFits gone (setAttended c z true s) c (k.taken z) := fun y => by
  obtain ⟨hby, hp, ha, ho⟩ := h y
  rw [attendedBy_setAttended, zoneActive_setAttended, zoneDef_setAttended]
  unfold Crew.taken
  rw [Crew.names_endOffer]
  simp only [Crew.endOffer_attended, Crew.endOffer_pending, Crew.endOffer_aside, Crew.endOffer_live, mem_without,
    List.mem_append, List.mem_singleton]
  refine ⟨?_, fun hy => hp hy.1, ?_, fun hn => ⟨ho hn.1, hn.2⟩⟩
  · split <;> simp_all
  · rintro ((hy | rfl) | hy)
    · exact ha (.inl hy)
    · exact (hp hz).1
    · exact ha (.inr hy)

/-- A crew that takes a pending zone joins the zone's attended-by set. -/
theorem crewFitStep_accepted {c : Link} {z : Nat} {s : State} (hz : z ∈ (s.crew c).pending)
    (hlen : (s.crew c).attended.length < 8) :
    CrewFitStep c s (setAttended c z true (s.modCrew c (fun k => k.accept z))) :=
  .of_attended (fun h => (marksOnly_accept ..).sameLists.apart (Crew.apart_taken h hz hlen))
    fun _ h => (marksOnly_accept ..).sameLists.fits (fits_taken h hz)

theorem sheetStep_autoSheet (c : Link) (z : Nat) (s : State) : SheetStep c s (autoSheet c z s).2 := by
  unfold autoSheet
  split
  · split
    · exact sheetStep_requestSheet c _ s
    · exact .refl c s
  · exact .refl c s

/-! ### Steps of a request -/

/-- A request's effect: it keeps all that the links hold and leaves the links themselves. -/
structure RequestStep (s t : State) : Prop where
  held : KeepsHeld s t
  cl : t.cl = s.cl

theorem RequestStep.refl (s : State) : RequestStep s s := ⟨.refl s, rfl⟩

theorem RequestStep.trans {s t u : State} (h : RequestStep s t) (g : RequestStep t u) : RequestStep s u :=
  ⟨h.held.trans g.held, g.cl.trans h.cl⟩

theorem CrewFitStep.request {c : Link} {s t : State} (h : CrewFitStep c s t) (ha : s.attached c = true) : RequestStep s t :=
  ⟨h.keepsHeld (.inl ha), h.toCrewStep.cl⟩

theorem SheetStep.request {c : Link} {s t : State} (h : SheetStep c s t) (ha : s.attached c = true) : RequestStep s t :=
  ⟨h.keepsHeld (.inl ha), h.only.cl⟩

theorem requestStep_acceptZone {c : Link} {z : Nat} {s : State} (ha : s.attached c = true) (hz : z ∈ (s.crew c).pending)
    (hlen : (s.crew c).attended.length < 8) : RequestStep s (acceptZone c z s).2 := by
  have h := crewFitStep_accepted hz hlen
  exact (h.request ha).trans ((sheetStep_autoSheet c z _).request ((h.toCrewStep.attached c).trans ha))

theorem crewFitStep_endOffer (c : Link) (z : Nat) (s : State) :
    CrewFitStep c s (s.modCrew c (fun k => k.endOffer z)) := by
  have apart : ∀ k : Crew, k.Apart → (k.endOffer z).Apart := fun k h => by
    rw [Crew.endOffer_eq]
    exact h
  refine .of_crew (apart _) fun gone h y => ?_
  obtain ⟨hby, hp, hat, ho⟩ := h y
  rw [Crew.names_endOffer, Crew.endOffer_attended, Crew.endOffer_pending, Crew.endOffer_aside, Crew.endOffer_live]
  exact ⟨hby, hp, hat, fun hn => ho hn.1⟩

theorem requestStep_reqAccept {c : Link} (z : Nat) {s : State} (ha : s.attached c = true) :
    RequestStep s (reqAccept c z s).2.2 := by
  unfold reqAccept
  split
  · exact .refl s
  · split
    · exact .refl s
    · rename_i hz
      split
      · exact (crewFitStep_endOffer c z s).request ha
      · rename_i hlen
        exact requestStep_acceptZone ha (by simpa using hz) (by simpa using hlen)

/-- Of the rank, the zone that is eligible first is pending. -/
theorem State.pending_of_topEligible {s : State} {c : Link} {z : Nat} (h : s.topEligible c = some z) :
    z ∈ (s.crew c).pending := State.mem_rank (List.mem_of_find?_eq_some h)

theorem requestStep_reqPoll {c : Link} {s : State} (ha : s.attached c = true) : RequestStep s (reqPoll c s).2.2 := by
  unfold reqPoll
  split
  · exact .refl s
  · split
    · exact .refl s
    · rename_i hlen
      split
      · exact .refl s
      · rename_i z hz
        exact requestStep_acceptZone ha (State.pending_of_topEligible hz) (by simpa using hlen)

/-! ### Decline and release (R95 to R97) -/

/-- A crew that has declined a pending zone (R95). -/
def Crew.declined (k : Crew) (z : Nat) : Crew :=
  ({ k with pending := without k.pending z, aside := ZSet.place k.aside z } : Crew).endOffer z

theorem crewFitStep_declined {c : Link} {z : Nat} {s : State} (hz : z ∈ (s.crew c).pending) :
    CrewFitStep c s (s.modCrew c (fun k => k.declined z)) := by
  refine .of_crew ?_ fun gone h y => ?_
  · rintro ⟨hlen, hnd, hpa, hd⟩
    unfold Crew.Apart Crew.declined
    simp only [Crew.endOffer_attended, Crew.endOffer_pending, Crew.endOffer_aside, mem_without, ZSet.mem_place]
    refine ⟨hlen, hnd, fun y hy => ⟨(hpa y hy.1).1, ?_⟩, fun y hy => ?_⟩
    · simpa [hy.2] using (hpa y hy.1).2
    · rintro (rfl | hs)
      · exact (hpa y hz).1 hy
      · exact hd y hy hs
  · obtain ⟨hby, hp, ha, ho⟩ := h y
    unfold Crew.declined
    rw [Crew.names_endOffer]
    simp only [Crew.endOffer_attended, Crew.endOffer_pending, Crew.endOffer_aside, Crew.endOffer_live, mem_without,
      ZSet.mem_place]
    refine ⟨hby, fun hy => hp hy.1, ?_, fun hn => ⟨ho hn.1, hn.2⟩⟩
    rintro (hy | rfl | hy)
    · exact ha (.inl hy)
    · exact (hp hz).1
    · exact ha (.inr hy)

theorem requestStep_reqDecline {c : Link} (z : Nat) {s : State} (ha : s.attached c = true) :
    RequestStep s (reqDecline c z s).2.2 := by
  unfold reqDecline
  split
  · exact .refl s
  · split
    · exact .refl s
    · rename_i hz
      exact (crewFitStep_declined (by simpa using hz)).request ha

/-- The collections of a crew that releases an attended zone, before its marks (R96). -/
def Crew.letGo (k : Crew) (z sector : Nat) (rot : Rotation) : Crew :=
  { k with attended := without k.attended z, aside := if inSectors k.live sector then ZSet.place k.aside z else k.aside,
           rc := if rot = .auto then z else k.rc }

theorem marksOnly_release (k : Crew) (z sector : Nat) (rot : Rotation) :
    MarksOnly (k.letGo z sector rot) (k.release z sector rot) := by
  unfold Crew.release
  dsimp only
  split
  · exact marksOnly_dropMark _ z
  · rfl

theorem Crew.mem_aside_letGo {k : Crew} {z sector : Nat} {rot : Rotation} {y : Nat} (h : y ∈ (k.letGo z sector rot).aside) :
    y = z ∨ y ∈ k.aside := by
  simp only [Crew.letGo] at h
  split at h
  · exact (ZSet.mem_place ..).1 h
  · exact .inr h

theorem Crew.apart_letGo {k : Crew} (h : k.Apart) {z : Nat} (hz : z ∈ k.attended) (sector : Nat) (rot : Rotation) :
    (k.letGo z sector rot).Apart := by
  obtain ⟨hlen, hnd, hpa, hd⟩ := h
  have hsub : (without k.attended z).Sublist k.attended := List.filter_sublist
  refine ⟨hsub.length_le.trans hlen, hnd.sublist hsub, fun y hy => ⟨fun ha => (hpa y hy).1 (hsub.subset ha), fun hs => ?_⟩,
    fun y hy hs => ?_⟩
  · rcases Crew.mem_aside_letGo hs with rfl | hs
    · exact (hpa y hy).1 hz
    · exact (hpa y hy).2 hs
  · obtain ⟨hy, hne⟩ := (mem_without ..).1 hy
    rcases Crew.mem_aside_letGo hs with rfl | hs
    · exact hne rfl
    · exact hd y hy hs

theorem fits_letGo {gone : List Nat} {s : State} {c : Link} {k : Crew} (h : CrewFits gone s c k) {z : Nat}
    (hz : z ∈ k.attended) (sector : Nat) (rot : Rotation) :
    CrewFits gone (setAttended c z false s) c (k.letGo z sector rot) := fun y => by
  obtain ⟨hby, hp, ha, ho⟩ := h y
  rw [attendedBy_setAttended, zoneActive_setAttended, zoneDef_setAttended]
  refine ⟨?_, hp, ?_, ho⟩
  · show _ ↔ y ∈ without k.attended z
    rw [mem_without]
    split <;> simp_all
  · rintro (hy | hy)
    · exact ha (.inl ((mem_without ..).1 hy).1)
    · rcases Crew.mem_aside_letGo hy with rfl | hy
      · exact ha (.inl hz)
      · exact ha (.inr hy)

theorem crewFitStep_releaseZone {c : Link} {z : Nat} {s : State} (hz : z ∈ (s.crew c).attended) :
    CrewFitStep c s (releaseZone c z s) :=
  .of_attended (fun h => (marksOnly_release ..).sameLists.apart (Crew.apart_letGo h hz _ _))
    fun _ h => (marksOnly_release ..).sameLists.fits (fits_letGo h hz _ _)

theorem requestStep_reqRelease {c : Link} (z : Nat) {s : State} (ha : s.attached c = true) :
    RequestStep s (reqRelease c z s).2.2 := by
  unfold reqRelease
  split
  · exact .refl s
  · split
    · exact .refl s
    · rename_i hz
      exact (crewFitStep_releaseZone (by simpa using hz)).request ha

theorem requestStep_reqReleaseTop {c : Link} {s : State} (ha : s.attached c = true) :
    RequestStep s (reqReleaseTop c s).2.2 := by
  unfold reqReleaseTop
  split
  · exact .refl s
  · rename_i z hz
    exact (crewFitStep_releaseZone (State.mem_topAttended hz)).request ha

/-! ### New sectors (R100) -/

/-- The collections under a new sector set, before the offer. -/
def Crew.within (k : Crew) (w : Word16) (inside : Nat → Bool) : Crew :=
  { k with live := w, pending := k.pending.filter inside, aside := k.aside.filter inside }

/-- The offer under a new sector set: one of a zone outside ends (R90, R100). -/
def Offer.within (o : Offer) (inside : Nat → Bool) : Offer :=
  match o with
  | .none => .none
  | .due z => if inside z then o else .none
  | .out z _ => if inside z then o else .none

theorem Offer.names_within (o : Offer) (inside : Nat → Bool) (z : Nat) :
    (o.within inside).names z = true ↔ o.names z = true ∧ inside z = true := by
  cases o with
  | none => simp [Offer.within, Offer.names]
  | due y | out y d =>
    by_cases hy : inside y = true
    · simp only [Offer.within, hy, if_true, Offer.names, beq_iff_eq, iff_self_and]
      rintro rfl
      exact hy
    · simp only [Offer.within, hy, if_false, Offer.names, beq_iff_eq, Bool.false_eq_true, false_iff, not_and]
      rintro rfl
      exact hy

theorem marksOnly_newSectors (k : Crew) (w : Word16) (inside : Nat → Bool) :
    MarksOnly { k.within w inside with offer := k.offer.within inside } (k.newSectors w inside) := by
  unfold Crew.newSectors Crew.within Offer.within
  dsimp only
  cases k.offer with
  | none => rfl
  | due z =>
    dsimp only
    split <;> rfl
  | out z d =>
    dsimp only
    split
    · rfl
    · exact marksOnly_setMark ..

theorem crewFitStep_newSectors (c : Link) (w : Word16) (s : State) :
    CrewFitStep c s (s.modCrew c (fun k => k.newSectors w (s.zoneIn w))) := by
  refine .of_crew (fun h => (marksOnly_newSectors ..).sameLists.apart ?_)
    fun gone h => (marksOnly_newSectors ..).sameLists.fits fun y => ?_
  · obtain ⟨hlen, hnd, hpa, hd⟩ := h
    refine ⟨hlen, hnd, fun y hy => ?_, fun y hy hs => hd y hy (List.mem_filter.1 hs).1⟩
    have := hpa y (List.mem_filter.1 hy).1
    exact ⟨this.1, fun hs => this.2 (List.mem_filter.1 hs).1⟩
  · obtain ⟨hby, hp, ha, ho⟩ := h y
    refine ⟨hby, fun hy => ⟨(hp (List.mem_filter.1 hy).1).1, (List.mem_filter.1 hy).2⟩,
      fun hy => ha (hy.imp_right fun hs => (List.mem_filter.1 hs).1), fun hn => ?_⟩
    obtain ⟨hn, hi⟩ := (Offer.names_within ..).1 hn
    exact List.mem_filter.2 ⟨ho hn, hi⟩

theorem crewFitStep_reqSectors (c : Link) (w : Word16) (s : State) : CrewFitStep c s (reqSectors c w s).2.2 :=
  (crewFitStep_newSectors c w s).trans (crewFitStep_admitAll c _)

/-! ### Sound links -/

/-- What R111, R112, R117, R125 and R126 ask of an ATTACHED link. -/
theorem LinkUnit.sound_iff {u : LinkUnit} (ha : u.state = .attached) : u.Sound ↔
    u.rxHeld ≤ 64 ∧ u.replies.length ≤ 4 ∧ u.txFifo.length ≤ 64 ∧ (u.receiver = .waitMarking → u.asm = .hunting) ∧
      u.tx ≠ .highZ ∧ u.ctrlReady ≠ .highZ := by
  simp [LinkUnit.Sound, ha]

theorem LinkUnit.judgeReady_highZ (u : LinkUnit) : u.judgeReady.ctrlReady = .highZ ↔ u.ctrlReady = .highZ := by
  unfold LinkUnit.judgeReady
  cases h : u.ctrlReady with
  | high | low =>
    dsimp only
    split <;> simp [h]
  | highZ => simp [h]

theorem LinkUnit.state_judgeReady (u : LinkUnit) : u.judgeReady.state = u.state := by rw [judgeReady_eq]

/-- Controller-ready judged leaves an ATTACHED link sound (R122). -/
theorem LinkUnit.sound_judgeReady {u : LinkUnit} (ha : u.state = .attached) (h : u.Sound) : u.judgeReady.Sound := by
  have hz := u.judgeReady_highZ
  have hj := u.state_judgeReady
  rw [LinkUnit.sound_iff ha] at h
  rw [LinkUnit.sound_iff (hj.trans ha)]
  obtain ⟨hrx, hrep, htx, hrec, hout, hready⟩ := h
  rw [judgeReady_eq] at hz ⊢
  exact ⟨hrx, hrep, htx, hrec, hout, mt hz.1 hready⟩

/-- An ATTACHED link rewritten soundly. -/
theorem KeepsHeld.of_attached {s : State} {c : Link} {u : LinkUnit} (hu : u.state = .attached)
    (h : (s.link c).Sound → u.Sound) : KeepsHeld s (s.setLink c u) :=
  .of_link (fun hn => absurd hu hn) h

/-! ### Requests handed and answered (R92, R123) -/

theorem State.canHand_iff (s : State) (c : Link) :
    s.canHand c = true ↔ s.attached c = true ∧ (s.link c).replies.length < 4 := by simp [State.canHand]

/-- A reply placed in a queue that has room (R125). -/
theorem LinkUnit.sound_replied {u : LinkUnit} (ha : u.state = .attached) (h : u.Sound) (hlen : u.replies.length < 4)
    (r : Reply) : LinkUnit.Sound { u with replies := u.replies ++ [r] } := by
  rw [LinkUnit.sound_iff ha] at h
  rw [LinkUnit.sound_iff (u := { u with replies := u.replies ++ [r] }) ha]
  obtain ⟨hrx, -, hrest⟩ := h
  exact ⟨hrx, by simpa using hlen, hrest⟩

theorem keepsHeld_placeReply {c : Link} {s : State} (h : s.canHand c = true) (r : Reply) :
    KeepsHeld s (placeReply c r s) := by
  obtain ⟨ha, hlen⟩ := (s.canHand_iff c).1 h
  have hu := (s.attached_iff c).1 ha
  exact .of_attached hu fun hs => LinkUnit.sound_replied hu hs hlen r

theorem RequestStep.canHand {s t : State} (h : RequestStep s t) {c : Link} (hc : s.canHand c = true) :
    t.canHand c = true := by
  rw [State.canHand, State.attached_of_cl h.cl, State.link_of_cl h.cl]
  exact hc

theorem attached_placeReply (c d : Link) (r : Reply) (s : State) : (placeReply c r s).attached d = s.attached d := by
  unfold State.attached placeReply
  rw [State.link_modLink]
  split
  · rename_i hd
    rw [hd]
  · rfl

theorem keepsHeld_answerSS {c : Link} {kind : Byte} {a : Answer} {s : State} (h : RequestStep s a.2.2)
    (hc : s.canHand c = true) : KeepsHeld s (answerSS c kind a) :=
  h.held.trans (keepsHeld_placeReply (h.canHand hc) _)

theorem keepsHeld_answerNR {c : Link} {kind : Byte} {a : Answer} {s : State} (h : RequestStep s a.2.2)
    (hc : s.canHand c = true) : KeepsHeld s (answerNR c kind a) := by
  have hc' := h.canHand hc
  have ha := ((a.2.2).canHand_iff c).1 hc' |>.1
  exact (keepsHeld_answerSS (kind := kind) h hc).trans
    ((crewFitStep_offerStep c _).keepsHeld (.inl ((attached_placeReply ..).trans ha)))

/-- Every request is answered by one of the two blocks that answer crews. -/
theorem takeRequest_answer {c : Link} {s : State} (ha : s.attached c = true) (kind : Byte) (r : Request) :
    ∃ a : Answer, RequestStep s a.2.2 ∧
      (takeRequest c kind r s = answerNR c kind a ∨ takeRequest c kind r s = answerSS c kind a) := by
  cases r with
  | accept z => exact ⟨_, requestStep_reqAccept z ha, .inl rfl⟩
  | decline z => exact ⟨_, requestStep_reqDecline z ha, .inl rfl⟩
  | release z => exact ⟨_, requestStep_reqRelease z ha, .inl rfl⟩
  | releaseTop => exact ⟨_, requestStep_reqReleaseTop ha, .inl rfl⟩
  | poll => exact ⟨_, requestStep_reqPoll ha, .inl rfl⟩
  | list => exact ⟨reqList c s, .refl s, .inl rfl⟩
  | sectors w => exact ⟨reqSectors c w s, (crewFitStep_reqSectors c w s).request ha, .inl rfl⟩
  | sheetById i => exact ⟨(_, [], _), (sheetStep_requestSheet c i s).request ha, .inr rfl⟩
  | sheetByZone z => exact ⟨_, (sheetStep_requestByZone c z s).request ha, .inr rfl⟩
  | stopNamed i => exact ⟨(_, [], _), (sheetStep_stopSheet c i s).request ha, .inr rfl⟩
  | stopAll => exact ⟨(_, [], _), (sheetStep_stopAllSheets c s).request ha, .inr rfl⟩
  | unknown =>
    refine ⟨(.unknown, [], s), .refl s, ?_⟩
    rw [takeRequest]
    split
    · exact .inr rfl
    · exact .inl rfl

theorem keepsHeld_takeRequest {c : Link} {s : State} (hc : s.canHand c = true) (kind : Byte) (r : Request) :
    KeepsHeld s (takeRequest c kind r s) := by
  obtain ⟨a, ha, h | h⟩ := takeRequest_answer ((s.canHand_iff c).1 hc).1 kind r <;> rw [h]
  · exact keepsHeld_answerNR ha hc
  · exact keepsHeld_answerSS ha hc

/-- A link whose oldest waiting request leaves the FIFO (R123). -/
theorem LinkUnit.sound_handed {u : LinkUnit} (ha : u.state = .attached) (h : u.Sound) {w : List Byte} {rest : List (List Byte)}
    (hw : u.waiting = w :: rest) : ({ u with waiting := rest } : LinkUnit).judgeReady.Sound := by
  refine LinkUnit.sound_judgeReady (u := { u with waiting := rest }) ha ?_
  rw [LinkUnit.sound_iff ha] at h
  rw [LinkUnit.sound_iff (u := { u with waiting := rest }) ha]
  obtain ⟨hrx, hrest⟩ := h
  refine ⟨?_, hrest⟩
  rw [LinkUnit.rxHeld, hw, List.map_cons, List.sum_cons] at hrx
  show (rest.map List.length).sum + u.asm.held.length ≤ 64
  omega

theorem keepsHeld_handOldest (c : Link) (s : State) : KeepsHeld s (handOldest c s) := by
  unfold handOldest
  split
  · exact .refl s
  · rename_i w rest hw
    split
    · rename_i hc
      obtain ⟨ha, hlen⟩ := (s.canHand_iff c).1 hc
      have hu := (s.attached_iff c).1 ha
      have hstate := (LinkUnit.state_judgeReady { s.link c with waiting := rest }).trans hu
      refine (KeepsHeld.of_attached hstate fun h => LinkUnit.sound_handed hu h hw).trans (keepsHeld_takeRequest ?_ _ _)
      refine (State.canHand_iff _ c).2 ⟨(State.attached_iff _ c).2 ?_, ?_⟩
      · rw [State.link_setLink_self]
        exact hstate
      · rw [State.link_setLink_self, LinkUnit.judgeReady_eq]
        exact hlen
    · exact .refl s

theorem keepsHeld_handWaiting (c : Link) (s : State) : KeepsHeld s (handWaiting c s) := by
  have next : ∀ {u}, KeepsHeld s u → KeepsHeld s (handOldest c u) := fun h => h.trans (keepsHeld_handOldest c _)
  exact next (next (next (next (.refl s))))

theorem keepsHeld_crewRow (c : Link) (kind : Byte) (r : Request) (s : State) : KeepsHeld s (crewRow c kind r s) :=
  .whenRunning (.ite fun h => (keepsHeld_takeRequest h kind r).settle)

end Sys2Proof.Machine
end

section
/-! The crew link lines, receivers and transmitters keep all that the links hold (R111 to R129). -/

namespace Sys2Proof.Machine

/-! ### Writes on one link -/

theorem PerLink.set_set {α : Type} (q : PerLink α) (c : Link) (x y : α) : (q.set c x).set c y = q.set c y := by
  cases c <;> rfl

theorem State.modLink_modLink (s : State) (c : Link) (f g : LinkUnit → LinkUnit) :
    (s.modLink c f).modLink c g = s.modLink c (fun u => g (f u)) := by
  unfold State.modLink
  rw [State.link_setLink_self]
  unfold State.setLink
  rw [PerLink.set_set]

/-- An ATTACHED link with another receiver, assembler and receive FIFO (R111, R117). -/
theorem LinkUnit.Sound.received {u v : LinkUnit} (h : u.Sound) (ha : u.state = .attached)
    (hv : v = { u with rx := v.rx, receiver := v.receiver, asm := v.asm, waiting := v.waiting, rxErrors := v.rxErrors })
    (hrx : v.rxHeld ≤ 64) (hwait : v.receiver = .waitMarking → v.asm = .hunting) : v.Sound := by
  have hstate : v.state = .attached := by
    rw [hv]
    exact ha
  rw [LinkUnit.sound_iff ha] at h
  obtain ⟨-, hrep, htx, -, hout, hready⟩ := h
  rw [LinkUnit.sound_iff hstate]
  refine ⟨hrx, ?_, ?_, hwait, ?_, ?_⟩ <;> rw [hv] <;> assumption

theorem LinkUnit.giveUp_state (u : LinkUnit) (a : Asm) : (u.giveUp a).state = u.state :=
  LinkUnit.state_judgeReady _

/-- A frame given up for an assembler that holds nothing leaves an ATTACHED link sound (R118, R121). -/
theorem LinkUnit.sound_giveUp {u : LinkUnit} (ha : u.state = .attached) (h : u.Sound) (ch : LineChar) {a : Asm}
    (hheld : a.held = []) (hwait : (u.heard ch).receiver = .waitMarking → a = .hunting) : ((u.heard ch).giveUp a).Sound := by
  refine LinkUnit.sound_judgeReady (u := ({ u.heard ch with asm := a } : LinkUnit).countError) ha
    (h.received ha rfl ?_ hwait)
  have hrx := ((LinkUnit.sound_iff ha).1 h).1
  rw [LinkUnit.rxHeld] at hrx
  show (u.waiting.map List.length).sum + a.held.length ≤ 64
  rw [hheld]
  simp only [List.length_nil]
  omega

theorem LinkUnit.sound_giveUp_hunting {u : LinkUnit} (ha : u.state = .attached) (h : u.Sound) :
    (u.giveUp .hunting).Sound := by
  refine LinkUnit.sound_judgeReady (u := ({ u with asm := .hunting } : LinkUnit).countError) ha
    (h.received ha rfl ?_ fun _ => rfl)
  have hrx := ((LinkUnit.sound_iff ha).1 h).1
  rw [LinkUnit.rxHeld] at hrx
  show (u.waiting.map List.length).sum + ([] : List Byte).length ≤ 64
  simp only [List.length_nil]
  omega

theorem keepsHeld_giveUp {s : State} {c : Link} (ha : s.attached c = true) :
    KeepsHeld s (s.modLink c (fun u => u.giveUp .hunting)) :=
  have hu := (s.attached_iff c).1 ha
  .of_attached ((LinkUnit.giveUp_state ..).trans hu) (LinkUnit.sound_giveUp_hunting hu)

/-- A link's pins. -/
theorem keepsHeld_pins {s : State} {c : Link} {u : LinkUnit}
    (hu : u = { s.link c with presence := u.presence, termReady := u.termReady }) : KeepsHeld s (s.setLink c u) := by
  refine .of_link (fun hn => ?_) fun h => ?_
  · rw [hu] at hn
    exact hn
  · rw [hu]
    exact h

/-! ### Characters from a terminal (R111, R117 to R120) -/

theorem Asm.length_push (a : Asm) (b : Byte) : (a.push b).held.length ≤ a.held.length + 1 := by
  cases a <;> simp [Asm.push, Asm.held]

theorem keepsHeld_rxBack (c : Link) (back : Bool) (s : State) : KeepsHeld s (rxBack c back s) := by
  refine .ite fun hb => ?_
  have hu := (s.attached_iff c).1 hb.2
  refine .of_attached hu fun h => h.received hu rfl ((LinkUnit.sound_iff hu).1 h).1 fun hw => ?_
  have hwait : (s.link c).receiver = .waitMarking → (s.link c).asm = .hunting := ((LinkUnit.sound_iff hu).1 h).2.2.2.1
  rcases Receiver.follow_cases (s.link c).receiver (s.link c).rx .marking false with
    ⟨-, -, hm, -⟩ | ⟨-, -, hm, -⟩ | ⟨-, -, hf⟩ | hf
  · cases hm
  · cases hm
  · cases hf.symm.trans hw
  · exact hwait (hf.symm.trans hw)

/-- A link with a completed frame put last among its waiting requests (R119). -/
def LinkUnit.queued (u : LinkUnit) (buf : List Byte) : LinkUnit :=
  ({ u with asm := .hunting, waiting := u.waiting ++ [buf] } : LinkUnit).judgeReady

theorem keepsHeld_crewFrameDone {c : Link} {s : State} (ha : s.attached c = true) (reg : Word16) :
    KeepsHeld s (crewFrameDone c (s.link c).asm.held reg s) := by
  have hu := (s.attached_iff c).1 ha
  unfold crewFrameDone
  split
  · have queued : KeepsHeld s (s.modLink c (fun u => u.queued (s.link c).asm.held)) := by
      refine .of_attached ((LinkUnit.state_judgeReady _).trans hu) fun h => LinkUnit.sound_judgeReady
        (u := { s.link c with asm := .hunting, waiting := (s.link c).waiting ++ [(s.link c).asm.held] }) hu
        (h.received hu rfl ?_ fun _ => rfl)
      have hrx := ((LinkUnit.sound_iff hu).1 h).1
      rw [LinkUnit.rxHeld] at hrx
      simpa [LinkUnit.rxHeld, Asm.held] using hrx
    exact (queued.trans (keepsHeld_handWaiting c _)).settle
  · exact keepsHeld_giveUp ha

/-- A link that stores a decoded byte of the frame in progress (R117). -/
def LinkUnit.stored (u : LinkUnit) (b : Byte) : LinkUnit := ({ u with asm := u.asm.push b } : LinkUnit).judgeReady

theorem LinkUnit.stored_asm (u : LinkUnit) (b : Byte) : (u.stored b).asm = u.asm.push b := by
  rw [LinkUnit.stored, judgeReady_eq]

theorem keepsHeld_crewByte {c : Link} {s : State} (ha : s.attached c = true) (hr : (s.link c).receiver ≠ .waitMarking)
    (b : Byte) : KeepsHeld s (crewByte c b s) := by
  have hu := (s.attached_iff c).1 ha
  unfold crewByte
  dsimp only
  split
  · exact keepsHeld_giveUp ha
  · rename_i hfree
    have hstate : ((s.link c).stored b).state = .attached := (LinkUnit.state_judgeReady _).trans hu
    have stored : KeepsHeld s (s.modLink c (fun u => u.stored b)) := by
      refine .of_attached hstate fun h => LinkUnit.sound_judgeReady
        (u := { s.link c with asm := (s.link c).asm.push b }) hu (h.received hu rfl ?_ fun hw => absurd hw hr)
      have hpush := Asm.length_push (s.link c).asm b
      simp only [LinkUnit.rxFree, LinkUnit.rxHeld, Config.rxFifoSize] at hfree
      show ((s.link c).waiting.map List.length).sum + ((s.link c).asm.push b).held.length ≤ 64
      omega
    have hlink : (s.modLink c (fun u => u.stored b)).link c = (s.link c).stored b := State.link_modLink_self ..
    have ha' : (s.modLink c (fun u => u.stored b)).attached c = true := by
      rw [State.attached_iff, hlink]
      exact hstate
    have hasm : (s.link c).asm.push b = ((s.modLink c (fun u => u.stored b)).link c).asm := by
      rw [hlink, LinkUnit.stored_asm]
    change KeepsHeld s (match crewFrameSize ((s.link c).asm.push b).held with
      | none => s.modLink c (fun u => u.stored b)
      | some n => if n < 5 ∨ 16 < n then (s.modLink c (fun u => u.stored b)).modLink c (fun u => u.giveUp .hunting)
        else if ((s.link c).asm.push b).held.length = n then
          crewFrameDone c ((s.link c).asm.push b).held ((s.link c).asm.push b).crcReg (s.modLink c (fun u => u.stored b))
        else s.modLink c (fun u => u.stored b))
    split
    · exact stored
    · split
      · exact stored.trans (keepsHeld_giveUp ha')
      · split
        · refine stored.trans ?_
          rw [hasm]
          exact keepsHeld_crewFrameDone ha' _
        · exact stored

theorem Asm.take_byte {a : Asm} {ch : LineChar} {b : Byte} (h : a.take ch = .byte b) : ∃ g, ch = .good g := by
  cases ch with
  | good g => exact ⟨g, rfl⟩
  | framingError => cases a <;> cases h

theorem Asm.take_good {a : Asm} {ch : LineChar} (h : a.take ch = .opened ∨ a.take ch = .reopened ∨ a.take ch = .escaped) :
    receiverAfter ch = .idle := by
  cases ch with
  | good g => rfl
  | framingError => cases a <;> simp [Asm.take] at h

theorem Asm.take_ignored {a : Asm} {ch : LineChar} (h : a.take ch = .ignored) : a = .hunting := by
  cases a with
  | hunting => rfl
  | collecting buf esc r =>
    cases ch with
    | good g =>
      simp only [Asm.take] at h
      repeat' split at h
      all_goals cases h
    | framingError => cases h

theorem Asm.held_withEscape (a : Asm) : a.withEscape.held = a.held := by cases a <;> rfl

/-- A link whose receiver completes a character and whose assembler takes it, with no more bytes held (R111, R117). -/
theorem keepsHeld_heard {c : Link} {s : State} (ha : s.attached c = true) (ch : LineChar) {a : Asm}
    (hheld : a.held.length ≤ (s.link c).asm.held.length) (hwait : receiverAfter ch = .waitMarking → a = .hunting) :
    KeepsHeld s (s.setLink c { (s.link c).heard ch with asm := a }) := by
  have hu := (s.attached_iff c).1 ha
  refine .of_attached hu fun h => h.received hu rfl ?_ hwait
  have hrx := ((LinkUnit.sound_iff hu).1 h).1
  rw [LinkUnit.rxHeld] at hrx
  show ((s.link c).waiting.map List.length).sum + a.held.length ≤ 64
  omega

theorem keepsHeld_heard_giveUp {c : Link} {s : State} (ha : s.attached c = true) (ch : LineChar) {a : Asm}
    (hheld : a.held = []) (hwait : receiverAfter ch = .waitMarking → a = .hunting) :
    KeepsHeld s (s.setLink c (((s.link c).heard ch).giveUp a)) :=
  have hu := (s.attached_iff c).1 ha
  .of_attached ((LinkUnit.giveUp_state ..).trans hu) fun h => LinkUnit.sound_giveUp hu h ch hheld hwait

theorem keepsHeld_crewChar (c : Link) (ch : LineChar) (s : State) : KeepsHeld s (crewChar c ch s) := by
  refine .ite fun hc => ?_
  obtain ⟨ha, -⟩ := hc
  have idle : receiverAfter ch = .idle → ∀ a : Asm, receiverAfter ch = .waitMarking → a = .hunting := fun hi _ hw => by
    cases hi.symm.trans hw
  dsimp only
  cases ht : (s.link c).asm.take ch with
  | ignored =>
    have hh := Asm.take_ignored ht
    exact keepsHeld_heard ha ch le_rfl fun _ => hh
  | opened =>
    have hi := Asm.take_good (.inl ht)
    dsimp only
    rw [State.modLink_modLink]
    exact keepsHeld_heard ha ch (a := Asm.fresh) (Nat.zero_le _) (idle hi _)
  | reopened =>
    have hi := Asm.take_good (.inr (.inl ht))
    dsimp only
    rw [State.modLink_modLink]
    exact keepsHeld_heard_giveUp ha ch (a := Asm.fresh) rfl (idle hi _)
  | escaped =>
    have hi := Asm.take_good (.inr (.inr ht))
    dsimp only
    rw [State.modLink_modLink]
    exact keepsHeld_heard ha ch (le_of_eq (congrArg List.length (Asm.held_withEscape _))) (idle hi _)
  | bad =>
    dsimp only
    rw [State.modLink_modLink]
    exact keepsHeld_heard_giveUp ha ch (a := .hunting) rfl fun _ => rfl
  | byte b =>
    obtain ⟨g, rfl⟩ := Asm.take_byte ht
    have heard : KeepsHeld s (s.modLink c (fun u => u.heard (.good g))) := keepsHeld_heard ha _ le_rfl (idle rfl _)
    have hlink : (s.modLink c (fun u => u.heard (.good g))).link c = (s.link c).heard (.good g) :=
      State.link_modLink_self ..
    refine heard.trans (keepsHeld_crewByte ?_ ?_ b)
    · rw [State.attached_iff, hlink]
      exact (s.attached_iff c).1 ha
    · rw [hlink]
      exact fun h => by cases h

/-! ### Characters to a terminal (R126, R129) -/

theorem keepsHeld_takeChar (c : Link) (s : State) : KeepsHeld s (takeChar c s) := by
  refine .ite fun hc => ?_
  have hu := (s.attached_iff c).1 hc.1
  split
  · exact .refl s
  · rename_i ch rest hq
    have taken : KeepsHeld s (s.setLink c { s.link c with txFifo := rest, tx := .sending ch }) := by
      refine .of_attached hu fun h => ?_
      rw [LinkUnit.sound_iff hu] at h
      rw [LinkUnit.sound_iff (u := { s.link c with txFifo := rest, tx := .sending ch }) hu]
      obtain ⟨hrx, hrep, htx, hrec, -, hready⟩ := h
      rw [hq, List.length_cons] at htx
      exact ⟨hrx, hrep, show rest.length ≤ 64 by omega, hrec, (by simp), hready⟩
    refine (taken.trans (ArbiterStep.keepsHeld (arbiterStep_writerFill ?_))).settle
    rw [State.attached_iff, State.link_setLink_self]
    exact hu

/-! ### Completion of a frame (R107, R129) -/

theorem crewFitStep_offerComplete (c : Link) (z : Nat) (s : State) : CrewFitStep c s (offerComplete c z s) := by
  unfold offerComplete
  dsimp only
  split
  · rename_i hz
    refine .of_crew id fun gone h y => ?_
    obtain ⟨hby, hp, ha, -⟩ := h y
    refine ⟨hby, hp, ha, fun hn => ?_⟩
    have hy : (z == y) = true := hn
    rw [beq_iff_eq.1 hy] at hz
    exact List.contains_iff_mem.1 hz
  · split
    · exact .refl c s
    · exact .of_sameLists (marksOnly_setMark ..).sameLists

theorem crewFitStep_noticeComplete (c : Link) (s : State) : CrewFitStep c s (noticeComplete c s) := by
  unfold noticeComplete
  split
  · exact .refl c s
  · rename_i f _
    have completed : ∀ {t}, CrewFitStep c s t →
        CrewFitStep c s (offerStep c (t.modCrew c (fun k => { k with flight := none }))) := fun {t} h =>
      (h.trans (.of_sameLists (k := { t.crew c with flight := none }) rfl)).trans (crewFitStep_offerStep c _)
    refine completed ?_
    cases f.kind with
    | system => exact .of_sameLists rfl
    | mark m =>
      refine .of_sameLists ?_
      show Crew.SameLists _ ((s.crew c).markComplete m f.zone f.renewed)
      unfold Crew.markComplete
      split <;> rfl
    | offer => exact crewFitStep_offerComplete c f.zone s

theorem noticeComplete_idle {c : Link} {s : State} (h : (s.crew c).flight = none) : noticeComplete c s = s := by
  unfold noticeComplete
  rw [h]

/-- A notice in flight is of a crew that holds something. -/
theorem keepsHeld_noticeComplete (c : Link) (s : State) : KeepsHeld s (noticeComplete c s) := by
  cases h : (s.crew c).flight with
  | none =>
    rw [noticeComplete_idle h]
    exact .refl s
  | some f =>
    refine (crewFitStep_noticeComplete c s).keepsHeld (.inr fun he => ?_)
    rw [he] at h
    cases h

theorem LinkUnit.sound_replyLeft {u : LinkUnit} (h : u.Sound) : LinkUnit.Sound { u with replies := u.replies.drop 1 } := by
  obtain ⟨hrx, hrep, htx, hrec, hout, hready, hlow, hidle⟩ := h
  refine ⟨hrx, ((List.drop_sublist ..).length_le).trans hrep, htx, hrec, hout, hready, hlow, fun hn => ?_⟩
  obtain ⟨h1, h2, h3, h4, h5, h6⟩ := hidle hn
  exact ⟨h1, h2, h3, congrArg (List.drop 1) h4, h5, h6⟩

/-- A frame is written on an ATTACHED link only, and its last character needs a place (R129). -/
theorem LinkUnit.Sound.written {u : LinkUnit} (h : u.Sound) {w : Writing} (hw : u.writing = some w)
    (hlen : u.txFifo.length < 64) (b : Byte) :
    LinkUnit.Sound { u with writing := none, txFifo := u.txFifo ++ [b] } := by
  obtain ⟨hrx, hrep, htx, hrec, hout, hready, hlow, hidle⟩ := h
  refine ⟨hrx, hrep, by simpa using hlen, hrec, hout, hready, hlow, fun hn => ?_⟩
  obtain ⟨-, -, -, -, hnone, -⟩ := hidle hn
  cases hw.symm.trans hnone

theorem keepsHeld_ownerComplete (c : Link) (o : Owner) (s : State) : KeepsHeld s (ownerComplete c o s) := by
  cases o with
  | reply =>
    have left : KeepsHeld s (s.modLink c (fun u => { u with replies := u.replies.drop 1 })) :=
      .of_link id LinkUnit.sound_replyLeft
    exact left.trans (keepsHeld_handWaiting c _)
  | notice => exact keepsHeld_noticeComplete c s
  | sheet i => exact keepsHeld_spanComplete c i s

theorem keepsHeld_frameWritten (c : Link) (s : State) : KeepsHeld s (frameWritten c s) := by
  unfold frameWritten
  dsimp only
  split
  · rename_i o ch hw
    split
    · rename_i hlen
      have written : KeepsHeld s (s.setLink c { s.link c with writing := none, txFifo := (s.link c).txFifo ++ [ch.ch] }) :=
         .of_link id fun h => h.written hw hlen ch.ch
      have drained := ArbiterStep.of_slots (arbitersOnly_noteDrained c o (dataCount [ch])
        (s.setLink c { s.link c with writing := none, txFifo := (s.link c).txFifo ++ [ch.ch] }))
        (noteDrained_cl_nr ..).2 (noteDrained_cl_nr ..).1
      exact ((written.trans drained.keepsHeld).trans (keepsHeld_ownerComplete c o _)).settle
    · exact .refl s
  · exact .refl s

end Sys2Proof.Machine
end

section
/-! Links that enter and leave ATTACHED (R79, R80, R112 to R116, R143): what a detach drops, and that all the links hold is
kept. -/

namespace Sys2Proof.Machine

/-! ### Attach (R79, R114) -/

/-- A link as it enters ATTACHED (R111, R114, R126). -/
def LinkUnit.attachedAt (u : LinkUnit) (rx : Level) : LinkUnit :=
  { u with state := .attached, rx := rx, ctrlReady := .high, receiver := receiverAtAttach rx, asm := .hunting,
           waiting := [], replies := [], writing := none, txFifo := [], tx := .marking }

theorem LinkUnit.sound_attachedAt (u : LinkUnit) (rx : Level) : (u.attachedAt rx).Sound :=
  (LinkUnit.sound_iff rfl).2 ⟨Nat.zero_le _, Nat.zero_le _, Nat.zero_le _, fun _ => rfl, (by simp [attachedAt]),
    (by simp [attachedAt])⟩

/-- The state as a link enters ATTACHED and its crew takes its profile's sectors, before any zone is pending (R79, R114). -/
def State.joining (s : State) (c : Link) (rx : Level) : State :=
  (s.modLink c (fun u => u.attachedAt rx)).setCrew c { Crew.empty with live := (s.profile c).sectors }

theorem State.crew_joining (s : State) (c : Link) (rx : Level) :
    (s.joining c rx).crew c = { Crew.empty with live := (s.profile c).sectors } := State.crew_setCrew_self ..

theorem attachLink_eq (c : Link) (rx : Level) (s : State) :
    attachLink c rx s = offerStep c ((admitAll c (s.joining c rx)).modCrew c Crew.setSystemDue) := rfl

/-- A crew's attach after its empty state has taken the profile's sectors (R79). -/
theorem crewFitStep_attach (c : Link) (s : State) :
    CrewFitStep c s (offerStep c ((admitAll c s).modCrew c Crew.setSystemDue)) :=
  ((crewFitStep_admitAll c s).trans (.of_sameLists (k := ((admitAll c s).crew c).setSystemDue) rfl)).trans
    (crewFitStep_offerStep c _)

theorem Crew.apart_empty (w : Word16) : Crew.Apart { Crew.empty with live := w } := by simp [Crew.Apart, Crew.empty]

/-- A crew that held nothing still agrees with the picture once it has live sectors. -/
theorem CrewFits.of_empty_live {gone : List Nat} {s : State} {c : Link} (h : CrewFits gone s c Crew.empty) (w : Word16) :
    CrewFits gone s c { Crew.empty with live := w } := fun z => by
  simpa [Crew.empty, Offer.names] using (h z).1

theorem crewStep_joining (c : Link) (rx : Level) (s : State) :
    CrewStep c (s.modLink c (fun u => u.attachedAt rx)) (s.joining c rx) := .setCrew fun _ => Crew.apart_empty _

theorem keepsHeld_attachLink {c : Link} {s : State} (hs : (s.link c).state ≠ .attached) (rx : Level) :
    KeepsHeld s (attachLink c rx s) := by
  have linked : KeepsHeld s (s.modLink c (fun u => u.attachedAt rx)) :=
    .of_attached rfl fun _ => (s.link c).sound_attachedAt rx
  have ha : (s.modLink c (fun u => u.attachedAt rx)).attached c = true := by
    rw [State.attached_iff, State.link_modLink_self]
    rfl
  have joined := crewFitStep_attach c (s.joining c rx)
  have step := (crewStep_joining c rx s).trans joined.toCrewStep
  refine ⟨linked.toKeepsLists.trans (step.keepsLists (.inl ha)), fun hw => step.wf (linked.wf hw),
    fun hl hw hc => (crewsInv_iff _).2 fun d => ?_⟩
  have hd := (crewsInv_iff _).1 (linked.crews hl hw hc) d
  by_cases hdc : d = c
  · subst hdc
    refine joined.fits [] ?_
    rw [State.crew_joining]
    have he : (s.modLink d (fun u => u.attachedAt rx)).crew d = Crew.empty := hl.crew_empty hs
    rw [he] at hd
    exact hd.of_empty_live _
  · exact step.fits_other hdc hd

/-! ### What a link drops as it leaves ATTACHED (R80, R115, R143) -/

/-- A link that has left ATTACHED for a state (R112, R115). -/
def LinkUnit.left (u : LinkUnit) (st : LinkState) : LinkUnit :=
  { u with state := st, ctrlReady := if st = .disabled then .highZ else .low, receiver := .idle, asm := .hunting,
           waiting := [], replies := [], writing := none, txFifo := [], tx := if st = .disabled then st.restTx else u.tx }

/-- A crew's sheets after its link's detach (R143). -/
def SheetSlot.detached (x : SheetSlot) : SheetSlot :=
  { queue := [], transfer := none, bufA := x.bufA.detach, bufB := x.bufB.detach }

theorem SheetSlot.buf_detached (x : SheetSlot) (i : BufId) : x.detached.buf i = (x.buf i).detach := by cases i <;> rfl

theorem zone_unattended (c : Link) (l : List Nat) (s : State) (y : Nat) :
    (l.foldl (fun s z => setAttended c z false s) s).zone y =
      if y ∈ l then { s.zone y with attendedBy := (s.zone y).attendedBy.set c false } else s.zone y := by
  induction l generalizing s with
  | nil => rfl
  | cons z l ih =>
    rw [List.foldl_cons, ih, zone_setAttended]
    by_cases hz : y = z
    · subst hz
      simp [PerLink.set_set]
    · simp [hz]

theorem zone_unattendAll (c : Link) (s : State) (y : Nat) : (unattendAll c s).zone y =
    if y ∈ (s.crew c).attended then { s.zone y with attendedBy := (s.zone y).attendedBy.set c false } else s.zone y :=
  zone_unattended c _ s y

theorem crewStep_unattendAll (c : Link) (s : State) : CrewStep c s (unattendAll c s) :=
  .foldl (fun s z => CrewStep.setAttended c z false s) _ s

section leaveAttached
variable (c : Link) (st : LinkState) (s : State)

theorem leaveAttached_eq : leaveAttached c st s =
    ((unattendAll c (s.modLink c (fun u => u.left st))).setCrew c Crew.empty).setSlot c (s.slot c).detached := by
  have hslot : ((unattendAll c (s.modLink c (fun u => u.left st))).setCrew c Crew.empty).slot c = s.slot c :=
    (crewStep_unattendAll c _).slot c
  unfold SheetSlot.detached
  rw [← hslot]
  rfl

theorem leaveAttached_frame : leaveAttached c st s = { s with
    zp := { s.zp with live := (leaveAttached c st s).zp.live }, nr := (leaveAttached c st s).nr,
    cl := (leaveAttached c st s).cl, ss := { s.ss with slots := (leaveAttached c st s).ss.slots } } := by
  rw [leaveAttached_eq, (crewStep_unattendAll c _).frame]
  rfl

theorem link_leaveAttached (d : Link) : (leaveAttached c st s).link d = if d = c then (s.link c).left st else s.link d := by
  rw [leaveAttached_eq]
  exact ((crewStep_unattendAll c _).link d).trans (State.link_modLink ..)

theorem crew_leaveAttached (d : Link) : (leaveAttached c st s).crew d = if d = c then Crew.empty else s.crew d := by
  rw [leaveAttached_eq, State.crew_setSlot, State.crew_setCrew, crew_unattendAll]
  rfl

theorem slot_leaveAttached (d : Link) : (leaveAttached c st s).slot d = if d = c then (s.slot c).detached else s.slot d := by
  rw [leaveAttached_eq, State.slot_setSlot]
  split
  · rfl
  · exact (crewStep_unattendAll c _).slot d

theorem zone_leaveAttached (y : Nat) : (leaveAttached c st s).zone y =
    if y ∈ (s.crew c).attended then { s.zone y with attendedBy := (s.zone y).attendedBy.set c false } else s.zone y := by
  rw [leaveAttached_eq]
  exact zone_unattendAll c _ y

theorem wf_leaveAttached (hw : Tab.wf ZoneLive.start s.zp.live = true) :
    Tab.wf ZoneLive.start (leaveAttached c st s).zp.live = true := by
  rw [leaveAttached_eq]
  exact (crewStep_unattendAll c _).wf hw
end leaveAttached

theorem LinkUnit.sound_left {u : LinkUnit} {st : LinkState} (hu : u.state = .attached) (hst : st ≠ .attached)
    (h : u.Sound) : (u.left st).Sound := by
  have htx := ((LinkUnit.sound_iff hu).1 h).2.2.2.2.1
  cases st with
  | attached => exact absurd rfl hst
  | detached | disabled => simp [LinkUnit.Sound, LinkUnit.left, LinkUnit.rxHeld, Asm.held, LinkState.restTx, htx]

theorem keepsHeld_leaveAttached {c : Link} {st : LinkState} {s : State} (hs : (s.link c).state = .attached)
    (hst : st ≠ .attached) : KeepsHeld s (leaveAttached c st s) := by
  refine ⟨⟨fun h => (collectionsInv_iff _).2 fun d => ?_, fun h => (sheetQueueInv_iff _).2 fun d => ?_,
    fun h => (linksInv_iff _).2 fun d => ?_⟩, wf_leaveAttached c st s, fun _ _ h => (crewsInv_iff _).2 fun d z => ?_⟩
  · rw [crew_leaveAttached]
    split
    · exact Crew.apart_empty 0
    · exact h d
  · rw [slot_leaveAttached]
    split
    · exact SheetSlot.Idle.sound ⟨rfl, rfl⟩
    · exact (sheetQueueInv_iff s).1 h d
  · rw [link_leaveAttached, crew_leaveAttached, slot_leaveAttached]
    split
    · exact ⟨LinkUnit.sound_left hs hst (h.sound c), fun _ => ⟨rfl, rfl, rfl⟩⟩
    · exact (linksInv_iff s).1 h d
  · have hact : (leaveAttached c st s).zoneActive z = s.zoneActive z := by
      rw [State.zoneActive, zone_leaveAttached]
      split <;> rfl
    have hdef : (leaveAttached c st s).zoneDef z = s.zoneDef z := by
      rw [leaveAttached_frame]
      rfl
    obtain ⟨hby, hrest⟩ := (crewsInv_iff s).1 h d z
    rw [crew_leaveAttached, hact, hdef, zone_leaveAttached]
    by_cases hd : d = c
    · subst hd
      by_cases hz : z ∈ (s.crew d).attended
      · simp [hz, Crew.empty, Offer.names]
      · simpa [hz, Crew.empty, Offer.names] using hby
    · rw [if_neg hd]
      refine ⟨?_, hrest⟩
      rw [← hby]
      split
      · rw [PerLink.get_set, if_neg hd]
      · rfl

/-! ### LINK_DISABLE and LINK_ENABLE (R116) -/

theorem keepsHeld_disableLink (c : Link) (s : State) : KeepsHeld s (disableLink c s) := by
  unfold disableLink
  split
  · exact .refl s
  · rename_i hs
    refine .of_link (fun _ => by simp [hs]) fun h => ?_
    obtain ⟨hrx, hrep, htx, hrec, -, -, -, hidle⟩ := h
    exact ⟨hrx, hrep, htx, hrec, (by simp [LinkState.restTx]), (by simp), (by simp), fun _ => hidle (by simp [hs])⟩
  · rename_i hs
    exact keepsHeld_leaveAttached hs (by decide)

theorem keepsHeld_enableLink (c : Link) (s : State) : KeepsHeld s (enableLink c s) := by
  unfold enableLink
  split
  · rename_i hs
    refine .of_link (fun _ => by simp [hs]) fun h => ?_
    obtain ⟨hrx, hrep, htx, hrec, -, -, -, hidle⟩ := h
    exact ⟨hrx, hrep, htx, hrec, (by simp [LinkState.restTx]), (by simp), (by simp), fun _ => hidle (by simp [hs])⟩
  · exact .refl s

theorem keepsHeld_setRotation (c : Link) (v : Nat) (s : State) : KeepsHeld s (setRotation c v s) := by
  refine .ite fun ha => ?_
  have rotated : CrewFitStep c s (s.modCrew c (fun k => { k with rc := v })) :=
    .of_sameLists (k := { s.crew c with rc := v }) rfl
  exact (rotated.trans (crewFitStep_offerStep c _)).keepsHeld (.inl ha)

theorem keepsHeld_profileWritten (c : Link) (s : State) : KeepsHeld s (profileWritten c s) :=
  .ite fun ha => (crewFitStep_offerStep c s).keepsHeld (.inl ha)

end Sys2Proof.Machine
end

section
/-! The Management Responder, the trunk and the starts keep all that the links hold. -/

namespace Sys2Proof.Machine

/-! ### Trunk state and picture status (R16, R104, R184) -/

namespace KeepsHeld

theorem modPort {s t : State} (h : KeepsHeld s t) (p : Port) (f : PortUnit → PortUnit) : KeepsHeld s (t.modPort p f) :=
  h.trans (of_eq rfl rfl rfl rfl rfl)

theorem reply {s t : State} (h : KeepsHeld s t) (src : Byte) (id : Word16) (r : MgmtResult) (d : List Byte) :
    KeepsHeld s (reply src id r d t) :=
  h.trans (of_eq (reply_nr ..) (reply_cl ..) (congrArg _ (reply_ss ..)) (reply_zp ..) (congrArg _ (reply_tables ..)))

theorem controlled {s t : State} (h : KeepsHeld s t) (x : Control) : KeepsHeld s { t with sc := x } :=
  h.trans (of_eq rfl rfl rfl rfl rfl)

theorem systemDueAll {s t : State} (h : KeepsHeld s t) : KeepsHeld s (systemDueAll t) :=
  h.trans (eachLink_rel (R := KeepsHeld) KeepsHeld.trans (fun c u => .ite fun ha =>
    CrewFitStep.keepsHeld (c := c) (.of_sameLists (k := (u.crew c).setSystemDue) rfl) (.inl ha)) t)

theorem setStatus {s t : State} (h : KeepsHeld s t) (st : PictureStatus) : KeepsHeld s (setStatus st t) := by
  have hs := h.controlled { t.sc with status := st }
  unfold Machine.setStatus
  dsimp only
  split
  · exact hs
  · exact hs.systemDueAll

theorem callResync {s t : State} (h : KeepsHeld s t) : KeepsHeld s (callResync t) :=
  ((h.setStatus .resyncing).trans (of_eq (t := giveOwn 0x00#8 kResyncCall [] (Machine.setStatus .resyncing t))
    rfl rfl rfl rfl rfl)).controlled _

end KeepsHeld

theorem keepsHeld_setUp (p : Port) (up : Bool) (s : State) : KeepsHeld s (setUp p up s) := by
  have placed : KeepsHeld s (s.setPort p { s.port p with up := up }) := .of_eq rfl rfl rfl rfl rfl
  unfold setUp trunkChanged
  dsimp only
  split
  · exact placed
  · split
    · exact (placed.systemDueAll.controlled _).setStatus .stale
    · split
      · exact placed.systemDueAll.callResync
      · exact placed.systemDueAll

theorem keepsHeld_resyncDone (s : State) : KeepsHeld s (resyncDone s) :=
  .ite fun _ => ((KeepsHeld.refl s).controlled _).setStatus .current

theorem keepsHeld_resyncExpires (s : State) : KeepsHeld s (resyncExpires s) :=
  ((KeepsHeld.refl s).controlled _).setStatus .current

/-! ### The Management Responder (R157 to R178) -/

theorem keepsHeld_setTables {r : Retained} {s : State} (h : r.defs = s.tables.defs) : KeepsHeld s (setTables r s) :=
  .of_eq rfl rfl rfl rfl h

theorem keepsHeld_mapInsert (e : MapEntry) (s : State) : KeepsHeld s (mapInsert e s).2.2 := by
  unfold mapInsert
  split
  · exact .refl s
  · split
    · exact .refl s
    · split
      · exact .refl s
      · exact keepsHeld_setTables rfl

theorem keepsHeld_mapDelete (n f : Nat) (s : State) : KeepsHeld s (mapDelete n f s).2 := by
  unfold mapDelete
  split
  · exact .refl s
  · split
    · exact keepsHeld_setTables rfl
    · exact .refl s

theorem keepsHeld_writeMap (i : Nat) (e : MapEntry) (s : State) : KeepsHeld s (writeMap i e s).2 := by
  unfold writeMap
  dsimp only
  split
  · exact .refl s
  · split
    · exact .refl s
    · split
      · exact .refl s
      · exact keepsHeld_setTables rfl

theorem keepsHeld_writeFallback (n z : Nat) (s : State) : KeepsHeld s (writeFallback n z s).2 := by
  unfold writeFallback
  split
  · exact .refl s
  · split
    · exact .refl s
    · exact keepsHeld_setTables rfl

/-- A zone's definition is written only while the zone is QUIET, when no crew holds it (R164). -/
theorem keepsHeld_zoneDef {z : Nat} {d : ZoneDef} {s : State} (hq : (s.zone z).cond = .quiet) :
    KeepsHeld s (setTables { s.tables with defs := Tab.put ZoneDef.cold s.tables.defs z d } s) := by
  refine ⟨.of_eq rfl rfl rfl, id, fun _ _ h c y => ?_⟩
  obtain ⟨hby, hp, ha, ho⟩ := h c y
  refine ⟨hby, fun hy => ⟨(hp hy).1, ?_⟩, ha, ho⟩
  have hne : y ≠ z := by
    rintro rfl
    have hact := (hp hy).1
    rw [State.zoneActive, hq] at hact
    cases hact
  have hdef : (setTables { s.tables with defs := Tab.put ZoneDef.cold s.tables.defs z d } s).zoneDef y = s.zoneDef y :=
    Tab.get_put_ne _ _ _ hne
  rw [hdef]
  exact (hp hy).2

theorem keepsHeld_writeZoneDef (z : Nat) (d : ZoneDef) (s : State) : KeepsHeld s (writeZoneDef z d s).2 := by
  unfold writeZoneDef
  split
  · exact .refl s
  · split
    · exact .refl s
    · split
      · exact .refl s
      · rename_i hq
        exact keepsHeld_zoneDef (by simpa using hq)

theorem keepsHeld_writeBonus (cls b : Nat) (s : State) : KeepsHeld s (writeBonus cls b s).2 := by
  unfold writeBonus
  split
  · exact .refl s
  · split
    · exact .refl s
    · exact keepsHeld_setConfig _ s

theorem keepsHeld_writeSheet (i : Nat) (r : SheetRec) (s : State) : KeepsHeld s (writeSheet i r s).2 := by
  unfold writeSheet
  split
  · exact keepsHeld_setTables rfl
  · exact .refl s

theorem keepsHeld_writeProfile (n : Nat) (p : Profile) (s : State) : KeepsHeld s (writeProfile n p s).2 := by
  unfold writeProfile
  split
  · exact .refl s
  · rename_i c _
    have written := keepsHeld_setTables (s := s) (r := { s.tables with profiles := s.tables.profiles.set c p }) rfl
    exact written.trans (keepsHeld_profileWritten _ _)

theorem keepsHeld_writeConfig (src : Byte) (id : Word16) (i : Nat) (t : ConfigTable) (s : State) :
    KeepsHeld s (writeConfig src id i t s) := by
  have refused : ∀ c, KeepsHeld s (reply src id c [] s) := fun c => (KeepsHeld.refl s).reply _ _ c _
  unfold writeConfig
  split
  · exact refused _
  · split
    · exact refused _
    · split
      · exact refused _
      · split
        · exact (keepsHeld_setConfig t s).reply _ _ _ _
        · exact ((refused _).trans (keepsHeld_setConfig t _)).trans (.of_eq rfl rfl rfl rfl rfl)

theorem keepsHeld_planStage (o : Nat) (bs : List Byte) (s : State) : KeepsHeld s (planStage o bs s).2 := by
  unfold planStage
  split
  · exact .refl s
  · exact .of_eq rfl rfl rfl rfl rfl

theorem keepsHeld_readerRequest (src : Byte) (id : Word16) (op : Byte) (r : MgmtResult) (w : WaitingOp) (s : State) :
    KeepsHeld s (readerRequest src id op r w s) := by
  unfold readerRequest
  split
  · exact .of_eq rfl rfl rfl rfl rfl
  · exact (KeepsHeld.refl s).reply _ _ _ _

theorem keepsHeld_clearCounters (s : State) : KeepsHeld s (clearCounters s) := by
  refine ⟨⟨id, id, fun h => (linksInv_iff _).2 fun c => ?_⟩, id, fun _ _ => id⟩
  rw [link_clearCounters]
  exact (linksInv_iff s).1 h c

theorem keepsHeld_linkCommand {f : Link → State → State} {s : State} (hf : ∀ c, KeepsHeld s (f c s)) (src : Byte)
    (id : Word16) (n : Nat) : KeepsHeld s (linkCommand f src id n s) := by
  unfold linkCommand
  split
  · exact (KeepsHeld.refl s).reply _ _ _ _
  · exact (hf _).reply _ _ _ _

theorem keepsHeld_rotationCommand (src : Byte) (id : Word16) (n v : Nat) (s : State) :
    KeepsHeld s (rotationCommand src id n v s) := by
  unfold rotationCommand
  split
  · exact (KeepsHeld.refl s).reply _ _ _ _
  · split
    · exact (KeepsHeld.refl s).reply _ _ _ _
    · exact (keepsHeld_setRotation _ v s).reply _ _ _ _

theorem keepsHeld_carryOut (src : Byte) (id : Word16) (r : MgmtReq) (s : State) : KeepsHeld s (carryOut src id r s) := by
  cases r with
  | tableRead t i => exact (KeepsHeld.refl s).reply _ _ _ _
  | writeMap i e => exact (keepsHeld_writeMap i e s).reply _ _ _ _
  | writeFallback i z => exact (keepsHeld_writeFallback i z s).reply _ _ _ _
  | writeZoneDef i d => exact (keepsHeld_writeZoneDef i d s).reply _ _ _ _
  | writeBonus i b => exact (keepsHeld_writeBonus i b s).reply _ _ _ _
  | writeSheet i x => exact (keepsHeld_writeSheet i x s).reply _ _ _ _
  | writeProfile i p => exact (keepsHeld_writeProfile i p s).reply _ _ _ _
  | writeConfig i t => exact keepsHeld_writeConfig src id i t s
  | mapInsert e => exact (keepsHeld_mapInsert e s).reply _ _ _ _
  | mapDelete n f => exact (keepsHeld_mapDelete n f s).reply _ _ _ _
  | mapClear => exact (keepsHeld_setTables (r := { s.tables with map := [] }) rfl).reply _ _ _ _
  | planStage o bs => exact (keepsHeld_planStage o bs s).reply _ _ _ _
  | planCommit p => exact keepsHeld_readerRequest _ _ _ _ _ s
  | planRead p o n => exact keepsHeld_readerRequest _ _ _ _ _ s
  | zoneRead z =>
    simp only [carryOut]
    split <;> exact (KeepsHeld.refl s).reply _ _ _ _
  | statusRead clear => exact (KeepsHeld.ite fun _ => keepsHeld_clearCounters s).reply _ _ _ _
  | pictureClear => exact (keepsHeld_pictureClear s).callResync.reply _ _ _ _
  | setRotation n v => exact keepsHeld_rotationCommand src id n v s
  | linkDisable n => exact keepsHeld_linkCommand (fun c => keepsHeld_disableLink c s) src id n
  | linkEnable n => exact keepsHeld_linkCommand (fun c => keepsHeld_enableLink c s) src id n
  | configSave => exact .of_eq rfl rfl rfl rfl rfl

theorem keepsHeld_takeMgmt (src : Byte) (id : Word16) (op : Byte) (args : List Byte) (s : State) :
    KeepsHeld s (takeMgmt src id op args s) := by
  have refused : ∀ c, KeepsHeld s (reply src id c [] s) := fun c => (KeepsHeld.refl s).reply _ _ c _
  unfold takeMgmt
  split
  · exact refused _
  · split
    · exact refused _
    · split
      · exact refused _
      · exact refused _
      · exact refused _
      · split
        · exact refused _
        · exact keepsHeld_carryOut src id _ s

theorem keepsHeld_mgmtRow (src : Byte) (id : Word16) (op : Byte) (args : List Byte) (s : State) :
    KeepsHeld s (mgmtRow src id op args s) :=
  KeepsHeld.whenRunning (keepsHeld_takeMgmt src id op args s).settle

theorem keepsHeld_completeRequest (r : MgmtResult) (d : List Byte) (s : State) :
    KeepsHeld s (completeRequest r d s) := by
  unfold completeRequest
  split
  · exact .refl s
  · exact (KeepsHeld.of_eq (s := s) (t := { s with mr := none }) rfl rfl rfl rfl rfl).reply _ _ _ _

theorem keepsHeld_programDone (ok : Bool) (s : State) : KeepsHeld s (programDone ok s) := by
  unfold programDone
  split
  · rename_i p bytes _
    have h : KeepsHeld s (finishProgram ok p bytes s).2 := by
      cases ok <;> exact .of_eq rfl rfl rfl rfl rfl
    exact (h.trans (keepsHeld_completeRequest _ _ _)).settle
  · exact .refl s

theorem keepsHeld_planReadDone (ok : Bool) (s : State) : KeepsHeld s (planReadDone ok s) := by
  unfold planReadDone
  split
  · rename_i p o n _
    have h : KeepsHeld s (finishRead ok p o n s).2.2 := by
      cases ok <;> exact .of_eq rfl rfl rfl rfl rfl
    exact (h.trans (keepsHeld_completeRequest _ _ _)).settle
  · exact .refl s

/-! ### Frames received (R1 to R12) -/

theorem keepsHeld_hand (f : Frame) (s : State) : KeepsHeld s (hand f s) := by
  unfold hand
  split
  · split
    · exact keepsHeld_pointEvent _ s
    · exact .refl s
  · split
    · exact keepsHeld_panelReset s
    · split
      · split
        · exact keepsHeld_zoneIsolate _ _ s
        · exact .refl s
      · split
        · split
          · exact .of_eq rfl rfl rfl rfl rfl
          · exact .refl s
        · split
          · exact keepsHeld_resyncDone s
          · split
            · unfold takeMgmtPayload
              split
              · exact keepsHeld_takeMgmt _ _ _ _ s
              · exact .refl s
            · exact .refl s

theorem keepsHeld_handTests (p : Port) (f : Frame) (s : State) : KeepsHeld s (handTests p f s) := by
  unfold handTests
  split
  · exact .modPort (.refl s) p _
  · split
    · exact .refl s
    · exact (KeepsHeld.of_eq (s := s) (t := setSeq f s) rfl rfl rfl rfl rfl).trans (keepsHeld_hand f _)

theorem keepsHeld_dispatch (p : Port) (f : Frame) (s : State) : KeepsHeld s (dispatch p f s) := by
  have repeated : KeepsHeld s (s.modPort (otherPort p) (PortUnit.placeRepeat f)) := .modPort (.refl s) _ _
  unfold dispatch
  dsimp only
  split
  · exact .refl s
  · split
    · exact .modPort (.refl s) p _
    · split
      · exact .ite fun _ => keepsHeld_handTests p f s
      · split
        · exact repeated.trans (keepsHeld_handTests p f _)
        · exact repeated

theorem keepsHeld_soundFrame (p : Port) (f : Frame) (s : State) : KeepsHeld s (soundFrame p f s) := by
  have staged := (keepsHeld_setUp p true s).modPort p (fun u => { u with stage := some f })
  have handed := staged.trans (keepsHeld_dispatch p f _)
  exact (handed.modPort p (fun u => { u with stage := none })).settle

theorem keepsHeld_trunkFrameDone (p : Port) (buf : List Byte) (reg : Word16) (s : State) :
    KeepsHeld s (trunkFrameDone p buf reg s) := by
  have hunting := KeepsHeld.modPort (.refl s) p (fun u => { u with asm := .hunting })
  unfold trunkFrameDone
  dsimp only
  split
  · split
    · exact hunting.trans (keepsHeld_soundFrame p _ _)
    · exact hunting
  · exact hunting.modPort p _

theorem keepsHeld_trunkByte (p : Port) (b : Byte) (s : State) : KeepsHeld s (trunkByte p b s) := by
  unfold trunkByte
  dsimp only
  split
  · exact .modPort (.refl s) p _
  · split
    · exact keepsHeld_trunkFrameDone p _ _ s
    · exact .modPort (.refl s) p _

theorem keepsHeld_trunkChar (p : Port) (ch : LineChar) (s : State) : KeepsHeld s (trunkChar p ch s) := by
  have heard := KeepsHeld.modPort (.refl s) p (fun u => { u with receiver := receiverAfter ch })
  unfold trunkChar
  dsimp only
  split
  · exact .refl s
  · cases (s.port p).asm.take ch with
    | ignored => exact heard
    | byte b => exact heard.trans (keepsHeld_trunkByte p b _)
    | _ => exact heard.modPort p _

/-! ### Starts (R179 to R183) -/

/-- Whatever stood before, a state in which the links, the crews and the slots hold nothing keeps what they hold. -/
theorem KeepsHeld.of_emptied {s t : State} (hcrew : ∀ c, t.crew c = Crew.empty) (hslot : ∀ c, t.slot c = SheetSlot.empty)
    (hlink : ∀ c, (t.link c).Sound) (hz : t.zp = { live := [], floors := [] }) : KeepsHeld s t := by
  have hzone : ∀ z, t.zone z = ZoneLive.start := fun z => by rw [State.zone, hz, Tab.get_nil]
  refine ⟨⟨fun _ => (collectionsInv_iff t).2 fun c => ?_, fun _ => (sheetQueueInv_iff t).2 fun c => ?_,
    fun _ => (linksInv_iff t).2 fun c => ?_⟩, fun _ => ?_, fun _ _ _ => (crewsInv_iff t).2 fun c => ?_⟩
  · rw [hcrew]
    exact Crew.apart_empty 0
  · rw [hslot]
    exact SheetSlot.Idle.sound ⟨rfl, rfl⟩
  · rw [hcrew, hslot]
    exact ⟨hlink c, fun _ => ⟨rfl, rfl, rfl⟩⟩
  · rw [hz]
    exact Tab.wf_nil _
  · rw [hcrew]
    exact fits_of_start hzone rfl rfl rfl rfl

theorem LinkUnit.sound_start {st : LinkState} {out : ReadyOut} (h : st = .disabled ∧ out = .highZ ∨ st = .detached ∧ out = .low)
    (presence termReady : Bool) (rx : Level) : (LinkUnit.start st out presence termReady rx).Sound := by
  rcases h with ⟨rfl, rfl⟩ | ⟨rfl, rfl⟩ <;>
    simp [LinkUnit.Sound, LinkUnit.start, LinkUnit.rxHeld, Asm.held, LinkState.restTx]

/-- Every link after a start. -/
theorem sound_startLinks {st : LinkState} {out : ReadyOut} (h : st = .disabled ∧ out = .highZ ∨ st = .detached ∧ out = .low)
    (q : PerLink LinkUnit) (c : Link) : ((startLinks st out q).get c).Sound := by
  cases c <;> exact LinkUnit.sound_start h ..

theorem keepsHeld_workingStart {s u : State} {relay : Relay} {st : LinkState} {out : ReadyOut}
    (h : st = .disabled ∧ out = .highZ ∨ st = .detached ∧ out = .low) : KeepsHeld s (workingStart relay st out u) :=
  .of_emptied (fun c => by cases c <;> rfl) (fun c => by cases c <;> rfl) (sound_startLinks h _) rfl

theorem keepsHeld_loseWorking (s : State) : KeepsHeld s (loseWorking s) := keepsHeld_workingStart (.inl ⟨rfl, rfl⟩)

theorem keepsHeld_beginStart (s : State) : KeepsHeld s (beginStart s) := by
  rw [beginStart_eq]
  exact .of_emptied (fun c => by cases c <;> rfl) (fun c => by cases c <;> rfl)
    (sound_startLinks (.inl ⟨rfl, rfl⟩) _) rfl

theorem keepsHeld_finishStart (ok : Bool) (s : State) : KeepsHeld s (finishStart ok s) :=
  (keepsHeld_workingStart (.inr ⟨rfl, rfl⟩)).callResync

/-! ### Every command -/

/-- What a command answers keeps all that the links hold. -/
theorem keepsHeld_exec (i : Instr) (s : State) : ∃ t, exec i s = .next t ∧ KeepsHeld s t := by
  cases i with
  | trunkFrameComplete p b | trunkCharacterReceived p b => exact ⟨_, rfl, .whenRunning (keepsHeld_trunkChar p _ s)⟩
  | trunkFrameDiscard p ch => exact ⟨_, rfl, .whenRunning (keepsHeld_trunkChar p ch s)⟩
  | trunkPartialFrameTimeout p => exact ⟨_, rfl, .whenRunning (.ite fun _ => .modPort (.refl s) p _)⟩
  | breakTimerExpiry p | silenceTimerExpiry p =>
    exact ⟨_, rfl, .whenRunning (.ite fun _ => (keepsHeld_setUp p false s).settle)⟩
  | stripHoldExpiry | uptimeTick => exact ⟨_, rfl, .whenRunning (.of_eq rfl rfl rfl rfl rfl)⟩
  | trunkTransmitComplete p => exact ⟨_, rfl, .whenRunning (.modPort (.refl s) p _)⟩
  | trunkReceiveLevelChange p l => exact ⟨_, rfl, .modPort (.refl s) p _⟩
  | verifyWindowExpiry z => exact ⟨_, rfl, .whenRunning (.ite fun _ => (keepsHeld_windowExpires z s).settle)⟩
  | ageStep z => exact ⟨_, rfl, .whenRunning (.ite fun _ => (keepsHeld_ageStepFalls z s).settle)⟩
  | offerTimeout c =>
    refine ⟨_, rfl, .whenRunning (.ite fun h => KeepsHeld.settle ?_)⟩
    have ended : CrewFitStep c s (s.modCrew c (fun k => { k with offer := .none })) :=
      .of_crew id fun _ hf y => ⟨(hf y).1, (hf y).2.1, (hf y).2.2.1, fun hn => by cases hn⟩
    exact (ended.trans (crewFitStep_offerStep c _)).keepsHeld (.inl (Bool.and_eq_true_iff.1 h).1)
  | resyncTimeout => exact ⟨_, rfl, .whenRunning (.ite fun _ => (keepsHeld_resyncExpires s).settle)⟩
  | presenceChange c high | terminalReadyChange c high => exact ⟨_, rfl, keepsHeld_pins rfl⟩
  | linkAttach a =>
    refine ⟨_, rfl, .whenRunning (.ite fun h => (keepsHeld_attachLink ?_ a.rx).settle)⟩
    rw [h.1]
    decide
  | linkDetach c => exact ⟨_, rfl, .whenRunning (.ite fun h => keepsHeld_leaveAttached h.1 (by decide))⟩
  | crewFrameComplete c b | receiveOverrun c b => exact ⟨_, rfl, .whenRunning (keepsHeld_crewChar c _ s)⟩
  | crewFrameDiscard c ch => exact ⟨_, rfl, .whenRunning (keepsHeld_crewChar c ch s)⟩
  | crewCharacterReceived c b =>
    exact ⟨_, rfl, .whenRunning ((keepsHeld_rxBack c b.back s).trans (keepsHeld_crewChar c _ _))⟩
  | crewPartialFrameTimeout c => exact ⟨_, rfl, .whenRunning (.ite fun h => keepsHeld_giveUp h.1)⟩
  | crewCharacterTaken c => exact ⟨_, rfl, .whenRunning (keepsHeld_takeChar c s)⟩
  | crewFrameWritten c => exact ⟨_, rfl, .whenRunning (keepsHeld_frameWritten c s)⟩
  | accept c | decline c | release c | sectors c | sheetReqById c | sheetReqByZone c | sheetStopNamed c | releaseTop c
  | poll c | list c | sheetStopAll c | unknownRequest c => exact ⟨_, rfl, keepsHeld_crewRow c _ _ s⟩
  | fillReadComplete => exact ⟨_, rfl, .whenRunning (.ite fun _ => (keepsHeld_fillComplete s).settle)⟩
  | fillReadFail => exact ⟨_, rfl, .whenRunning (.ite fun _ => (keepsHeld_fillFail s).settle)⟩
  | programComplete ok => exact ⟨_, rfl, .whenRunning (keepsHeld_programDone ok s)⟩
  | planReadComplete ok => exact ⟨_, rfl, .whenRunning (keepsHeld_planReadDone ok s)⟩
  | start => exact ⟨_, rfl, keepsHeld_beginStart s⟩
  | startComplete ok => exact ⟨_, rfl, .ite fun _ => keepsHeld_finishStart ok s⟩
  | holdoverLow => exact ⟨_, rfl, by split <;> exact .of_eq rfl rfl rfl rfl rfl⟩
  | mainPowerLoss => exact ⟨_, rfl, .ite fun _ => (keepsHeld_loseWorking s).controlled _⟩
  | _ => exact ⟨_, exec_of_requestOf rfl s, keepsHeld_mgmtRow _ _ _ _ s⟩

theorem keepsHeld_step {s t : State} (h : step s = .next t) : KeepsHeld s t := by
  unfold step at h
  split at h
  · obtain rfl := Host.Outcome.next.inj h
    exact .refl s
  · rename_i c rest _
    obtain ⟨u, hu, hkeeps⟩ := keepsHeld_exec c (s.withPending rest)
    obtain rfl := Host.Outcome.next.inj (hu.symm.trans h)
    exact (KeepsHeld.of_eq (s := s) (t := s.withPending rest) rfl rfl rfl rfl rfl).trans hkeeps

/-- Settles O56: every step is one of those that keep all that the links hold. -/
theorem stepKeepsCollections : Obligations.StepKeepsCollections := by
  unfold Obligations.StepKeepsCollections
  refine ⟨fun s t hc h => (keepsHeld_step h).apart hc, fun s t hl hp hc h => ?_⟩
  obtain ⟨hwf, -⟩ := hp
  exact (keepsHeld_step h).crews hl hwf hc

/-- Settles O57: every step is one of those that keep all that the links hold. -/
theorem stepKeepsLinkQueues : Obligations.StepKeepsLinkQueues := by
  unfold Obligations.StepKeepsLinkQueues
  exact ⟨fun s t hl h => (keepsHeld_step h).links hl, fun s t hq h => (keepsHeld_step h).queues hq⟩

end Sys2Proof.Machine
end

section
/-! What the arbiters begin on one link, link by link (R128, R144, R145): the end of an event as one link sees it. -/

namespace Sys2Proof.Machine

/-! ### The writer and the frame arbiter leave the other links -/

theorem slot_noteDrained_other {c d : Link} (h : d ≠ c) (o : Owner) (n : Nat) (s : State) :
    (noteDrained c o n s).slot d = s.slot d := by
  unfold noteDrained
  split
  · rw [State.slot_setSlot, if_neg h]
  · rfl

theorem slot_writerFill_other {c d : Link} (h : d ≠ c) (s : State) : (writerFill c s).slot d = s.slot d := by
  unfold writerFill
  dsimp only
  split
  · rfl
  · exact slot_noteDrained_other h _ _ _

theorem link_beginFrame (c d : Link) (o : Owner) (cs : List OutChar) (s : State) : (beginFrame c o cs s).link d =
    if d = c then ({ s.link c with writing := some ⟨o, cs⟩ } : LinkUnit).filled else s.link d := by
  rw [beginFrame, link_writerFill, State.link_modLink_self]
  split
  · rfl
  · rw [State.link_modLink, if_neg ‹_›]

theorem crew_beginFrame (c d : Link) (o : Owner) (cs : List OutChar) (s : State) :
    (beginFrame c o cs s).crew d = s.crew d := crew_writerFill c d _

theorem slot_beginFrame_other {c d : Link} (h : d ≠ c) (o : Owner) (cs : List OutChar) (s : State) :
    (beginFrame c o cs s).slot d = s.slot d := slot_writerFill_other h _

/-- `t` is `s` but for the attended-by sets, the crews, the links and the Sheet Streamer. -/
def LinksOnly (s t : State) : Prop :=
  t = { s with zp := { s.zp with live := t.zp.live }, nr := t.nr, cl := t.cl, ss := t.ss }

theorem LinksOnly.trans {s t u : State} (h : LinksOnly s t) (g : LinksOnly t u) : LinksOnly s u := by
  unfold LinksOnly at *
  rw [g, h]

theorem LinksOnly.of_arbitersOnly {s t : State} (h : ArbitersOnly s t) : LinksOnly s t := by
  unfold LinksOnly
  rw [h.1]

theorem StreamerOnly.linksOnly {s t : State} (h : StreamerOnly s t) : LinksOnly s t := by
  unfold LinksOnly
  rw [h]

theorem CrewStep.linksOnly {c : Link} {s t : State} (h : CrewStep c s t) : LinksOnly s t := by
  unfold LinksOnly
  rw [h.frame]

/-- With the picture left alone only the crews, the links and the Sheet Streamer are touched. -/
theorem LinksOnly.of_zp {s t : State} (h : LinksOnly s t) (hz : t.zp = s.zp) :
    t = { s with nr := t.nr, cl := t.cl, ss := t.ss } := by
  rw [← hz]
  rw [h]

/-- What a link holds: its unit, its crew and its sheets. -/
def State.SameLink (s t : State) (d : Link) : Prop := t.link d = s.link d ∧ t.crew d = s.crew d ∧ t.slot d = s.slot d

theorem State.SameLink.refl (s : State) (d : Link) : s.SameLink s d := ⟨rfl, rfl, rfl⟩

theorem State.SameLink.trans {s t u : State} {d : Link} (h : s.SameLink t d) (g : t.SameLink u d) : s.SameLink u d :=
  ⟨g.1.trans h.1, g.2.1.trans h.2.1, g.2.2.trans h.2.2⟩

theorem sameLink_beginFrame {c d : Link} (h : d ≠ c) (o : Owner) (cs : List OutChar) (s : State) :
    s.SameLink (beginFrame c o cs s) d :=
  ⟨by rw [link_beginFrame, if_neg h], crew_beginFrame .., slot_beginFrame_other h ..⟩

/-- A link's frame arbiter leaves the other links. -/
theorem sameLink_linkArbiter {c d : Link} (h : d ≠ c) (s : State) : s.SameLink (linkArbiter c s) d := by
  unfold linkArbiter
  split
  · split
    · exact sameLink_beginFrame h _ _ s
    · split
      · rename_i n z _
        have flown : s.SameLink (s.modCrew c fun k => { k with flight := some ⟨n, z, false⟩ }) d :=
          ⟨rfl, by rw [State.crew_modCrew, if_neg h], rfl⟩
        exact flown.trans (sameLink_beginFrame h _ _ _)
      · split
        · rename_i x b _
          have taken : s.SameLink (s.setSlot c ((s.slot c).setBuf (bufOf x.drainSpan) { b with state := .draining })) d :=
            ⟨rfl, rfl, by rw [State.slot_setSlot, if_neg h]⟩
          exact taken.trans (sameLink_beginFrame h _ _ _)
        · exact .refl s d
  · exact .refl s d

/-- At the end of an event a link holds what its own frame arbiter makes of it, after the plan reader's arbiter. -/
theorem settle_link (s : State) (c : Link) : ∃ v, (readerArbiter s).SameLink v c ∧
    (linkArbiter c v).SameLink (settle s) c :=
  eachLink_establishes (F := linkArbiter) (P := fun d u => (readerArbiter s).SameLink u d)
    (Q := fun d u => ∃ v, (readerArbiter s).SameLink v d ∧ (linkArbiter d v).SameLink u d)
    (fun _ u h => ⟨u, h, .refl _ _⟩) (fun _ _ u hne h => h.trans (sameLink_linkArbiter hne u))
    (fun _ _ u hne ⟨v, hv, h⟩ => ⟨v, hv, h.trans (sameLink_linkArbiter hne u)⟩) (fun d => .refl _ d) c

/-! ### A link that is not ATTACHED and holds no sheet -/

/-- A link that is not ATTACHED and has no transfer is left as it is. -/
def LeavesIdle (c : Link) (s t : State) : Prop :=
  s.attached c = false → (s.slot c).transfer = none → t.attached c = false ∧ s.SameLink t c

theorem LeavesIdle.refl (c : Link) (s : State) : LeavesIdle c s s := fun ha _ => ⟨ha, .refl s c⟩

theorem LeavesIdle.trans {c : Link} {s t u : State} (h : LeavesIdle c s t) (g : LeavesIdle c t u) : LeavesIdle c s u :=
  fun ha hx =>
    have ⟨ht, hsame⟩ := h ha hx
    have ⟨hu, hsame'⟩ := g ht (by rw [hsame.2.2]; exact hx)
    ⟨hu, hsame.trans hsame'⟩

theorem LeavesIdle.setSlot {c d : Link} {s t : State} {x : SheetSlot} {tr : Transfer} (hd : (s.slot d).transfer = some tr)
    (h : t.slot c = (s.setSlot d x).slot c) (hcl : t.cl = s.cl) (hnr : t.nr = s.nr) : LeavesIdle c s t := fun ha hx => by
  have hne : c ≠ d := by
    rintro rfl
    cases hx.symm.trans hd
  rw [State.slot_setSlot, if_neg hne] at h
  exact ⟨(State.attached_of_cl hcl c).trans ha, State.link_of_cl hcl c, State.crew_of_nr hnr c, h⟩

theorem leavesIdle_enterDue (c d : Link) (s : State) : LeavesIdle c s (enterDue d s) := by
  unfold enterDue
  split
  · exact .refl c s
  · rename_i tr htr
    split
    · exact .refl c s
    · split
      · exact .setSlot htr rfl rfl rfl
      · exact .refl c s

theorem leavesIdle_grant (c d : Link) (s : State) : LeavesIdle c s (grant d s) := by
  unfold grant
  split
  · exact .refl c s
  · rename_i tr htr
    dsimp only
    split <;> exact .setSlot htr rfl rfl rfl

theorem leavesIdle_chooseOnce (c : Link) (s : State) : LeavesIdle c s (chooseOnce s) := by
  unfold chooseOnce
  split
  · exact .refl c s
  · split
    · exact fun ha _ => ⟨ha, rfl, rfl, rfl⟩
    · split
      · exact leavesIdle_grant c _ s
      · exact .refl c s

theorem leavesIdle_readerArbiter (c : Link) (s : State) : LeavesIdle c s (readerArbiter s) := by
  have h : LeavesIdle c s (eachLink enterDue s) :=
    eachLink_rel (R := LeavesIdle c) LeavesIdle.trans (leavesIdle_enterDue c) s
  have next : ∀ {u}, LeavesIdle c s u → LeavesIdle c s (chooseOnce u) := fun hu => hu.trans (leavesIdle_chooseOnce c _)
  exact next (next (next (next (next h))))

theorem leavesIdle_linkArbiter (c d : Link) (s : State) : LeavesIdle c s (linkArbiter d s) := fun ha _ => by
  refine ⟨((arbitersOnly_linkArbiter d s).attached c).trans ha, ?_⟩
  by_cases hd : c = d
  · subst hd
    rw [linkArbiter, State.mayBegin, ha, Bool.false_and, Bool.false_and, if_neg (by decide)]
    exact .refl s c
  · exact sameLink_linkArbiter hd s

/-- The end of an event leaves a link that is not ATTACHED and has no transfer. -/
theorem sameLink_settle {c : Link} {s : State} (ha : s.attached c = false) (hx : (s.slot c).transfer = none) :
    s.SameLink (settle s) c :=
  ((leavesIdle_readerArbiter c s).trans
    (eachLink_rel (R := LeavesIdle c) LeavesIdle.trans (leavesIdle_linkArbiter c) _) ha hx).2

end Sys2Proof.Machine
end

section
/-! Links attached and detached (R79, R80, R106, R111 to R116, R126, R143), and the rotation and link commands (R86, R173,
R174). -/

namespace Sys2Proof.Machine

/-! ### Detach -/

theorem SpanBuf.detach_filling {b : SpanBuf} (h : b.state = .filling) : b.detach = { b with discarded := true } := by
  rw [SpanBuf.detach, h]

theorem SpanBuf.detach_other {b : SpanBuf} (h : b.state ≠ .filling) : b.detach = SpanBuf.emptied := by
  unfold SpanBuf.detach
  cases hs : b.state with
  | filling => exact absurd hs h
  | empty | full | draining => rfl

/-- What the buffers of a crew hold after its link's detach (R143). -/
theorem SheetSlot.detached_bufs (x : SheetSlot) :
    (∀ i, (x.buf i).state = .filling → x.detached.buf i = { x.buf i with discarded := true }) ∧
      ∀ i, (x.buf i).state ≠ .filling → (x.detached.buf i).state = .empty ∧ (x.detached.buf i).discarded = false := by
  refine ⟨fun i h => ?_, fun i h => ?_⟩ <;> rw [x.buf_detached]
  · exact SpanBuf.detach_filling h
  · rw [SpanBuf.detach_other h]
    exact ⟨rfl, rfl⟩

/-- Settles O27: an ATTACHED link whose presence is low leaves ATTACHED at once. -/
theorem linkDetaches : Obligations.LinkDetaches := by
  unfold Obligations.LinkDetaches
  intro s c hrun hs hp
  have hexec : exec (.linkDetach c) s = .next (leaveAttached c .detached s) := by
    show Host.Outcome.next (whenRunning s _) = _
    rw [whenRunning_of_running hrun, if_pos ⟨hs, hp⟩]
  obtain ⟨hfilling, hother⟩ := (s.slot c).detached_bufs
  refine ⟨_, hexec, ?_⟩
  rw [link_leaveAttached, crew_leaveAttached, slot_leaveAttached, if_pos rfl, if_pos rfl, if_pos rfl]
  refine ⟨rfl, rfl, rfl, rfl, hfilling, hother, zone_leaveAttached c _ s, fun d hd => ?_, leaveAttached_frame ..⟩
  rw [link_leaveAttached, crew_leaveAttached, slot_leaveAttached, if_neg hd, if_neg hd, if_neg hd]
  exact ⟨rfl, rfl, rfl⟩

/-! ### Membership (R81) -/

theorem member_of_sameLists {s t : State} {c : Link} {p : ZSet} (hcrew : t.crew c = { s.crew c with pending := p })
    (hact : ∀ z, t.zoneActive z = s.zoneActive z) (hdef : ∀ z, t.zoneDef z = s.zoneDef z) (z : Nat) :
    t.member c z = s.member c z := by
  rw [State.member, hcrew, hact, hdef, State.member]

/-- The membership test applied to some zones in turn puts those that pass it among the pending ones. -/
theorem crew_admitZones (c : Link) (l : List Nat) (s : State) : ∃ p,
    (l.foldl (fun s z => admitZone c z s) s).crew c = { s.crew c with pending := p } ∧
      ∀ z, z ∈ p ↔ z ∈ (s.crew c).pending ∨ z ∈ l ∧ s.member c z = true := by
  induction l generalizing s with
  | nil => exact ⟨(s.crew c).pending, rfl, by simp⟩
  | cons y l ih =>
    obtain ⟨p, hcrew, hp⟩ := ih (admitZone c y s)
    have h := crewFitStep_admitZone c y s
    obtain ⟨q, hone, hq⟩ : ∃ q, (admitZone c y s).crew c = { s.crew c with pending := q } ∧
        ∀ z, z ∈ q ↔ z ∈ (s.crew c).pending ∨ z = y ∧ s.member c y = true := by
      rw [crew_admit]
      by_cases hy : s.member c y = true
      · exact ⟨ZSet.place (s.crew c).pending y, by simp [hy], fun z => by simp [hy, or_comm]⟩
      · exact ⟨(s.crew c).pending, by simp [hy], fun z => by simp [hy]⟩
    refine ⟨p, by rw [List.foldl_cons, hcrew, hone], fun z => ?_⟩
    rw [hp, member_of_sameLists hone h.toCrewStep.zoneActive h.toCrewStep.zoneDef, hone, hq, List.mem_cons]
    constructor
    · rintro ((hz | ⟨rfl, hm⟩) | ⟨hz, hm⟩)
      · exact .inl hz
      · exact .inr ⟨.inl rfl, hm⟩
      · exact .inr ⟨.inr hz, hm⟩
    · rintro (hz | ⟨rfl | hz, hm⟩)
      · exact .inl (.inl hz)
      · exact .inl (.inr ⟨rfl, hm⟩)
      · exact .inr ⟨hz, hm⟩

theorem crew_admitAll (c : Link) (s : State) : ∃ p, (admitAll c s).crew c = { s.crew c with pending := p } ∧
    ∀ z, z ∈ p ↔ z ∈ (s.crew c).pending ∨ s.member c z = true := by
  obtain ⟨p, hcrew, hp⟩ := crew_admitZones c s.activeZones s
  refine ⟨p, hcrew, fun z => (hp z).trans ?_⟩
  rw [State.mem_activeZones]
  have hactive : s.member c z = true → s.zoneActive z = true := fun h => by
    simp only [State.member, Bool.and_eq_true] at h
    exact h.1.1.1
  exact or_congr_right ⟨And.right, fun h => ⟨hactive h, h⟩⟩

theorem State.member_iff (s : State) (c : Link) (z : Nat) : s.member c z = true ↔ s.zoneActive z = true ∧
    inSectors (s.crew c).live (s.zoneDef z).sector = true ∧ z ∉ (s.crew c).attended ∧ z ∉ (s.crew c).aside := by
  simp [State.member, and_assoc]

/-! ### Attach -/

/-- A crew just attached (R79): empty but for its sectors, the zones that pass the membership test pending, SYSTEM due. -/
theorem crew_attachLink (c : Link) (rx : Level) (s : State) : ∃ p o, (attachLink c rx s).crew c =
    { Crew.empty with live := (s.profile c).sectors, pending := p, offer := o, systemDue := true } ∧
      ∀ z, z ∈ p ↔ s.zoneActive z = true ∧ inSectors (s.profile c).sectors (s.zoneDef z).sector = true := by
  obtain ⟨p, hcrew, hp⟩ := crew_admitAll c (s.joining c rx)
  rw [State.crew_joining] at hcrew hp
  refine ⟨p, ((admitAll c (s.joining c rx)).modCrew c Crew.setSystemDue).offerAfter c, ?_, fun z => (hp z).trans ?_⟩
  · rw [attachLink_eq, crew_offerStep, if_pos rfl, State.crew_modCrew_self, hcrew]
    rfl
  · have hact : (s.joining c rx).zoneActive z = s.zoneActive z := rfl
    have hdef : (s.joining c rx).zoneDef z = s.zoneDef z := rfl
    rw [State.member_iff, State.crew_joining, hact, hdef]
    simp [Crew.empty]

theorem crewStep_attachLink (c : Link) (rx : Level) (s : State) :
    CrewStep c (s.modLink c (fun u => u.attachedAt rx)) (attachLink c rx s) :=
  (crewStep_joining c rx s).trans (crewFitStep_attach c _).toCrewStep

theorem linkArbiter_system {c : Link} {s : State} (hm : s.mayBegin c = true) (hr : (s.link c).replies = [])
    (hd : (s.crew c).systemDue = true) : linkArbiter c s = beginNotice c .system 0 s := by
  have hn : s.nextNotice c = some (.system, 0) := by
    unfold State.nextNotice
    dsimp only
    rw [if_pos hd]
  rw [linkArbiter, if_pos hm, hr]
  dsimp only
  rw [hn]

theorem LinkUnit.owner_filled (u : LinkUnit) : u.filled.writing.map Writing.owner = u.writing.map Writing.owner := by
  cases h : u.writing with
  | none => rw [LinkUnit.filled_idle h, h]
  | some w => rw [LinkUnit.filled_writing h]; rfl

theorem State.mayBegin_iff (s : State) (c : Link) : s.mayBegin c = true ↔ MayBegin s c := by
  simp [State.mayBegin, MayBegin, State.attached_iff, and_assoc]

/-- Settles O26: after the attach the link's own frame arbiter finds the SYSTEM notice first. -/
theorem linkAttaches : Obligations.LinkAttaches := by
  unfold Obligations.LinkAttaches
  intro s c rx hrun hs hp
  have hexec : exec (.linkAttach ⟨c, rx⟩) s = .next (settle (attachLink c rx s)) := by
    show Host.Outcome.next (whenRunning s _) = _
    rw [whenRunning_of_running hrun, if_pos ⟨hs, hp⟩]
  have harb := arbitersOnly_settle (attachLink c rx s)
  have step := crewStep_attachLink c rx s
  have hlink : (attachLink c rx s).link c = (s.link c).attachedAt rx := (step.link c).trans (State.link_modLink_self ..)
  obtain ⟨p, o, hcrew, hpending⟩ := crew_attachLink c rx s
  obtain ⟨v, hv, hset⟩ := settle_link (attachLink c rx s) c
  have hreader := streamerOnly_readerArbiter (attachLink c rx s)
  have hvlink : v.link c = (s.link c).attachedAt rx := by rw [hv.1, hreader.link, hlink]
  have hvcrew : v.crew c = (attachLink c rx s).crew c := by rw [hv.2.1, hreader.crew]
  have hbegun : linkArbiter c v = beginNotice c .system 0 v := by
    refine linkArbiter_system ((State.mayBegin_iff v c).2 ?_) (by rw [hvlink]; rfl) (by rw [hvcrew, hcrew])
    rw [MayBegin, hvlink]
    exact ⟨rfl, rfl, Nat.zero_lt_succ _⟩
  have hcl := harb.link c
  have hk := harb.crew c
  rw [hlink] at hcl
  rw [hcrew] at hk
  refine ⟨_, hexec, ?_⟩
  have howner : ((settle (attachLink c rx s)).link c).writing.map Writing.owner = some .notice := by
    rw [hset.1, hbegun, beginNotice, link_beginFrame, if_pos rfl, LinkUnit.owner_filled]
    rfl
  have hflight : ((settle (attachLink c rx s)).crew c).flight = some ⟨.system, 0, false⟩ := by
    rw [hset.2.1, hbegun, beginNotice, crew_beginFrame, State.crew_modCrew_self]
  have hreceiver : receiverAtAttach rx = if rx = .spacing then .waitMarking else .idle := by cases rx <;> rfl
  have hframe : LinksOnly s (settle (attachLink c rx s)) :=
    LinksOnly.trans (t := s.modLink c (fun u => u.attachedAt rx)) rfl (step.linksOnly.trans (.of_arbitersOnly harb))
  refine ⟨by rw [hcl]; rfl, by rw [hcl]; rfl, by rw [hcl]; rfl, by rw [hcl]; rfl, by rw [hcl]; rfl,
    by rw [hcl]; exact hreceiver, by rw [hcl]; rfl, by rw [hcl]; rfl, by rw [hcl]; rfl, howner, hflight, by rw [hk],
    by rw [hk], by rw [hk]; rfl, by rw [hk]; rfl, by rw [hk]; rfl, by rw [hk]; rfl, fun z => by rw [hk]; exact hpending z,
    fun d hd => ?_, hframe.of_zp ?_⟩
  · rw [harb.crew d, step.crews d hd]
    rfl
  · rw [harb.zp, attachLink, crewsOnly_crewAttach c _]
    rfl

end Sys2Proof.Machine
end

section
/-! The rotation and link commands of the management interface (R86, R116, R173, R174). -/

namespace Sys2Proof.Machine

/-! ### Replies leave the links -/

theorem sameLink_reply (src : Byte) (id : Word16) (r : MgmtResult) (d : List Byte) (s : State) (c : Link) :
    s.SameLink (reply src id r d s) c :=
  ⟨State.link_of_cl (reply_cl ..) c, State.crew_of_nr (reply_nr ..) c, State.slot_of_slots (congrArg _ (reply_ss ..)) c⟩

/-- A reply is the same frame for every state with the same Trunk Interface and configuration. -/
theorem reply_ti {s t : State} (hti : t.ti = s.ti) (hc : t.config = s.config) (src : Byte) (id : Word16) (r : MgmtResult)
    (d : List Byte) : (reply src id r d t).ti = (reply src id r d s).ti := by
  simp only [reply, giveOwn, State.ownFrame, hti, hc]

/-! ### The commands carried out -/

section carried
variable {s : State} {src : Byte} {id : Word16} {n h l : Byte}

theorem carryOut_setRotation {c : Link} (hc : linkOfNat n.toNat = some c) {v : Nat} (hv : v ≤ 1023) :
    carryOut src id (.setRotation n.toNat v) s = reply src id .ok [] (setRotation c v s) := by
  rw [carryOut, rotationCommand, hc]
  exact if_neg (by omega)

theorem carryOut_setRotation_badValue {c : Link} (hc : linkOfNat n.toNat = some c) {v : Nat} (hv : 1023 < v) :
    carryOut src id (.setRotation n.toNat v) s = reply src id .badValue [] s := by
  rw [carryOut, rotationCommand, hc]
  exact if_pos hv

theorem carryOut_linkDisable {c : Link} (hc : linkOfNat n.toNat = some c) :
    carryOut src id (.linkDisable n.toNat) s = reply src id .ok [] (disableLink c s) := by
  rw [carryOut, linkCommand, hc]

theorem carryOut_linkEnable {c : Link} (hc : linkOfNat n.toNat = some c) :
    carryOut src id (.linkEnable n.toNat) s = reply src id .ok [] (enableLink c s) := by
  rw [carryOut, linkCommand, hc]
end carried

theorem disableLink_disabled {c : Link} {s : State} (h : (s.link c).state = .disabled) : disableLink c s = s := by
  rw [disableLink, h]

theorem disableLink_detached {c : Link} {s : State} (h : (s.link c).state = .detached) : disableLink c s =
    s.setLink c { s.link c with state := .disabled, ctrlReady := .highZ, tx := .highZ } := by
  rw [disableLink, h]
  rfl

theorem disableLink_attached {c : Link} {s : State} (h : (s.link c).state = .attached) :
    disableLink c s = leaveAttached c .disabled s := by
  rw [disableLink, h]

theorem enableLink_disabled {c : Link} {s : State} (h : (s.link c).state = .disabled) : enableLink c s =
    s.setLink c { s.link c with state := .detached, ctrlReady := .low, tx := .marking } := by
  rw [enableLink, h]
  rfl

theorem enableLink_other {c : Link} {s : State} (h : (s.link c).state ≠ .disabled) : enableLink c s = s := by
  unfold enableLink
  split
  · exact absurd ‹_› h
  · rfl

/-- LINK_DISABLE of an ATTACHED link: the end of the event leaves the link as it left ATTACHED. -/
theorem sameLink_disabled {c : Link} (src : Byte) (id : Word16) (s : State) :
    (leaveAttached c .disabled s).SameLink (settle (reply src id .ok [] (leaveAttached c .disabled s))) c := by
  have hr := sameLink_reply src id .ok [] (leaveAttached c .disabled s) c
  refine hr.trans (sameLink_settle ?_ ?_)
  · rw [State.attached, hr.1, link_leaveAttached, if_pos rfl]
    rfl
  · rw [hr.2.2, slot_leaveAttached, if_pos rfl]
    rfl

/-- Settles O47, command by command and by the state of the link. -/
theorem rotationAndLinkCommandsAnswered : Obligations.RotationAndLinkCommandsAnswered := by
  unfold Obligations.RotationAndLinkCommandsAnswered
  intro s src id n h l hs
  have rotation {u : State} (hu : carryOut src id (.setRotation n.toNat (num16 h l)) s = u) :
      ∃ t, exec (.setRotation src id [n, h, l]) s = .next t ∧ ArbitersOnly u t := exec_carried hs rfl rfl rfl hu
  have disable {u : State} (hu : carryOut src id (.linkDisable n.toNat) s = u) :
      ∃ t, exec (.linkDisable src id [n]) s = .next t ∧ ArbitersOnly u t := exec_carried hs rfl rfl rfl hu
  have enable {u : State} (hu : carryOut src id (.linkEnable n.toNat) s = u) :
      ∃ t, exec (.linkEnable src id [n]) s = .next t ∧ ArbitersOnly u t := exec_carried hs rfl rfl rfl hu
  refine ⟨fun hn i hi => ?_, fun c hc => ⟨fun hv => rotation (carryOut_setRotation_badValue hc hv), fun hv ha => ?_,
    fun hv ha => ?_, fun hd => ⟨?_, ?_⟩, fun hd => ?_, fun hd => ?_, fun hd => ?_⟩⟩
  · have hnone := linkOfNat_eq_none hn
    rcases hi with rfl | rfl | rfl
    · exact rotation (by rw [carryOut, rotationCommand, hnone])
    · exact disable (by rw [carryOut, linkCommand, hnone])
    · exact enable (by rw [carryOut, linkCommand, hnone])
  · refine rotation ((carryOut_setRotation hc hv).trans ?_)
    rw [setRotation, if_pos ha]
    rfl
  · refine rotation ((carryOut_setRotation hc hv).trans ?_)
    rw [setRotation, if_neg (by simp [ha])]
  · exact disable ((carryOut_linkDisable hc).trans (by rw [disableLink_disabled hd]))
  · exact enable ((carryOut_linkEnable hc).trans (by rw [enableLink_disabled hd]))
  · obtain ⟨t, ht, harb⟩ := disable ((carryOut_linkDisable hc).trans (by rw [disableLink_detached hd]))
    obtain ⟨hlink, hcrew, -⟩ := sameLink_reply src id .ok []
      (s.setLink c { s.link c with state := .disabled, ctrlReady := .highZ, tx := .highZ }) c
    rw [State.link_setLink_self] at hlink
    have hl := harb.link c
    have hk := harb.crew c
    rw [hlink] at hl
    rw [hcrew] at hk
    exact ⟨t, ht, by rw [hl], by rw [hl], by rw [hl], hk, harb.ti.trans (reply_ti rfl rfl ..)⟩
  · have hexec : exec (.linkDisable src id [n]) s =
        .next (settle (reply src id .ok [] (leaveAttached c .disabled s))) := by
      rw [exec_of_requestOf rfl, mgmtRow_carried hs id (r := .linkDisable n.toNat) rfl rfl, carryOut_linkDisable hc,
        disableLink_attached hd]
    have harb := arbitersOnly_settle (reply src id .ok [] (leaveAttached c .disabled s))
    have hframe := leaveAttached_frame c .disabled s
    obtain ⟨hlink, hcrew, hslot⟩ := sameLink_disabled (c := c) src id s
    rw [link_leaveAttached, if_pos rfl] at hlink
    rw [crew_leaveAttached, if_pos rfl] at hcrew
    rw [slot_leaveAttached, if_pos rfl] at hslot
    obtain ⟨hfilling, hother⟩ := (s.slot c).detached_bufs
    have hti : (settle (reply src id .ok [] (leaveAttached c .disabled s))).ti = (reply src id .ok [] s).ti :=
      harb.ti.trans (reply_ti (by rw [hframe]) (by rw [hframe]; rfl) ..)
    refine ⟨_, hexec, ?_⟩
    rw [hlink, hslot]
    refine ⟨rfl, rfl, rfl, rfl, rfl, rfl, rfl, rfl, rfl, rfl, hcrew, rfl, rfl, hfilling, hother, fun z => ?_,
      fun d hne => ?_, hti, ?_⟩
    · rw [harb.zone, State.zone, reply_zp]
      exact zone_leaveAttached c .disabled s z
    · rw [harb.crew d, (sameLink_reply src id .ok [] (leaveAttached c .disabled s) d).2.1, crew_leaveAttached, if_neg hne]
    · rw [harb.1, reply, giveOwn, hframe]
  · exact enable ((carryOut_linkEnable hc).trans (by rw [enableLink_other hd]))

end Sys2Proof.Machine
end

section
/-! The crew requests about zones answered (R92 to R100): what each answer leaves, and the offer step that follows. -/

namespace Sys2Proof.Machine

/-! ### A request handed (R92, R123) -/

theorem Hands.canHand {s : State} {c : Link} (h : Hands s c) : s.canHand c = true := by
  obtain ⟨-, ha, hlen⟩ := h
  exact (s.canHand_iff c).2 ⟨(s.attached_iff c).2 ha, hlen⟩

/-- A request that can be handed is taken, and the event ends. -/
theorem crewRow_handed {s : State} {c : Link} (h : Hands s c) (kind : Byte) (r : Request) :
    crewRow c kind r s = settle (takeRequest c kind r s) := by
  rw [crewRow, whenRunning_of_running h.1, if_pos h.canHand]

/-- A request answered: its reply and what the arbiters begin. -/
theorem answered {i : Instr} {s : State} {c : Link} {kind : Byte} {r : Request} (h : Hands s c)
    (hi : exec i s = .next (crewRow c kind r s)) {u : State} (hu : takeRequest c kind r s = u) :
    ∃ t, exec i s = .next t ∧ ArbitersOnly u t := by
  subst hu
  exact ⟨_, hi.trans (by rw [crewRow_handed h]), arbitersOnly_settle _⟩

/-- `t` is `u`, what a request of a crew has made of `s`, once its reply is placed, the offer step is done (R92) and the
arbiters have chosen. -/
structure Answered (c : Link) (r : Reply) (s u t : State) : Prop where
  only : LinksOnly u t
  zp : t.zp = u.zp
  replies : (t.link c).replies = (s.link c).replies ++ [r]
  crew : t.crew c = { u.crew c with offer := (t.crew c).offer, flight := (t.crew c).flight }
  offer : ∀ z, z ∉ (u.crew c).pending → (u.crew c).offer.names z = false → (t.crew c).offer.names z = false
  others : ∀ d, d ≠ c → t.crew d = { s.crew d with flight := (t.crew d).flight }

theorem answered_settle {c : Link} {s u : State} (hcl : u.cl = s.cl) (hother : ∀ d, d ≠ c → u.crew d = s.crew d)
    (kind : Byte) (a : CrewResult) (d : List Byte) :
    Answered c (mkReply kind a d) s u (settle (answerNR c kind (a, d, u))) := by
  have harb := arbitersOnly_settle (answerNR c kind (a, d, u))
  have hcrew : (answerNR c kind (a, d, u)).crew c =
      { u.crew c with offer := (placeReply c (mkReply kind a d) u).offerAfter c } := by
    rw [answerNR, crew_offerStep, if_pos rfl]
    rfl
  have hplaced : LinksOnly u (placeReply c (mkReply kind a d) u) := rfl
  have hk := harb.crew c
  rw [hcrew] at hk
  refine ⟨(hplaced.trans (crewFitStep_offerStep c _).toCrewStep.linksOnly).trans (.of_arbitersOnly harb), ?_, ?_, ?_,
    fun z hp hn => ?_, fun e he => ?_⟩
  · rw [harb.zp, answerNR, offerStep_zp]
    rfl
  · rw [harb.link, answerNR, State.link_of_cl (offerStep_cl ..), placeReply, State.link_modLink_self,
      State.link_of_cl hcl]
  · rw [hk]
  · rw [hk]
    exact State.names_offerAfter (s := placeReply c (mkReply kind a d) u) hp hn
  · have he' : (answerNR c kind (a, d, u)).crew e = s.crew e := by
      rw [answerNR, crew_offerStep, if_neg he]
      exact hother e he
    rw [harb.crew e, he']

/-! ### Release (R96, R97) -/

theorem Crew.mark_release (k : Crew) (z sector : Nat) (rot : Rotation) (y : Nat) : (k.release z sector rot).mark y =
    if y = z ∧ k.mark z = some .update then none else k.mark y := by
  unfold Crew.release
  dsimp only
  split
  · rename_i hm
    have hm' : k.mark z = some .update := hm
    rw [Crew.mark_dropMark]
    simp only [hm', and_true]
    rfl
  · rename_i hm
    have hm' : ¬ k.mark z = some .update := hm
    rw [if_neg (fun h : _ ∧ _ => hm' h.2)]
    rfl

theorem Crew.mem_aside_release (k : Crew) (z sector : Nat) (rot : Rotation) (y : Nat) :
    y ∈ (k.release z sector rot).aside ↔ y ∈ k.aside ∨ y = z ∧ inSectors k.live sector = true := by
  rw [(marksOnly_release ..).aside]
  show y ∈ (if inSectors k.live sector then ZSet.place k.aside z else k.aside) ↔ _
  split
  · simp [*, or_comm]
  · simp [*]

theorem crew_releaseZone (c : Link) (z : Nat) (s : State) : (releaseZone c z s).crew c =
    (s.crew c).release z (s.zoneDef z).sector (s.profile c).rotation := by
  rw [releaseZone]
  exact s.crew_modCrew_self c fun k => k.release z (s.zoneDef z).sector (s.profile c).rotation

/-- The attended zone that RELEASE_TOP takes: the first of the highest urgency (R97). -/
theorem State.topAttended_eq {s : State} {c : Link} {z : Nat} {before after : List Nat}
    (h : (s.crew c).attended = before ++ z :: after) (hbefore : ∀ y ∈ before, s.urgencyOf y < s.urgencyOf z)
    (hafter : ∀ y ∈ after, s.urgencyOf y ≤ s.urgencyOf z) : s.topAttended c = some z := by
  have most : ∀ {b pre post}, (s.crew c).attended = pre ++ b :: post → (∀ y ∈ pre, s.urgencyOf y < s.urgencyOf b) →
      (∀ y ∈ post, s.urgencyOf y ≤ s.urgencyOf b) → ∀ y ∈ (s.crew c).attended, s.urgencyOf y ≤ s.urgencyOf b := by
    intro b pre post hsplit hpre hpost y hy
    rw [hsplit, List.mem_append, List.mem_cons] at hy
    rcases hy with hy | rfl | hy
    · exact (hpre y hy).le
    · exact le_rfl
    · exact hpost y hy
  cases hatt : (s.crew c).attended with
  | nil =>
    rw [hatt] at h
    simp at h
  | cons w r =>
    obtain ⟨b, pre, post, hb, hsplit, hpre, hpost⟩ := foldl_best s.urgencyOf w r
    rw [← hatt] at hsplit
    have heq : s.urgencyOf b = s.urgencyOf z := le_antisymm
      (most h hbefore hafter b (by rw [hsplit]; simp)) (most hsplit hpre hpost z (by rw [h]; simp))
    have first : ∀ {x pre post}, (s.crew c).attended = pre ++ x :: post → s.urgencyOf x = s.urgencyOf z →
        (∀ y ∈ pre, s.urgencyOf y < s.urgencyOf x) →
        (s.crew c).attended.find? (fun y => decide (s.urgencyOf z ≤ s.urgencyOf y)) = some x := by
      intro x pre post hx hux hpre
      rw [List.find?_eq_some_iff_append]
      exact ⟨by simp [hux], pre, post, hx, fun y hy => by simpa using hux ▸ hpre y hy⟩
    have hbz : some b = some z := (first hsplit heq hpre).symm.trans (first h rfl hbefore)
    rw [State.topAttended, hatt]
    exact (congrArg some hb).trans hbz

/-- What a release leaves (R96). -/
theorem released {c : Link} {z : Nat} {s : State} (hz : z ∈ (s.crew c).attended) {kind : Byte} {d : List Byte} {t : State}
    (ht : t = settle (answerNR c kind (.ok, d, releaseZone c z s))) :
    (t.link c).replies = (s.link c).replies ++ [⟨kind, 0x00#8, d⟩] ∧
      (t.crew c).attended = (s.crew c).attended.filter (fun y => y != z) ∧
      (t.crew c).pending = (s.crew c).pending ∧
      (∀ y, y ∈ (t.crew c).aside ↔ y ∈ (s.crew c).aside ∨
        y = z ∧ inSectors (s.crew c).live (s.zoneDef z).sector = true) ∧
      (t.crew c).rc = (if (s.profile c).rotation = .auto then z else (s.crew c).rc) ∧
      (∀ y, (t.crew c).mark y = if y = z ∧ (s.crew c).mark z = some .update then none else (s.crew c).mark y) ∧
      (∀ y, t.zone y = if y = z then { s.zone y with attendedBy := (s.zone y).attendedBy.set c false }
        else s.zone y) ∧
      (∀ d, d ≠ c → t.crew d = { s.crew d with flight := (t.crew d).flight }) ∧
      t = { s with zp := { s.zp with live := t.zp.live }, nr := t.nr, cl := t.cl, ss := t.ss } := by
  have step := (crewFitStep_releaseZone hz).toCrewStep
  have hans := answered_settle step.cl step.crews kind .ok d
  rw [← ht] at hans
  have hk := hans.crew
  rw [crew_releaseZone] at hk
  have hm := marksOnly_release (s.crew c) z (s.zoneDef z).sector (s.profile c).rotation
  refine ⟨hans.replies, ?_, ?_, fun y => ?_, ?_, fun y => ?_, fun y => ?_, hans.others, step.linksOnly.trans hans.only⟩
  · rw [hk]
    exact hm.attended
  · rw [hk]
    exact hm.pending
  · rw [hk]
    exact Crew.mem_aside_release ..
  · rw [hk]
    exact hm.rc
  · rw [hk]
    exact Crew.mark_release ..
  · rw [State.zone, hans.zp]
    refine (zone_setAttended c z y false _).trans ?_
    split
    · subst_vars
      rfl
    · rfl

/-- Settles O23: the refusals leave the crew, and both requests release one zone by the same rule. -/
theorem releaseAnswered : Obligations.ReleaseAnswered := by
  unfold Obligations.ReleaseAnswered
  intro s c hs
  refine ⟨fun zone hz => answered hs rfl ?_, fun zone h1 h2 hz => answered hs rfl ?_, fun hz => answered hs rfl ?_,
    fun i z r hi => ?_⟩
  · have hn : zoneNumber zone.toNat = false := by
      rw [Bool.eq_false_iff]
      exact fun h => by have := (zoneNumber_iff _).1 h; omega
    rw [takeRequest, reqRelease, hn]
    rfl
  · have hn := (zoneNumber_iff _).2 ⟨h1, h2⟩
    rw [takeRequest, reqRelease, hn, if_neg (by decide), if_pos (by simpa using hz)]
    rfl
  · rw [takeRequest, reqReleaseTop, State.topAttended, hz]
    rfl
  · rcases hi with ⟨zone, rfl, rfl, h1, h2, hz, rfl⟩ | ⟨rfl, rfl, before, after, hsplit, hbefore, hafter⟩
    · refine ⟨_, rfl, released hz ?_⟩
      have hn := (zoneNumber_iff _).2 ⟨h1, h2⟩
      rw [crewRow_handed hs, takeRequest, reqRelease, hn, if_neg (by decide), if_neg (by simpa using hz)]
      rfl
    · refine ⟨_, rfl, released (by rw [hsplit]; simp) ?_⟩
      rw [crewRow_handed hs, takeRequest, reqReleaseTop, State.topAttended_eq hsplit hbefore hafter]
      rfl

end Sys2Proof.Machine
end

section
/-! A zone accepted or declined by its crew (R93 to R95). -/

namespace Sys2Proof.Machine

/-! ### The outcome of a sheet request (R139) -/

theorem requestSheet_fst (c : Link) (i : Nat) (s : State) : (requestSheet c i s).1 =
    if s.config.planPages = 0 then .noMemory
    else if !s.sheetAvailable i then .noSheet
    else if (s.slot c).holds i then .ok
    else if Config.sheetQueueSize ≤ (s.slot c).queue.length then .queueFull else .ok := by
  rw [requestSheet, apply_ite Prod.fst, queueSheet]
  simp only [apply_ite Prod.fst]

/-- A crew's collections do not bear on a sheet request. -/
theorem CrewStep.requestSheet_fst {c : Link} {s t : State} (h : CrewStep c s t) (i : Nat) :
    (requestSheet c i t).1 = (requestSheet c i s).1 := by
  rw [Machine.requestSheet_fst, Machine.requestSheet_fst, h.frame]
  rfl

theorem autoSheet_fst (c : Link) (z : Nat) (s : State) : (autoSheet c z s).1 = true ↔
    (s.profile c).autoSheet = true ∧ ∃ i, (s.zoneDef z).primary = some i ∧ (requestSheet c i s).1 = .ok := by
  unfold autoSheet
  split
  · rename_i ha
    split
    · rename_i i hi
      simp [ha, hi]
    · rename_i hi
      simp [hi]
  · rename_i ha
    simp [ha]

/-! ### Acceptance (R93, R94) -/

/-- The sheet mark of an acceptance (10.5). -/
def sheetMark (c : Link) (z : Nat) (s : State) : Byte := byteOf (acceptZone c z s).1.toNat

theorem byteOf_toNat (b : Bool) : (byteOf b.toNat = 0#8 ∨ byteOf b.toNat = 1#8) ∧ (byteOf b.toNat = 1#8 ↔ b = true) := by
  cases b <;> decide

theorem Crew.mark_accept (k : Crew) (z y : Nat) : (k.accept z).mark y = if y = z then
    (match k.mark y with
      | some .withdrawn => none
      | some .clear => some .update
      | some .isolate => some .update
      | m => m) else k.mark y := by
  have htaken : ∀ y, (k.taken z).mark y = k.mark y := fun y => by
    rw [Crew.taken, Crew.endOffer_eq]
    rfl
  have replaced : ((((k.taken z).dropMark z).setMark z .update).mark y) = if y = z then some .update else k.mark y := by
    rw [Crew.mark_setMark, Crew.mark_dropMark, Crew.mark_dropMark, htaken]
    by_cases hy : y = z <;> simp [hy, markStands, htaken]
  by_cases hy : y = z
  · subst hy
    rw [if_pos rfl]
    rw [if_pos rfl] at replaced
    unfold Crew.accept
    cases hm : k.mark y with
    | none => exact (htaken y).trans hm
    | some m =>
      cases m with
      | update => exact (htaken y).trans hm
      | clear | isolate => exact replaced
      | withdrawn => exact (Crew.mark_dropMark ..).trans (if_pos rfl)
  · rw [if_neg hy]
    rw [if_neg hy] at replaced
    unfold Crew.accept
    dsimp only
    split
    · exact (Crew.mark_dropMark ..).trans ((if_neg hy).trans (htaken y))
    · exact replaced
    · exact replaced
    · exact htaken y

/-- `t` is `s` with a pending zone accepted on a link and answered, the sheet mark as the auto-sheet request gives it
(R93, R94). -/
structure Accepted (c : Link) (z : Nat) (kind : Byte) (s t : State) : Prop where
  sheet : sheetMark c z s = 1#8 ↔ (s.profile c).autoSheet = true ∧
    ∃ i, (s.zoneDef z).primary = some i ∧ (requestSheet c i s).1 = .ok
  replies : (t.link c).replies = (s.link c).replies ++ [⟨kind, 0x00#8, nat16 z ++ [sheetMark c z s]⟩]
  pending : ∀ y, y ∈ (t.crew c).pending ↔ y ∈ (s.crew c).pending ∧ y ≠ z
  attended : (t.crew c).attended = (s.crew c).attended ++ [z]
  aside : (t.crew c).aside = (s.crew c).aside
  rc : (t.crew c).rc = (s.crew c).rc
  live : (t.crew c).live = (s.crew c).live
  offer : (t.crew c).offer.names z = false
  mark : ∀ y, (t.crew c).mark y = ((s.crew c).accept z).mark y
  zone : ∀ y, t.zone y = if y = z then { s.zone y with attendedBy := (s.zone y).attendedBy.set c true } else s.zone y
  others : ∀ d, d ≠ c → t.crew d = { s.crew d with flight := (t.crew d).flight }
  only : LinksOnly s t

/-- An acceptance answered (R92 to R94). -/
theorem accepted {c : Link} {z : Nat} {s : State} (hz : z ∈ (s.crew c).pending) (hlen : (s.crew c).attended.length < 8)
    (kind : Byte) : Accepted c z kind s
      (settle (answerNR c kind (.ok, acceptData z (acceptZone c z s).1, (acceptZone c z s).2))) := by
  have step := (crewFitStep_accepted hz hlen).toCrewStep
  have sheet : StreamerOnly _ (acceptZone c z s).2 := (sheetStep_autoSheet c z _).only
  have hans := answered_settle (s := s) (sheet.cl.trans step.cl) (fun d hd => (sheet.crew d).trans (step.crews d hd)) kind
    .ok (acceptData z (acceptZone c z s).1)
  have hcrew : (acceptZone c z s).2.crew c = (s.crew c).accept z :=
    (sheet.crew c).trans (s.crew_modCrew_self c fun k => k.accept z)
  have hk := hans.crew
  rw [hcrew] at hk
  have hm := marksOnly_accept (s.crew c) z
  have hpending : ∀ y, y ∈ ((s.crew c).accept z).pending ↔ y ∈ (s.crew c).pending ∧ y ≠ z := fun y => by
    rw [hm.pending, Crew.taken, Crew.endOffer_pending, mem_without]
  refine ⟨?_, hans.replies, fun y => ?_, ?_, ?_, ?_, ?_, ?_, fun y => ?_, fun y => ?_, hans.others,
    (step.linksOnly.trans sheet.linksOnly).trans hans.only⟩
  · rw [sheetMark, (byteOf_toNat _).2, acceptZone, autoSheet_fst, step.profile, step.zoneDef]
    simp only [step.requestSheet_fst]
  · rw [hk]
    exact hpending y
  · rw [hk]
    exact hm.attended.trans (Crew.endOffer_attended ..)
  · rw [hk]
    exact hm.aside.trans (Crew.endOffer_aside ..)
  · rw [hk]
    exact hm.rc.trans (Crew.endOffer_rc ..)
  · rw [hk]
    exact hm.live.trans (Crew.endOffer_live ..)
  · refine hans.offer z ?_ ?_
    · rw [hcrew, hpending]
      exact fun h => h.2 rfl
    · rw [hcrew, hm.offer, Bool.eq_false_iff, Crew.taken, ne_eq, Crew.names_endOffer]
      exact fun h => h.2 rfl
  · rw [hk]
    rfl
  · rw [State.zone, hans.zp, sheet.zp]
    refine (zone_setAttended c z y true _).trans ?_
    split
    · subst_vars
      rfl
    · rfl

/-! ### Decline (R95) -/

theorem Crew.mem_pending_declined (k : Crew) (z y : Nat) : y ∈ (k.declined z).pending ↔ y ∈ k.pending ∧ y ≠ z := by
  rw [Crew.declined, Crew.endOffer_pending, mem_without]

theorem Crew.mem_aside_declined (k : Crew) (z y : Nat) : y ∈ (k.declined z).aside ↔ y ∈ k.aside ∨ y = z := by
  rw [Crew.declined, Crew.endOffer_aside, ZSet.mem_place, or_comm]

theorem be16_eq_nat16 (w : Word16) : be16 w = nat16 w.toNat := by rw [nat16, BitVec.ofNat_toNat, BitVec.setWidth_eq]

/-- Settles O22: ACCEPT and DECLINE by their cases; an OK acceptance is `accepted`. -/
theorem acceptAndDeclineAnswered : Obligations.AcceptAndDeclineAnswered := by
  unfold Obligations.AcceptAndDeclineAnswered
  have number : ∀ {zone : Word16}, 1 ≤ zone.toNat → zone.toNat ≤ 1023 → zoneNumber zone.toNat = true :=
    fun h1 h2 => (zoneNumber_iff _).2 ⟨h1, h2⟩
  have noNumber : ∀ {zone : Word16}, zone.toNat = 0 ∨ 1023 < zone.toNat → zoneNumber zone.toNat = false := fun hz => by
    rw [Bool.eq_false_iff]
    exact fun h => by have := (zoneNumber_iff _).1 h; omega
  refine ⟨fun s c zone hs => ⟨fun hz => answered hs rfl ?_, fun h1 h2 hz => answered hs rfl ?_,
    fun h1 h2 hz hlen => answered hs rfl ?_, fun h1 h2 hz hlen => ?_⟩, fun s c zone hs =>
    ⟨fun hz => answered hs rfl ?_, fun h1 h2 hz => answered hs rfl ?_, fun h1 h2 hz => ?_⟩⟩
  · rw [takeRequest, reqAccept, noNumber hz]
    rfl
  · rw [takeRequest, reqAccept, number h1 h2, if_neg (by decide), if_pos (by simpa using hz)]
    rfl
  · rw [takeRequest, reqAccept, number h1 h2, if_neg (by decide), if_neg (by simpa using hz), if_pos hlen,
      State.modCrew, Crew.endOffer_eq, Crew.offer_endOffer]
    rfl
  · have hacc := accepted hz hlen rAccept
    rw [be16_eq_nat16]
    refine ⟨_, _, ?_, hacc.sheet, (byteOf_toNat _).1, hacc.replies, hacc.pending, hacc.attended, hacc.aside, hacc.rc,
      hacc.live, hacc.offer, fun y => (hacc.mark y).trans (Crew.mark_accept ..), hacc.zone, hacc.others, hacc.only⟩
    refine congrArg Host.Outcome.next ((crewRow_handed hs ..).trans ?_)
    rw [takeRequest, reqAccept, number h1 h2, if_neg (by decide), if_neg (by simpa using hz),
      if_neg (by simpa [Config.attendedLimit] using hlen)]
  · rw [takeRequest, reqDecline, noNumber hz]
    rfl
  · rw [takeRequest, reqDecline, number h1 h2, if_neg (by decide), if_pos (by simpa using hz)]
    rfl
  · have step := (crewFitStep_declined hz).toCrewStep
    have hans := answered_settle step.cl step.crews rDecline .ok []
    have hk := hans.crew
    rw [State.crew_modCrew_self] at hk
    refine ⟨_, ?_, hans.replies, fun y => ?_, fun y => ?_, ?_, ?_, hans.offer _ ?_ ?_, hans.others, ?_⟩
    · refine congrArg Host.Outcome.next ((crewRow_handed hs ..).trans ?_)
      rw [takeRequest, reqDecline, number h1 h2, if_neg (by decide), if_neg (by simpa using hz)]
      rfl
    · rw [hk]
      exact Crew.mem_pending_declined ..
    · rw [hk]
      exact Crew.mem_aside_declined ..
    · rw [hk]
      exact Crew.endOffer_attended ..
    · rw [hk]
      exact Crew.endOffer_marks ..
    · rw [State.crew_modCrew_self, Crew.mem_pending_declined]
      exact fun h => h.2 rfl
    · rw [State.crew_modCrew_self, Bool.eq_false_iff, Crew.declined, ne_eq, Crew.names_endOffer]
      exact fun h => h.2 rfl
    · exact (step.linksOnly.trans hans.only).of_zp hans.zp

end Sys2Proof.Machine
end

section
/-! The end of an offer at its deadline (R88, R91) and the answer to a poll (R98). -/

namespace Sys2Proof.Machine

/-! ### What the top eligible zone depends on (R84, R85) -/

theorem State.rankPlace_congr {s t : State} (h : t.urgencyOf = s.urgencyOf) (rc : Nat) : t.rankPlace rc = s.rankPlace rc := by
  funext l z
  induction l with
  | nil => rfl
  | cons y l ih =>
    have hb : t.ranksBefore rc z y = s.ranksBefore rc z y := by
      unfold State.ranksBefore
      rw [h]
    rw [State.rankPlace, State.rankPlace, hb, ih]

/-- The offer of a crew does not bear on its top eligible zone. -/
theorem State.topEligible_setOffer (s : State) (c : Link) (o : Offer) :
    (s.setCrew c { s.crew c with offer := o }).topEligible c = s.topEligible c := by
  have hrank : (s.setCrew c { s.crew c with offer := o }).rank c = s.rank c := by
    rw [State.rank, State.crew_setCrew_self]
    exact congrArg (fun place => (s.crew c).pending.foldl place [])
      (State.rankPlace_congr (t := s.setCrew c { s.crew c with offer := o }) (s := s) rfl _)
  have helig : (s.setCrew c { s.crew c with offer := o }).eligible c = s.eligible c := by
    funext z
    rw [State.eligible, State.threshold, State.crew_setCrew_self]
    rfl
  rw [State.topEligible, hrank, helig]
  rfl

theorem State.setCrew_setCrew (s : State) (c : Link) (k k' : Crew) : (s.setCrew c k).setCrew c k' = s.setCrew c k' := by
  rw [State.setCrew, State.setCrew, PerLink.set_set]
  rfl

/-- An offer's end at its deadline, with the offer step that follows (R88, R91). -/
theorem offerExpires_eq (c : Link) (s : State) : offerExpires c s = s.setCrew c { s.crew c with
    offer := if (s.profile c).delivery = .push ∧ (s.crew c).attended.length < 8 then
      (match (s.rank c).find? (s.eligible c) with
        | some y => .due y
        | none => .none) else .none } := by
  rw [offerExpires, State.modCrew, offerStep_eq, State.setCrew_setCrew, State.offerAfter, State.topEligible_setOffer,
    State.crew_setCrew_self]
  rfl

/-- Settles O24: the deadline's row is the offer step, and POLL takes the top eligible zone as ACCEPT would. -/
theorem offerTimesOutAndPollAnswered : Obligations.OfferTimesOutAndPollAnswered := by
  unfold Obligations.OfferTimesOutAndPollAnswered
  refine ⟨fun s c z d hrun hatt hout hd => ⟨_, ?_, arbitersOnly_settle _⟩, fun s c hs => ⟨fun hpush => answered hs rfl ?_,
    fun hpoll hlen => answered hs rfl ?_, fun hpoll hlen hnone => answered hs rfl ?_, fun z hpoll hlen hz => ?_⟩⟩
  · have hdue : s.offerDue c = true := by simp [State.offerDue, hatt, hout, hd]
    refine congrArg Host.Outcome.next ((whenRunning_of_running hrun _).trans ?_)
    rw [if_pos hdue]
    exact congrArg settle (offerExpires_eq c s)
  · rw [takeRequest, reqPoll, if_pos hpush]
    rfl
  · rw [takeRequest, reqPoll, if_neg (by simp [hpoll]), if_pos hlen]
    rfl
  · rw [takeRequest, reqPoll, if_neg (by simp [hpoll]), if_neg (by simpa [Config.attendedLimit] using hlen),
      State.topEligible, hnone]
    rfl
  · have hacc := accepted (State.pending_of_topEligible hz) hlen rPoll
    refine ⟨_, _, ?_, (byteOf_toNat _).1, hacc.sheet, hacc.replies, hacc.pending, hacc.attended, hacc.aside, hacc.zone,
      hacc.only⟩
    refine congrArg Host.Outcome.next ((crewRow_handed hs ..).trans ?_)
    rw [takeRequest, reqPoll, if_neg (by simp [hpoll]), if_neg (by simpa [Config.attendedLimit] using hlen),
      State.topEligible, hz]

end Sys2Proof.Machine
end

section
/-! LIST, the unknown and malformed requests, and SECTORS (R90, R99, R100, R190). -/

namespace Sys2Proof.Machine

/-! ### Requests answered UNKNOWN (R190) -/

/-- A kind the controller does not know. -/
theorem parseRequest_of_kind {kind : Byte} (h : kind.toNat = 0 ∨ 10 ≤ kind.toNat) (payload : List Byte) :
    parseRequest kind payload = .unknown := by
  have other : ∀ b : Byte, 1 ≤ b.toNat → b.toNat ≤ 9 → kind ≠ b := by
    rintro b h1 h2 rfl
    omega
  simp only [parseRequest, if_neg (other rAccept (by decide) (by decide)), if_neg (other rDecline (by decide) (by decide)),
    if_neg (other rRelease (by decide) (by decide)), if_neg (other rReleaseTop (by decide) (by decide)),
    if_neg (other rPoll (by decide) (by decide)), if_neg (other rList (by decide) (by decide)),
    if_neg (other rSectors (by decide) (by decide)), if_neg (other rSheetReq (by decide) (by decide)),
    if_neg (other rSheetStop (by decide) (by decide))]

/-- A request that names a zone or a sector set, with a payload of another length than 2. -/
theorem parseRequest_of_length {kind : Byte} (h : kind = 0x01#8 ∨ kind = 0x02#8 ∨ kind = 0x03#8 ∨ kind = 0x07#8)
    {payload : List Byte} (hlen : payload.length ≠ 2) : parseRequest kind payload = .unknown := by
  match payload, hlen with
  | [], _ | [_], _ | _ :: _ :: _ :: _, _ => rcases h with rfl | rfl | rfl | rfl <;> rfl
  | [_, _], hlen => exact absurd rfl hlen

/-- A request without a payload, with one. -/
theorem parseRequest_of_payload {kind : Byte} (h : kind = 0x04#8 ∨ kind = 0x05#8 ∨ kind = 0x06#8) {payload : List Byte}
    (hp : payload ≠ []) : parseRequest kind payload = .unknown := by
  match payload, hp with
  | [], hp => exact absurd rfl hp
  | _ :: _, _ => rcases h with rfl | rfl | rfl <;> rfl

theorem takeRequest_unknown {kind : Byte} (h8 : kind ≠ 0x08#8) (h9 : kind ≠ 0x09#8) (c : Link) (s : State) :
    takeRequest c kind .unknown s = offerStep c (placeReply c ⟨kind, 0x07#8, []⟩ s) := by
  rw [takeRequest, if_neg]
  · rfl
  · rintro (rfl | rfl)
    · exact h8 rfl
    · exact h9 rfl

/-! ### New sectors (R90, R100) -/

/-- An OUT offer of a zone outside the new sectors is withdrawn with a WITHDRAWN mark (R90). -/
theorem Crew.mark_newSectors_out {k : Crew} {z d : Nat} (ho : k.offer = .out z d) {w : Word16} {inside : Nat → Bool}
    (hi : inside z = false) (hc : k.mark z ≠ some .clear) (hs : k.mark z ≠ some .isolate) :
    (k.newSectors w inside).mark z = some .withdrawn := by
  unfold Crew.newSectors
  rw [ho]
  dsimp only
  rw [hi, if_neg (by decide), Crew.mark_setMark, if_pos]
  refine ⟨rfl, ?_⟩
  have hm : Crew.mark { k with live := w, pending := k.pending.filter inside, aside := k.aside.filter inside,
                               offer := .none } z = k.mark z := rfl
  rw [hm, markStands]
  simp [hc, hs]

/-- A crew whose sectors are replaced, before the offer step (R100). -/
theorem crew_reqSectors (c : Link) (w : Word16) (s : State) : ∃ p, (reqSectors c w s).2.2.crew c =
    { (s.crew c).newSectors w (s.zoneIn w) with pending := p } ∧
      ∀ z, z ∈ p ↔ inSectors w (s.zoneDef z).sector = true ∧
        (z ∈ (s.crew c).pending ∨ s.zoneActive z = true ∧ z ∉ (s.crew c).attended ∧ z ∉ (s.crew c).aside) := by
  obtain ⟨p, hcrew, hp⟩ := crew_admitAll c (s.modCrew c fun k => k.newSectors w (s.zoneIn w))
  have hm := marksOnly_newSectors (s.crew c) w (s.zoneIn w)
  rw [State.crew_modCrew_self] at hcrew hp
  refine ⟨p, hcrew, fun z => (hp z).trans ?_⟩
  have hact : (s.modCrew c fun k => k.newSectors w (s.zoneIn w)).zoneActive z = s.zoneActive z := rfl
  have hdef : (s.modCrew c fun k => k.newSectors w (s.zoneIn w)).zoneDef z = s.zoneDef z := rfl
  rw [State.member_iff, State.crew_modCrew_self, hact, hdef, hm.pending, hm.live, hm.attended, hm.aside]
  simp only [Crew.within, List.mem_filter, State.zoneIn]
  by_cases hin : inSectors w (s.zoneDef z).sector = true <;> simp [hin]

theorem crewsOnly_reqSectors (c : Link) (w : Word16) (s : State) : CrewsOnly s (reqSectors c w s).2.2 :=
  CrewsOnly.trans (t := s.modCrew c fun k => k.newSectors w (s.zoneIn w)) rfl (foldl_rel (R := CrewsOnly) .refl .trans (fun s z => crewsOnly_admit c z s) ..)

/-- Settles O25: LIST and UNKNOWN leave the crew to the offer step, SECTORS is `crew_reqSectors` and that step. -/
theorem listSectorsUnknownAnswered : Obligations.ListSectorsUnknownAnswered := by
  unfold Obligations.ListSectorsUnknownAnswered
  have unknown : ∀ {s c kind payload}, Hands s c → parseRequest kind payload = .unknown → kind ≠ 0x08#8 → kind ≠ 0x09#8 →
      ∃ t, exec (.unknownRequest c kind payload) s = .next t ∧
        ArbitersOnly (offerStep c (placeReply c ⟨kind, 0x07#8, []⟩ s)) t := fun hs hreq h8 h9 =>
    answered hs rfl (by rw [hreq]; exact takeRequest_unknown h8 h9 ..)
  refine ⟨fun s c hs => ⟨answered hs rfl rfl, fun kind payload hk => ?_, fun kind payload h => ?_⟩, fun s c w hs => ?_⟩
  · refine unknown hs (parseRequest_of_kind hk payload) ?_ ?_ <;> rintro rfl <;> exact absurd hk (by decide)
  · rcases h with ⟨hk, hlen⟩ | ⟨hk, hp⟩
    · refine unknown hs (parseRequest_of_length hk hlen) ?_ ?_ <;> rintro rfl <;> exact absurd hk (by decide)
    · refine unknown hs (parseRequest_of_payload hk hp) ?_ ?_ <;> rintro rfl <;> exact absurd hk (by decide)
  · have step := (crewFitStep_reqSectors c w s).toCrewStep
    obtain ⟨p, hcrew, hp⟩ := crew_reqSectors c w s
    have hm := marksOnly_newSectors (s.crew c) w (s.zoneIn w)
    have hans := answered_settle step.cl step.crews rSectors .ok []
    have hk := hans.crew
    rw [hcrew] at hk
    refine ⟨_, ?_, hans.replies, ?_, ?_, fun z => ?_, fun z => ?_, fun z d ho hz => ⟨hans.offer z ?_ ?_, fun hc hi => ?_⟩,
      ?_, ?_, hans.others, (step.linksOnly.trans hans.only).of_zp (hans.zp.trans ?_)⟩
    · exact congrArg Host.Outcome.next (crewRow_handed hs ..)
    · rw [hk]
      exact hm.live
    · rw [hk]
      exact hm.attended
    · rw [hk]
      exact hp z
    · rw [hk]
      exact (iff_of_eq (congrArg (z ∈ ·) hm.aside)).trans List.mem_filter
    · rw [hcrew, hp, hz]
      exact fun h => absurd h.1 (by decide)
    · rw [hcrew, hm.offer, Bool.eq_false_iff, ne_eq, Offer.names_within]
      exact fun h => absurd (hz.symm.trans h.2) (by decide)
    · rw [hk]
      exact Crew.mark_newSectors_out ho hz hc hi
    · rw [hk]
      exact hm.systemDue
    · rw [hk]
      exact hm.rc
    · rw [crewsOnly_reqSectors c w s]

end Sys2Proof.Machine
end

section
/-! A crew's rank and its eligible zones (R84, R85). -/

namespace Sys2Proof.Machine

/-! ### The rank's order (R84) -/

theorem rotationDistance_cast (rc z : Nat) : (rotationDistance rc z : Int) = ((z : Int) - rc - 1) % 1023 :=
  Int.toNat_of_nonneg (Int.emod_nonneg _ (by decide))

/-- Two zones at the same cyclic distance from a rotation point are the same zone. -/
theorem rotationDistance_inj {rc y z : Nat} (hy : 1 ≤ y ∧ y ≤ 1023) (hz : 1 ≤ z ∧ z ≤ 1023)
    (h : rotationDistance rc y = rotationDistance rc z) : y = z := by
  have h' := congrArg (Nat.cast (R := Int)) h
  rw [rotationDistance_cast, rotationDistance_cast] at h'
  omega

theorem State.ranksBefore_iff (s : State) (rc y z : Nat) : s.ranksBefore rc y z = true ↔
    s.urgencyOf z < s.urgencyOf y ∨ s.urgencyOf y = s.urgencyOf z ∧ rotationDistance rc y < rotationDistance rc z := by
  simp [State.ranksBefore]

theorem State.ranksBefore_trans {s : State} {rc x y z : Nat} (h : s.ranksBefore rc x y = true)
    (g : s.ranksBefore rc y z = true) : s.ranksBefore rc x z = true := by
  rw [State.ranksBefore_iff] at *
  omega

/-- Of two zones one ranks before the other. -/
theorem State.ranksBefore_total (s : State) (rc : Nat) {y z : Nat} (hy : 1 ≤ y ∧ y ≤ 1023) (hz : 1 ≤ z ∧ z ≤ 1023)
    (hne : y ≠ z) : s.ranksBefore rc y z = true ∨ s.ranksBefore rc z y = true := by
  have hd : rotationDistance rc y ≠ rotationDistance rc z := mt (rotationDistance_inj hy hz) hne
  rw [State.ranksBefore_iff, State.ranksBefore_iff]
  omega

/-! ### The rank is the pending zones, sorted -/

theorem State.perm_rankPlace (s : State) (rc : Nat) (l : List Nat) (z : Nat) : (s.rankPlace rc l z).Perm (z :: l) := by
  induction l with
  | nil => exact .rfl
  | cons y l ih =>
    unfold State.rankPlace
    split
    · exact .rfl
    · exact (ih.cons y).trans (.swap ..)

/-- A zone put at its place keeps a list in order. -/
theorem State.pairwise_rankPlace {s : State} {rc : Nat} {l : List Nat} {z : Nat}
    (h : l.Pairwise fun x y => s.ranksBefore rc x y = true)
    (htotal : ∀ y ∈ l, s.ranksBefore rc y z = true ∨ s.ranksBefore rc z y = true) :
    (s.rankPlace rc l z).Pairwise fun x y => s.ranksBefore rc x y = true := by
  induction l with
  | nil => exact List.pairwise_singleton ..
  | cons y l ih =>
    obtain ⟨hfirst, hrest⟩ := List.pairwise_cons.1 h
    obtain ⟨hy, htotal⟩ := List.forall_mem_cons.1 htotal
    unfold State.rankPlace
    split
    · rename_i hz
      exact List.pairwise_cons.2 ⟨List.forall_mem_cons.2 ⟨hz, fun x hx => s.ranksBefore_trans hz (hfirst x hx)⟩, h⟩
    · rename_i hz
      refine List.pairwise_cons.2 ⟨fun x hx => ?_, ih hrest htotal⟩
      rcases (s.mem_rankPlace rc l z x).1 hx with rfl | hx
      · exact hy.resolve_right hz
      · exact hfirst x hx

theorem State.perm_rankAll (s : State) (rc : Nat) (l acc : List Nat) :
    (l.foldl (s.rankPlace rc) acc).Perm (l ++ acc) := by
  induction l generalizing acc with
  | nil => exact .rfl
  | cons z l ih => exact (ih _).trans (((s.perm_rankPlace rc acc z).append_left l).trans List.perm_middle)

/-- Zones put at their places in turn, each comparable with those before it, keep a list in order. -/
theorem State.pairwise_rankAll {s : State} {rc : Nat} {l acc : List Nat}
    (hacc : acc.Pairwise fun x y => s.ranksBefore rc x y = true)
    (htotal : (acc ++ l).Pairwise fun y z => s.ranksBefore rc y z = true ∨ s.ranksBefore rc z y = true) :
    (l.foldl (s.rankPlace rc) acc).Pairwise fun x y => s.ranksBefore rc x y = true := by
  induction l generalizing acc with
  | nil => exact hacc
  | cons z l ih =>
    refine ih (State.pairwise_rankPlace hacc fun y hy =>
      (List.pairwise_append.1 htotal).2.2 y hy z List.mem_cons_self) ?_
    have hperm : (acc ++ z :: l).Perm (s.rankPlace rc acc z ++ l) :=
      List.perm_middle.trans ((s.perm_rankPlace rc acc z).symm.append_right l)
    exact hperm.pairwise htotal (fun h => h.symm)

/-! ### Eligibility (R85) -/

theorem foldl_max_lt (u : Nat → Nat) (l : List Nat) (m n : Nat) :
    l.foldl (fun m z => max m (u z)) m < n ↔ m < n ∧ ∀ y ∈ l, u y < n := by
  induction l generalizing m with
  | nil => simp
  | cons y l ih => rw [List.foldl_cons, ih, max_lt_iff, List.forall_mem_cons, and_assoc]

theorem State.eligible_iff (s : State) (c : Link) (z : Nat) : s.eligible c z = true ↔
    (s.profile c).mode = .openMode ∨ ∀ y ∈ (s.crew c).attended, s.urgencyOf y < s.urgencyOf z := by
  simp only [State.eligible, Bool.or_eq_true, beq_iff_eq, List.isEmpty_iff, decide_eq_true_eq, State.threshold,
    foldl_max_lt, or_assoc]
  refine or_congr_right ⟨?_, fun h => ?_⟩
  · rintro (hnil | ⟨-, h⟩)
    · simp [hnil]
    · exact h
  · cases hatt : (s.crew c).attended with
    | nil => exact .inl rfl
    | cons y l =>
      rw [hatt] at h
      exact .inr ⟨(Nat.zero_le _).trans_lt (h y List.mem_cons_self), h⟩

/-- In a list ordered by `R`, what holds of a member holds of all before it: the members of which it holds are a head. -/
theorem head_of_pairwise {R : Nat → Nat → Prop} {p : Nat → Prop} (hp : ∀ x y, R x y → p y → p x) {l : List Nat}
    (h : l.Pairwise R) : ∃ k, ∀ (i z : Nat), l[i]? = some z → (p z ↔ i < k) := by
  induction l with
  | nil => exact ⟨0, by simp⟩
  | cons x l ih =>
    obtain ⟨hfirst, hrest⟩ := List.pairwise_cons.1 h
    by_cases hx : p x
    · obtain ⟨k, hk⟩ := ih hrest
      refine ⟨k + 1, fun i z hi => ?_⟩
      cases i with
      | zero =>
        obtain rfl : x = z := by simpa using hi
        exact iff_of_true hx (Nat.zero_lt_succ k)
      | succ i => exact (hk i z (by simpa using hi)).trans Nat.succ_lt_succ_iff.symm
    · refine ⟨0, fun i z hi => iff_of_false (fun hz => hx ?_) (Nat.not_lt_zero i)⟩
      rcases List.mem_cons.1 (List.mem_of_getElem? hi) with rfl | hm
      · exact hz
      · exact hp x z (hfirst z hm) hz

/-- Settles O21: the rank is an insertion sort by a total order, and an eligible zone stays so at a higher urgency. -/
theorem rankOrdersPending : Obligations.RankOrdersPending := by
  unfold Obligations.RankOrdersPending
  intro s c hasc hrange
  have htotal : (s.crew c).pending.Pairwise fun y z =>
      s.ranksBefore (s.crew c).rc y z = true ∨ s.ranksBefore (s.crew c).rc z y = true :=
    hasc.imp_of_mem fun hy hz hlt => s.ranksBefore_total _ (hrange _ hy) (hrange _ hz) (ne_of_lt hlt)
  have hsorted : (s.rank c).Pairwise fun y z => s.ranksBefore (s.crew c).rc y z = true :=
    State.pairwise_rankAll List.Pairwise.nil htotal
  have hperm := s.perm_rankAll (s.crew c).rc (s.crew c).pending []
  rw [List.append_nil] at hperm
  refine ⟨hperm, hsorted.imp fun {y z} h => ?_, fun z _ => s.eligible_iff c z,
    head_of_pairwise (fun y z h hz => ?_) hsorted⟩
  · rw [← rotationDistance_cast, ← rotationDistance_cast, Int.ofNat_lt]
    exact (s.ranksBefore_iff ..).1 h
  · rw [State.eligible_iff] at hz ⊢
    have hle : s.urgencyOf z ≤ s.urgencyOf y := by
      rcases (s.ranksBefore_iff ..).1 h with hlt | ⟨heq, -⟩
      · exact hlt.le
      · exact heq.ge
    exact hz.imp_right fun ha x hx => (ha x hx).trans_le hle

end Sys2Proof.Machine
end

section
/-! The last character of a crew frame written (R129): its owner's completion and the requests that are then handed (R89,
R107, R123, R125, R149). -/

namespace Sys2Proof.Machine

/-! ### Requests handed in order (R123) -/

/-- `v` is the link unit `u` once it has handed the oldest `n` requests that wait, each answered by a reply that echoes its
kind byte. -/
def HandedBy (n : Nat) (u v : LinkUnit) : Prop :=
  ∃ placed, v = { u with waiting := u.waiting.drop n, replies := u.replies ++ placed, ctrlReady := v.ctrlReady } ∧
    placed.map Reply.kind = (u.waiting.take n).map (fun w => w.getD 2 0)

theorem HandedBy.zero (u : LinkUnit) : HandedBy 0 u u := ⟨[], by simp, rfl⟩

theorem HandedBy.add {n m : Nat} {u v w : LinkUnit} (h : HandedBy n u v) (g : HandedBy m v w) : HandedBy (n + m) u w := by
  obtain ⟨placed, hv, hkinds⟩ := h
  obtain ⟨more, hw, gkinds⟩ := g
  rw [hv] at hw gkinds
  refine ⟨placed ++ more, ?_, ?_⟩
  · rw [hw]
    simp only [List.drop_drop, List.append_assoc]
  · rw [List.map_append, hkinds, gkinds, List.take_add, List.map_append]

theorem HandedBy.lengths {n : Nat} {u v : LinkUnit} (h : HandedBy n u v) (hn : n ≤ u.waiting.length) :
    v.replies.length = u.replies.length + n ∧ v.waiting.length = u.waiting.length - n := by
  obtain ⟨placed, hv, hkinds⟩ := h
  have hlen : placed.length = n := by simpa [hn] using congrArg List.length hkinds
  rw [hv]
  simp [hlen]

theorem HandedBy.state {n : Nat} {u v : LinkUnit} (h : HandedBy n u v) : v.state = u.state := by
  obtain ⟨_, hv, -⟩ := h
  rw [hv]

theorem HandedBy.sending {n : Nat} {u v : LinkUnit} (h : HandedBy n u v) :
    v.writing = u.writing ∧ v.txFifo = u.txFifo := by
  obtain ⟨_, hv, -⟩ := h
  rw [hv]
  exact ⟨rfl, rfl⟩

theorem requestParts_kind (w : List Byte) : (requestParts w).1 = w.getD 2 0 := by
  match w with
  | [] | [_] | [_, _] | _ :: _ :: _ :: _ => rfl

/-- A request taken places one reply, which echoes its kind (R123, R125). -/
theorem link_takeRequest {c : Link} {s : State} (ha : s.attached c = true) (kind : Byte) (r : Request) :
    ∃ rep : Reply, rep.kind = kind ∧
      (takeRequest c kind r s).link c = { s.link c with replies := (s.link c).replies ++ [rep] } := by
  obtain ⟨a, ha, h⟩ := takeRequest_answer ha kind r
  have placed : (placeReply c (mkReply kind a.1 a.2.1) a.2.2).link c =
      { s.link c with replies := (s.link c).replies ++ [mkReply kind a.1 a.2.1] } := by
    rw [placeReply, State.link_modLink_self, State.link_of_cl ha.cl]
  refine ⟨mkReply kind a.1 a.2.1, rfl, ?_⟩
  rcases h with h | h <;> rw [h]
  · rw [answerNR, State.link_of_cl (offerStep_cl ..), placed]
  · exact placed

/-- With nothing to hand, or on a link that is not ATTACHED, nothing is handed. -/
theorem handOldest_idle {c : Link} {s : State} (h : s.attached c = false ∨ (s.link c).waiting = []) :
    handOldest c s = s := by
  unfold handOldest
  rcases h with h | h
  · rw [State.canHand, h]
    split <;> rfl
  · rw [h]

theorem link_handOldest {c : Link} {s : State} (ha : s.attached c = true) :
    HandedBy (min 1 (min (4 - (s.link c).replies.length) (s.link c).waiting.length)) (s.link c)
      ((handOldest c s).link c) := by
  unfold handOldest
  cases hw : (s.link c).waiting with
  | nil => simpa using HandedBy.zero (s.link c)
  | cons w rest =>
    dsimp only
    split
    · rename_i hc
      have hlen := ((s.canHand_iff c).1 hc).2
      have hn : min 1 (min (4 - (s.link c).replies.length) (w :: rest).length) = 1 := by
        rw [List.length_cons]
        omega
      have ha' : (s.modLink c fun u => ({ u with waiting := rest } : LinkUnit).judgeReady).attached c = true := by
        rw [State.attached_iff, State.link_modLink_self, LinkUnit.state_judgeReady]
        exact (s.attached_iff c).1 ha
      obtain ⟨rep, hkind, hrep⟩ := link_takeRequest ha' (requestParts w).1
        (parseRequest (requestParts w).1 (requestParts w).2)
      rw [hn, hrep, State.link_modLink_self, LinkUnit.judgeReady_eq]
      refine ⟨[rep], ?_, ?_⟩
      · rw [hw]
        rfl
      · rw [hw, List.map_singleton, hkind, requestParts_kind]
        rfl
    · rename_i hc
      have hlen : ¬ (s.link c).replies.length < 4 := fun h => hc ((s.canHand_iff c).2 ⟨ha, h⟩)
      have hn : min 1 (min (4 - (s.link c).replies.length) (w :: rest).length) = 0 := by omega
      rw [hn]
      exact .zero _

/-- Of the waiting requests as many are handed as the reply queue has room for. -/
theorem link_handWaiting (c : Link) (s : State) : ∃ n, HandedBy n (s.link c) ((handWaiting c s).link c) ∧
    (s.attached c = true → n = min (4 - (s.link c).replies.length) (s.link c).waiting.length) := by
  cases ha : s.attached c with
  | false =>
    have hidle := handOldest_idle (c := c) (s := s) (.inl ha)
    refine ⟨0, ?_, fun h => by cases h⟩
    rw [handWaiting, hidle, hidle, hidle, hidle]
    exact .zero _
  | true =>
    have steps : ∀ k, HandedBy (min k (min (4 - (s.link c).replies.length) (s.link c).waiting.length)) (s.link c)
        (((handOldest c)^[k] s).link c) := by
      intro k
      induction k with
      | zero => simpa using HandedBy.zero (s.link c)
      | succ k ih =>
        rw [Function.iterate_succ_apply']
        have ht : ((handOldest c)^[k] s).attached c = true := by
          rw [State.attached_iff, ih.state]
          exact (s.attached_iff c).1 ha
        obtain ⟨hreplies, hwaiting⟩ := ih.lengths (by omega)
        have hstep := ih.add (link_handOldest ht)
        rw [hreplies, hwaiting] at hstep
        convert hstep using 1
        omega
    refine ⟨_, steps 4, fun _ => ?_⟩
    omega

/-! ### The owner's completion -/

/-- What a frame's completion leaves of its link: the writer and the transmit FIFO. -/
theorem ownerComplete_sending (c : Link) (o : Owner) (s : State) :
    ((ownerComplete c o s).link c).writing = (s.link c).writing ∧
      ((ownerComplete c o s).link c).txFifo = (s.link c).txFifo := by
  cases o with
  | reply =>
    obtain ⟨n, h, -⟩ := link_handWaiting c (s.modLink c fun u => { u with replies := u.replies.drop 1 })
    rw [State.link_modLink_self] at h
    exact h.sending
  | notice =>
    have h : (noticeComplete c s).link c = s.link c := (crewFitStep_noticeComplete c s).toCrewStep.link c
    exact ⟨by rw [ownerComplete, h], by rw [ownerComplete, h]⟩
  | sheet i =>
    have h : (spanComplete c i s).link c = s.link c := by
      unfold spanComplete
      dsimp only
      split
      · rfl
      · split
        · exact (streamerOnly_startTransfer c _).link c
        · rfl
    exact ⟨by rw [ownerComplete, h], by rw [ownerComplete, h]⟩

/-- What the completion of a notice means for it, before the offer step (R89, R107). -/
def noticeTaken (c : Link) (f : Flight) (s : State) : State :=
  match f.kind with
  | .system => s.modCrew c (fun k => k.systemComplete f.renewed)
  | .mark m => s.modCrew c (fun k => k.markComplete m f.zone f.renewed)
  | .offer => offerComplete c f.zone s

theorem noticeComplete_eq {c : Link} {s : State} {f : Flight} (h : (s.crew c).flight = some f) :
    noticeComplete c s = offerStep c ((noticeTaken c f s).modCrew c fun k => { k with flight := none }) := by
  rw [noticeComplete, h]
  rfl

theorem crew_noticeComplete {c : Link} {s : State} {f : Flight} (h : (s.crew c).flight = some f) :
    (noticeComplete c s).crew c = { (noticeTaken c f s).crew c with
      flight := none, offer := ((noticeTaken c f s).modCrew c fun k => { k with flight := none }).offerAfter c } := by
  rw [noticeComplete_eq h, crew_offerStep, if_pos rfl, State.crew_modCrew_self]

theorem systemDue_noticeComplete {c : Link} {s : State} {renewed : Bool}
    (h : (s.crew c).flight = some ⟨.system, 0, renewed⟩) :
    ((noticeComplete c s).crew c).systemDue = ((s.crew c).systemDue && renewed) := by
  rw [crew_noticeComplete h]
  exact congrArg Crew.systemDue (s.crew_modCrew_self c fun k => k.systemComplete renewed)

theorem mark_noticeComplete {c : Link} {s : State} {m : Mark} {z : Nat} {renewed : Bool}
    (h : (s.crew c).flight = some ⟨.mark m, z, renewed⟩) (y : Nat) : ((noticeComplete c s).crew c).mark y =
      if y = z ∧ (s.crew c).mark z = some m ∧ renewed = false then none else (s.crew c).mark y := by
  rw [crew_noticeComplete h]
  refine (congrArg (Crew.mark · y) (s.crew_modCrew_self c fun k => k.markComplete m z renewed)).trans ?_
  rw [Crew.markComplete]
  split
  · rename_i hm
    rw [Crew.mark_dropMark]
    simp [hm]
  · rename_i hm
    rw [if_neg fun h => hm h.2]

/-- The offer step leaves an OUT offer. -/
theorem State.offerAfter_out {s : State} {c : Link} {z d : Nat} (h : (s.crew c).offer = .out z d) :
    s.offerAfter c = .out z d := by rw [State.offerAfter, h]

/-- The completed OFFER of a pending zone is OUT, to the deadline of R89. -/
theorem offer_noticeComplete {c : Link} {s : State} {z : Nat} {renewed : Bool}
    (h : (s.crew c).flight = some ⟨.offer, z, renewed⟩) (hz : z ∈ (s.crew c).pending) :
    ((noticeComplete c s).crew c).offer = .out z (s.uptime + s.config.offerTimeout) := by
  have hout : (offerComplete c z s).crew c = { s.crew c with offer := .out z (s.uptime + s.config.offerTimeout) } := by
    unfold offerComplete
    dsimp only
    rw [if_pos (List.contains_iff_mem.2 hz), State.crew_setCrew_self]
  rw [crew_noticeComplete h]
  refine State.offerAfter_out ?_
  rw [State.crew_modCrew_self]
  exact congrArg Crew.offer hout

/-- A span's completion that is not the final one moves the drain on (R149). -/
theorem slot_spanComplete_next {c : Link} {i : BufId} {s : State} (hd : ((s.slot c).buf i).discarded = false)
    (hf : ((s.slot c).buf i).final = false) {tr : Transfer} (htr : (s.slot c).transfer = some tr) :
    ((spanComplete c i s).slot c).queue = (s.slot c).queue ∧
      ((spanComplete c i s).slot c).transfer = some { tr with drainSpan := tr.drainSpan + 1 } := by
  unfold spanComplete
  dsimp only
  rw [hd, if_neg (by decide), hf, if_neg (by decide), State.slot_setSlot_self]
  simp [htr]

theorem State.newTransfer_drainSpan (s : State) (i : Nat) : (s.newTransfer i).drainSpan = 0 := by
  unfold State.newTransfer
  dsimp only
  split <;> rfl

/-- The final span's completion ends the transfer, and the next sheet of the queue starts (R137, R149). -/
theorem slot_spanComplete_final {c : Link} {i : BufId} {s : State} (hd : ((s.slot c).buf i).discarded = false)
    (hf : ((s.slot c).buf i).final = true) :
    ((s.slot c).queue = [] → ((spanComplete c i s).slot c).transfer = none) ∧
      ∀ j rest, (s.slot c).queue = j :: rest → ((spanComplete c i s).slot c).queue = rest ∧
        ∃ tr, ((spanComplete c i s).slot c).transfer = some tr ∧ tr.sheet = j ∧ tr.drainSpan = 0 := by
  have hdone : spanComplete c i s = startTransfer c (s.setSlot c
      { (s.slot c).setBuf i SpanBuf.emptied with transfer := none }) := by
    unfold spanComplete
    dsimp only
    rw [hd, if_neg (by decide), hf, if_pos rfl]
  rw [hdone, startTransfer, State.slot_setSlot_self, SheetSlot.setBuf_queue]
  refine ⟨fun hq => ?_, fun j rest hq => ?_⟩ <;> rw [hq]
  · dsimp only
    rw [State.slot_setSlot_self]
  · dsimp only
    rw [State.slot_setSlot_self]
    exact ⟨rfl, _, rfl, State.newTransfer_sheet .., State.newTransfer_drainSpan ..⟩

/-! ### The transmit FIFO at the end of an event -/

theorem LinkUnit.txFifo_filled (u : LinkUnit) : ∃ more, u.filled.txFifo = u.txFifo ++ more := by
  cases h : u.writing with
  | none => exact ⟨[], by rw [LinkUnit.filled_idle h, List.append_nil]⟩
  | some w =>
    rw [LinkUnit.filled_writing h]
    exact ⟨_, rfl⟩

/-- A link's frame arbiter only adds to its transmit FIFO. -/
theorem txFifo_linkArbiter (c : Link) (s : State) : ∃ more,
    ((linkArbiter c s).link c).txFifo = (s.link c).txFifo ++ more := by
  have begun : ∀ {o cs t}, t.link c = s.link c → ∃ more,
      ((beginFrame c o cs t).link c).txFifo = (s.link c).txFifo ++ more := fun {o cs t} ht => by
    rw [link_beginFrame, if_pos rfl, ht]
    exact LinkUnit.txFifo_filled _
  have same : ∃ more, (s.link c).txFifo = (s.link c).txFifo ++ more := ⟨[], by rw [List.append_nil]⟩
  unfold linkArbiter
  split
  · split
    · exact begun rfl
    · split
      · exact begun rfl
      · split
        · exact begun rfl
        · exact same
  · exact same

theorem txFifo_settle (c : Link) (s : State) : ∃ more,
    ((settle s).link c).txFifo = (s.link c).txFifo ++ more := by
  obtain ⟨v, hv, hset⟩ := settle_link s c
  rw [hset.1, ← (streamerOnly_readerArbiter s).link c, ← hv.1]
  exact txFifo_linkArbiter c v

/-! ### The row's two steps -/

/-- A link's state once the last character `ch` of a frame of `o` has entered the transmit FIFO and the owner has taken the
completion, before the arbiters choose (R129). -/
def State.written (s : State) (c : Link) (o : Owner) (ch : OutChar) : State :=
  ownerComplete c o (noteDrained c o (dataCount [ch])
    (s.setLink c { s.link c with writing := none, txFifo := (s.link c).txFifo ++ [ch.ch] }))

theorem exec_crewFrameWritten {s : State} {c : Link} {o : Owner} {ch : OutChar} (hrun : s.running = true)
    (hw : (s.link c).writing = some ⟨o, [ch]⟩) (hlen : (s.link c).txFifo.length < 64) :
    exec (.crewFrameWritten c) s = .next (settle (s.written c o ch)) := by
  refine congrArg Host.Outcome.next ((whenRunning_of_running hrun _).trans ?_)
  unfold frameWritten
  dsimp only
  rw [hw]
  dsimp only
  rw [if_pos hlen]
  rfl

theorem written_sending (s : State) (c : Link) (o : Owner) (ch : OutChar) : ((s.written c o ch).link c).writing = none ∧
    ((s.written c o ch).link c).txFifo = (s.link c).txFifo ++ [ch.ch] := by
  obtain ⟨hwriting, hfifo⟩ := ownerComplete_sending c o (noteDrained c o (dataCount [ch])
    (s.setLink c { s.link c with writing := none, txFifo := (s.link c).txFifo ++ [ch.ch] }))
  rw [State.link_of_cl (noteDrained_cl_nr ..).1, State.link_setLink_self] at hwriting hfifo
  exact ⟨hwriting, hfifo⟩

/-- A reply's completion: it leaves the queue, and waiting requests are handed in order (R123, R125). -/
theorem handed_settle (s : State) (c : Link) (ch : OutChar) :
    ((s.link c).state = .attached → HandedInOrder ((s.link c).replies.drop 1) (s.link c).waiting
      ((settle (s.written c .reply ch)).link c)) ∧
    ((s.link c).waiting = [] → ((settle (s.written c .reply ch)).link c).replies = (s.link c).replies.drop 1) := by
  obtain ⟨n, ⟨placed, hv, hkinds⟩, hn⟩ := link_handWaiting c ((s.setLink c { s.link c with
    writing := none, txFifo := (s.link c).txFifo ++ [ch.ch] }).modLink c fun u => { u with replies := u.replies.drop 1 })
  rw [State.link_modLink_self, State.link_setLink_self] at hv hkinds hn
  have hset := (arbitersOnly_settle (s.written c .reply ch)).link c
  have hx : (s.written c .reply ch).link c = _ := hv
  rw [hset, hx]
  refine ⟨fun ha => ⟨n, placed, hn ?_, rfl, rfl, hkinds⟩, fun hw => ?_⟩
  · rw [State.attached_iff, State.link_modLink_self, State.link_setLink_self]
    exact ha
  · have hnone : placed.map Reply.kind = [] := by
      rw [hkinds]
      simp [hw]
    rw [List.map_eq_nil_iff.1 hnone]
    exact List.append_nil _

/-- A notice's completion, with the crew as it was (R107). -/
theorem written_notice (s : State) (c : Link) (ch : OutChar) : ∃ u, s.written c .notice ch = noticeComplete c u ∧
    u.crew c = s.crew c ∧ u.uptime = s.uptime ∧ u.config = s.config :=
  ⟨s.setLink c { s.link c with writing := none, txFifo := (s.link c).txFifo ++ [ch.ch] }, rfl, rfl, rfl, rfl⟩

theorem ArbitersOnly.systemDue {s t : State} (h : ArbitersOnly s t) (c : Link) :
    (t.crew c).systemDue = (s.crew c).systemDue := by rw [h.crew c]

theorem ArbitersOnly.offer {s t : State} (h : ArbitersOnly s t) (c : Link) : (t.crew c).offer = (s.crew c).offer := by
  rw [h.crew c]

theorem systemDue_settle {s : State} {c : Link} {ch : OutChar} {renewed : Bool}
    (hf : (s.crew c).flight = some ⟨.system, 0, renewed⟩) :
    ((settle (s.written c .notice ch)).crew c).systemDue = ((s.crew c).systemDue && renewed) := by
  obtain ⟨u, hu, hcrew, -⟩ := written_notice s c ch
  rw [← hcrew] at hf ⊢
  rw [(arbitersOnly_settle _).systemDue, hu]
  exact systemDue_noticeComplete hf

theorem mark_settle {s : State} {c : Link} {ch : OutChar} {m : Mark} {z : Nat} {renewed : Bool}
    (hf : (s.crew c).flight = some ⟨.mark m, z, renewed⟩) (y : Nat) : ((settle (s.written c .notice ch)).crew c).mark y =
      if y = z ∧ (s.crew c).mark z = some m ∧ renewed = false then none else (s.crew c).mark y := by
  obtain ⟨u, hu, hcrew, -⟩ := written_notice s c ch
  rw [← hcrew] at hf ⊢
  rw [(arbitersOnly_settle _).mark, hu]
  exact mark_noticeComplete hf y

theorem offer_settle {s : State} {c : Link} {ch : OutChar} {z : Nat} {renewed : Bool}
    (hf : (s.crew c).flight = some ⟨.offer, z, renewed⟩) (hz : z ∈ (s.crew c).pending) :
    ((settle (s.written c .notice ch)).crew c).offer = .out z (s.uptime + s.config.offerTimeout) := by
  obtain ⟨u, hu, hcrew, hup, hconf⟩ := written_notice s c ch
  rw [← hcrew] at hf hz
  rw [(arbitersOnly_settle _).offer, hu, ← hup, ← hconf]
  exact offer_noticeComplete hf hz

/-- A span's completion, on a slot that counts the frame's last data byte (R148, R149). -/
theorem written_span {s : State} {c : Link} {i : BufId} (ch : OutChar) : ∃ u, s.written c (.sheet i) ch = spanComplete c i u ∧
    (u.slot c).queue = (s.slot c).queue ∧ (u.slot c).transfer = (s.slot c).transfer ∧
    ((u.slot c).buf i).discarded = ((s.slot c).buf i).discarded ∧
    ((u.slot c).buf i).final = ((s.slot c).buf i).final := by
  refine ⟨_, rfl, ?_⟩
  rw [noteDrained, State.slot_setSlot_self]
  simp

theorem written_span_next {s : State} {c : Link} {i : BufId} (ch : OutChar) (hd : ((s.slot c).buf i).discarded = false)
    (hf : ((s.slot c).buf i).final = false) {tr : Transfer} (htr : (s.slot c).transfer = some tr) :
    ((s.written c (.sheet i) ch).slot c).queue = (s.slot c).queue ∧
      ((s.written c (.sheet i) ch).slot c).transfer = some { tr with drainSpan := tr.drainSpan + 1 } := by
  obtain ⟨u, hu, hqueue, htransfer, hdisc, hfinal⟩ := written_span (s := s) (c := c) (i := i) ch
  rw [hu, ← hqueue]
  exact slot_spanComplete_next (hdisc.trans hd) (hfinal.trans hf) (htransfer.trans htr)

theorem written_span_final {s : State} {c : Link} {i : BufId} (ch : OutChar) (hd : ((s.slot c).buf i).discarded = false)
    (hf : ((s.slot c).buf i).final = true) :
    ((s.slot c).queue = [] → ((s.written c (.sheet i) ch).slot c).transfer = none) ∧
      ∀ j rest, (s.slot c).queue = j :: rest → ((s.written c (.sheet i) ch).slot c).queue = rest ∧
        ∃ tr, ((s.written c (.sheet i) ch).slot c).transfer = some tr ∧ tr.sheet = j ∧ tr.drainSpan = 0 := by
  obtain ⟨u, hu, hqueue, -, hdisc, hfinal⟩ := written_span (s := s) (c := c) (i := i) ch
  rw [hu, ← hqueue]
  exact slot_spanComplete_final (hdisc.trans hd) (hfinal.trans hf)

theorem span_settle_next {s : State} {c : Link} {i : BufId} {ch : OutChar} (hd : ((s.slot c).buf i).discarded = false)
    (hf : ((s.slot c).buf i).final = false) {tr : Transfer} (htr : (s.slot c).transfer = some tr) :
    ((settle (s.written c (.sheet i) ch)).slot c).queue = (s.slot c).queue ∧
      ((settle (s.written c (.sheet i) ch)).slot c).transfer.map Transfer.sheet = some tr.sheet ∧
      ((settle (s.written c (.sheet i) ch)).slot c).transfer.map Transfer.drainSpan = some (tr.drainSpan + 1) := by
  have harb := arbitersOnly_settle (s.written c (.sheet i) ch)
  obtain ⟨hqueue, hnext⟩ := written_span_next ch hd hf htr
  rw [harb.queue, harb.sheet, harb.drainSpan, hqueue, hnext]
  exact ⟨rfl, rfl, rfl⟩

theorem span_settle_final {s : State} {c : Link} {i : BufId} {ch : OutChar} (hd : ((s.slot c).buf i).discarded = false)
    (hf : ((s.slot c).buf i).final = true) :
    ((s.slot c).queue = [] → ((settle (s.written c (.sheet i) ch)).slot c).transfer = none) ∧
      ∀ j rest, (s.slot c).queue = j :: rest → ((settle (s.written c (.sheet i) ch)).slot c).queue = rest ∧
        ((settle (s.written c (.sheet i) ch)).slot c).transfer.map Transfer.sheet = some j ∧
        ((settle (s.written c (.sheet i) ch)).slot c).transfer.map Transfer.drainSpan = some 0 := by
  have harb := arbitersOnly_settle (s.written c (.sheet i) ch)
  obtain ⟨hempty, hnext⟩ := written_span_final ch hd hf
  refine ⟨fun hq => ?_, fun j rest hq => ?_⟩
  · have hsheet := harb.sheet c
    rw [hempty hq] at hsheet
    exact Option.map_eq_none_iff.1 hsheet
  · obtain ⟨hqueue, tr, htr, hsheet, hdrain⟩ := hnext j rest hq
    rw [harb.queue, harb.sheet, harb.drainSpan, htr]
    exact ⟨hqueue, congrArg some hsheet, congrArg some hdrain⟩

end Sys2Proof.Machine
end

section
/-! The line characters of a crew frame (R129), the data bytes among them (R148), and a frame begun on a link (R128). -/

namespace Sys2Proof.Machine

/-! ### Line characters (R129) -/

theorem map_outChars (data : Bool) (bs : List Byte) : (outChars data bs).map OutChar.ch = escape bs := by
  rw [outChars, List.map_flatMap, escape]
  congr 1
  funext b
  rw [escapeOne]
  split <;> rfl

theorem length_outChars (data : Bool) (bs : List Byte) : (outChars data bs).length = (escape bs).length := by
  rw [← map_outChars data, List.length_map]

theorem escape_append (bs cs : List Byte) : escape (bs ++ cs) = escape bs ++ escape cs := List.flatMap_append

theorem outChars_cons (data : Bool) (b : Byte) (bs : List Byte) :
    outChars data (b :: bs) = outChars data [b] ++ outChars data bs := List.flatMap_append (xs := [b])

theorem map_frameChars (kind : Byte) (payload : List Byte) :
    (frameChars (crewFrame kind payload)).map OutChar.ch = frameLine kind payload := by
  rw [frameChars, List.map_cons, map_outChars]
  rfl

/-- A SHEET frame's characters: those of its first bytes, of its data and of its check. -/
theorem sheetChars_eq (header data : List Byte) : ∃ front, front.length = header.length + 3 ∧
    frameBody 0x47#8 (header ++ data) = front ++ data ∧
    sheetChars header data = (⟨startMark, false⟩ :: outChars false front) ++
      (outChars true data ++ outChars false (be16 (crc (front ++ data)))) := by
  refine ⟨nat16 ((header ++ data).length + 1) ++ 0x47#8 :: header, ?_, ?_, ?_⟩
  · rw [List.length_append, List.length_cons, nat16, length_be16]
    omega
  · rw [frameBody, List.append_assoc, List.cons_append]
  · rw [sheetChars, List.cons_append, List.append_assoc]

theorem map_sheetChars (header data : List Byte) :
    (sheetChars header data).map OutChar.ch = frameLine 0x47#8 (header ++ data) := by
  obtain ⟨front, -, hbody, hchars⟩ := sheetChars_eq header data
  rw [hchars, frameLine, hbody, escape_append, escape_append, List.map_append, List.map_append, List.map_cons, map_outChars,
    map_outChars, map_outChars, List.append_assoc]
  rfl

/-! ### The data bytes among the characters (R148) -/

theorem dataCount_append (cs ds : List OutChar) : dataCount (cs ++ ds) = dataCount cs + dataCount ds := by
  rw [dataCount, List.filter_append, List.length_append]
  rfl

theorem dataCount_outChars (data : Bool) (bs : List Byte) :
    dataCount (outChars data bs) = if data then bs.length else 0 := by
  induction bs with
  | nil => cases data <;> rfl
  | cons b bs ih =>
    rw [outChars_cons, dataCount_append, ih]
    cases data <;> by_cases hb : needsEscape b = true <;> simp [outChars, hb, dataCount, Nat.add_comm]

theorem dataCount_take_of_none {cs : List OutChar} (h : dataCount cs = 0) (n : Nat) : dataCount (cs.take n) = 0 := by
  have hsplit := dataCount_append (cs.take n) (cs.drop n)
  rw [List.take_append_drop] at hsplit
  omega

theorem dataCount_front (front : List Byte) : dataCount (⟨startMark, false⟩ :: outChars false front) = 0 := by
  simpa [dataCount] using dataCount_outChars false front

/-- A part of one data byte's characters completes no byte. -/
theorem dataCount_take_one (b : Byte) {m : Nat} (h : m < (escape [b]).length) :
    dataCount ((outChars true [b]).take m) = 0 := by
  rw [← length_outChars true] at h
  by_cases hb : needsEscape b = true
  · have hone : outChars true [b] = [⟨escapeByte, false⟩, ⟨b ^^^ escapeMask, true⟩] := by simp [outChars, hb]
    rw [hone] at h ⊢
    have hm : m = 0 ∨ m = 1 := by
      simp only [List.length_cons, List.length_nil] at h
      omega
    rcases hm with rfl | rfl <;> rfl
  · have hone : outChars true [b] = [⟨b, true⟩] := by simp [outChars, hb]
    rw [hone] at h ⊢
    have hm : m = 0 := by simpa using h
    subst hm
    rfl

/-- Of some data bytes' characters, and others that carry none, the first `m` complete as many data bytes as fit whole. -/
theorem dataCount_take (data : List Byte) {rest : List OutChar} (hrest : dataCount rest = 0) (m : Nat) :
    ∃ d, dataCount ((outChars true data ++ rest).take m) = d ∧ d ≤ data.length ∧
      (d = 0 ∨ (escape (data.take d)).length ≤ m) ∧ (d < data.length → m < (escape (data.take (d + 1))).length) := by
  induction data generalizing m with
  | nil => exact ⟨0, dataCount_take_of_none hrest m, le_rfl, .inl rfl, fun h => absurd h (by simp)⟩
  | cons b data ih =>
    rw [outChars_cons, List.append_assoc, List.take_append, dataCount_append, length_outChars]
    by_cases hm : m < (escape [b]).length
    · refine ⟨0, ?_, Nat.zero_le _, .inl rfl, fun _ => by simpa using hm⟩
      rw [dataCount_take_one b hm, Nat.sub_eq_zero_of_le hm.le]
      rfl
    · obtain ⟨d, hd, hle, hfit, hnext⟩ := ih (m - (escape [b]).length)
      have hwhole : dataCount ((outChars true [b]).take m) = 1 := by
        rw [List.take_of_length_le (by rw [length_outChars]; omega), dataCount_outChars]
        rfl
      have hcons : ∀ k, (escape ((b :: data).take (k + 1))).length =
          (escape [b]).length + (escape (data.take k)).length := fun k => by
        rw [List.take_succ_cons, ← List.singleton_append, escape_append, List.length_append]
      refine ⟨d + 1, by omega, by simpa using hle, .inr ?_, fun h => ?_⟩
      · rw [hcons]
        rcases hfit with rfl | hfit
        · simpa [escape] using not_lt.1 hm
        · omega
      · have := hnext (by simpa using h)
        rw [hcons]
        omega

theorem length_le_escape (bs : List Byte) : bs.length ≤ (escape bs).length := by
  induction bs with
  | nil => exact le_rfl
  | cons b bs ih =>
    have hone : 1 ≤ (escape [b]).length := by
      rw [escape, List.flatMap_singleton, escapeOne]
      split <;> simp
    rw [← List.singleton_append, escape_append, List.length_append, List.length_append]
    exact Nat.add_le_add hone ih

/-- The data bytes that the first `n` characters of a SHEET frame complete (R148). -/
theorem dataWritten_take {header : List Byte} (hh : header.length = 3) (data : List Byte) (n : Nat) :
    DataWritten header data n (dataCount ((sheetChars header data).take n)) := by
  obtain ⟨front, hlen, hbody, hchars⟩ := sheetChars_eq header data
  obtain ⟨d, hd, hle, hfit, hnext⟩ := dataCount_take data (rest := outChars false (be16 (crc (front ++ data))))
    (dataCount_outChars ..) (n - (1 + (escape front).length))
  have hcount : dataCount ((sheetChars header data).take n) = d := by
    rw [hchars, List.take_append, dataCount_append, dataCount_take_of_none (dataCount_front front), Nat.zero_add, List.length_cons,
      length_outChars, Nat.add_comm, hd]
  have htaken : ∀ k, (escape ((frameBody 0x47#8 (header ++ data)).take (6 + k))).length =
      (escape front).length + (escape (data.take k)).length := fun k => by
    rw [hbody, List.take_append, List.take_of_length_le (by omega), escape_append, List.length_append]
    congr 4
    omega
  rw [hcount]
  refine ⟨hle, ?_, fun h => ?_⟩
  · rw [htaken]
    rcases Nat.eq_zero_or_pos d with h0 | hpos
    · exact .inl h0
    · have hbytes := length_le_escape (data.take d)
      rw [List.length_take] at hbytes
      omega
  · have := hnext h
    rw [Nat.add_assoc 6, htaken]
    omega

theorem dataCount_sheetChars (header data : List Byte) : dataCount (sheetChars header data) = data.length := by
  obtain ⟨front, -, -, hchars⟩ := sheetChars_eq header data
  rw [hchars, dataCount_append, dataCount_front, dataCount_append, dataCount_outChars, dataCount_outChars]
  simp

/-! ### A frame begun (R128, R129) -/

/-- How many characters the writer writes into the free places at once: all but the last at most (log 4). -/
def LinkUnit.places (u : LinkUnit) (cs : List OutChar) : Nat := min (64 - u.txFifo.length) (cs.length - 1)

/-- A link unit once a frame's characters have been given to its writer. -/
def LinkUnit.begun (u : LinkUnit) (o : Owner) (cs : List OutChar) : LinkUnit :=
  { u with writing := some ⟨o, cs.drop (u.places cs)⟩, txFifo := u.txFifo ++ (cs.take (u.places cs)).map OutChar.ch }

theorem beginFrame_eq (c : Link) (o : Owner) (cs : List OutChar) (s : State) : beginFrame c o cs s =
    noteDrained c o (dataCount (cs.take ((s.link c).places cs))) (s.setLink c ((s.link c).begun o cs)) := by
  rw [beginFrame, writerFill, State.link_modLink_self]
  dsimp only
  congr 1
  rw [State.setLink, State.modLink, State.setLink, PerLink.set_set]
  rfl

theorem frameBegun {u : LinkUnit} {cs : List OutChar} {line : List Byte} (h : cs.map OutChar.ch = line) (o : Owner) :
    FrameBegun u (u.begun o cs) o line (u.places cs) := by
  subst h
  refine ⟨by rw [List.length_map]; rfl, cs.drop (u.places cs), ?_, List.map_drop⟩
  rw [LinkUnit.begun, List.map_take]

end Sys2Proof.Machine
end

section
/-! What a link's frame arbiter begins (R106, R108 to R110, R128, R148), and the row of a frame's last character. -/

namespace Sys2Proof.Machine

/-! ### The first due notice (R106) -/

theorem Crew.marks_nil {k : Crew} (hw : Tab.wf none k.marks = true) (h : ∀ y, k.mark y = none) : k.marks = [] := by
  obtain ⟨hsorted, hsome⟩ := (Tab.wf_iff none k.marks).1 hw
  rw [List.eq_nil_iff_forall_not_mem]
  exact fun e he => hsome e he ((Tab.get_of_mem hsorted he).symm.trans (h e.1))

theorem endingMark_eq_false {m : Option Mark} (h : m = none ∨ m = some .update) : endingMark m = false := by
  rcases h with rfl | rfl <;> rfl

/-- The first ending mark, when that of zone `z` is the first. -/
theorem Crew.find_ending {k : Crew} (hw : Tab.wf none k.marks = true) {m : Mark} {z : Nat} (hm : m ≠ .update)
    (hz : k.mark z = some m) (hfirst : ∀ y, y < z → k.mark y = none ∨ k.mark y = some .update) :
    k.marks.find? (fun e => endingMark e.2) = some (z, some m) := by
  obtain ⟨hsorted, -⟩ := (Tab.wf_iff none k.marks).1 hw
  have hmem : (z, some m) ∈ k.marks := by
    have h := Tab.mem_of_get (d := none) (t := k.marks) (k := z) (by rw [← Crew.mark, hz]; exact Option.some_ne_none m)
    rwa [← Crew.mark, hz] at h
  obtain ⟨before, after, hsplit⟩ := List.append_of_mem hmem
  refine List.find?_eq_some_iff_append.2 ⟨?_, before, after, hsplit, fun e he => ?_⟩
  · cases m with
    | update => exact absurd rfl hm
    | clear | isolate | withdrawn => rfl
  · have hlt : e.1 < z := (List.pairwise_append.1 (hsplit ▸ hsorted)).2.2 e he _ List.mem_cons_self
    have hget : k.mark e.1 = e.2 := Tab.get_of_mem hsorted (by rw [hsplit]; exact List.mem_append_left _ he)
    rw [← hget, endingMark_eq_false (hfirst e.1 hlt)]
    rfl

/-- No ending mark, when all that are held are UPDATE. -/
theorem Crew.find_no_ending {k : Crew} (hw : Tab.wf none k.marks = true)
    (h : ∀ y, k.mark y = none ∨ k.mark y = some .update) : k.marks.find? (fun e => endingMark e.2) = none := by
  obtain ⟨hsorted, -⟩ := (Tab.wf_iff none k.marks).1 hw
  refine List.find?_eq_none.2 fun e he => ?_
  have hget : k.mark e.1 = e.2 := Tab.get_of_mem hsorted he
  rw [← hget, endingMark_eq_false (h e.1)]
  decide

/-- The zones of a crew's UPDATE marks, ascending. -/
theorem Crew.mem_updates {k : Crew} (hw : Tab.wf none k.marks = true) (z : Nat) :
    z ∈ (k.marks.filter (fun e => e.2 == some .update)).map Prod.fst ↔ k.mark z = some .update := by
  obtain ⟨hsorted, -⟩ := (Tab.wf_iff none k.marks).1 hw
  simp only [List.mem_map, List.mem_filter, beq_iff_eq]
  constructor
  · rintro ⟨e, ⟨he, hu⟩, rfl⟩
    exact (Tab.get_of_mem hsorted he).trans hu
  · intro h
    have hmem := Tab.mem_of_get (d := none) (t := k.marks) (k := z) (by rw [← Crew.mark, h]; exact Option.some_ne_none _)
    rw [← Crew.mark, h] at hmem
    exact ⟨_, ⟨hmem, rfl⟩, rfl⟩

/-- The UPDATE mark that goes first: of highest urgency, the lowest zone among equals. -/
theorem State.firstUpdate_eq {s : State} {k : Crew} (hw : Tab.wf none k.marks = true) {z : Nat}
    (hz : k.mark z = some .update) (hbest : ∀ y, k.mark y = some .update →
      s.urgencyOf y < s.urgencyOf z ∨ s.urgencyOf y = s.urgencyOf z ∧ z ≤ y) : s.firstUpdate k = some z := by
  obtain ⟨hsorted, -⟩ := (Tab.wf_iff none k.marks).1 hw
  have hasc : ((k.marks.filter (fun e => e.2 == some .update)).map Prod.fst).Pairwise (· < ·) :=
    List.pairwise_map.2 (hsorted.filter _)
  have hmem := (Crew.mem_updates hw z).2 hz
  have hall : ∀ y ∈ (k.marks.filter (fun e => e.2 == some .update)).map Prod.fst,
      s.urgencyOf y < s.urgencyOf z ∨ s.urgencyOf y = s.urgencyOf z ∧ z ≤ y := fun y hy =>
    hbest y ((Crew.mem_updates hw y).1 hy)
  unfold State.firstUpdate
  generalize (k.marks.filter (fun e => e.2 == some .update)).map Prod.fst = l at hasc hmem hall
  cases l with
  | nil => simp at hmem
  | cons x l =>
    obtain ⟨b, before, after, hb, hsplit, hbefore, hafter⟩ := foldl_best s.urgencyOf x l
    rw [hsplit] at hasc hmem hall
    refine (congrArg some hb).trans (congrArg some ?_)
    have hbz := hall b (by simp)
    rcases List.mem_append.1 hmem with h | h
    · have := hbefore z h
      omega
    · rcases List.mem_cons.1 h with h | h
      · exact h.symm
      · have hlt : b < z := (List.pairwise_cons.1 (List.pairwise_append.1 hasc).2.1).1 z h
        have := hafter z h
        omega

theorem State.firstUpdate_none {s : State} {k : Crew} (h : k.marks = []) : s.firstUpdate k = none := by
  rw [State.firstUpdate, h]
  rfl

/-- The notice the arbiter takes is the first due one. -/
theorem State.nextNotice_of_firstDue {s : State} {c : Link} (hw : Tab.wf none (s.crew c).marks = true) {n : NoticeKind}
    {z : Nat} (h : FirstDue s c n z) : s.nextNotice c = some (n, z) := by
  unfold State.nextNotice
  dsimp only
  rcases h with ⟨rfl, rfl, hd⟩ | ⟨hd, m, hm, rfl, hz, hfirst⟩ | ⟨hd, hall, rfl, hz, hbest⟩ | ⟨hd, hall, rfl, ho⟩
  · rw [if_pos hd]
  · rw [hd, if_neg (by decide), Crew.find_ending hw hm hz hfirst]
  · rw [hd, if_neg (by decide), Crew.find_no_ending hw hall, State.firstUpdate_eq hw hz hbest]
  · rw [hd, if_neg (by decide), Crew.find_no_ending hw fun y => .inl (hall y),
      State.firstUpdate_none (Crew.marks_nil hw hall), ho]

theorem State.nextNotice_none {s : State} {c : Link} (hw : Tab.wf none (s.crew c).marks = true) (h : NothingDue s c) :
    s.nextNotice c = none := by
  obtain ⟨hd, hall, ho⟩ := h
  unfold State.nextNotice
  dsimp only
  rw [hd, if_neg (by decide), Crew.find_no_ending hw fun y => .inl (hall y),
    State.firstUpdate_none (Crew.marks_nil hw hall)]
  cases hoff : (s.crew c).offer with
  | none | out => rfl
  | due z => exact absurd hoff (ho z)

/-! ### What a notice says (R108 to R110) -/

/-- The alarm entry field of an OFFER or UPDATE (R109). -/
def State.entryField (s : State) (z : Nat) : Word32 :=
  match (s.zone z).alarmEntry with
  | some t => if (s.zone z).cond == .alarm then s.panelTimeOf t else 0
  | none => 0

theorem State.entryField_of_not_alarm {s : State} {z : Nat} (h : (s.zone z).cond ≠ .alarm) : s.entryField z = 0 := by
  unfold State.entryField
  split
  · simp [h]
  · rfl

theorem State.entryField_of_alarm {s : State} {z u : Nat} (h : (s.zone z).cond = .alarm)
    (hu : (s.zone z).alarmEntry = some u) : s.entryField z = s.panelTimeOf u := by
  rw [State.entryField, hu]
  simp [h]

theorem noticeSays (s : State) (c : Link) (n : NoticeKind) (z : Nat) :
    NoticeSays s c n z n.code (s.noticePayload c n z) := by
  refine ⟨s.noticeCommon, ?_, ?_, ?_, ?_, ?_, fun hn => ⟨?_, s.entryField z, _, rfl,
    State.entryField_of_not_alarm, fun u => State.entryField_of_alarm, ?_⟩⟩
  · rw [State.noticeCommon]
    cases s.sc.status <;> rfl
  · rintro rfl
    exact ⟨rfl, rfl⟩
  · rintro rfl
    exact ⟨rfl, rfl⟩
  · rintro rfl
    exact ⟨rfl, rfl⟩
  · rintro rfl
    exact ⟨rfl, rfl⟩
  · rcases hn with rfl | rfl <;> rfl
  · have hpayload : s.noticePayload c n z = s.zoneContent z := by rcases hn with rfl | rfl <;> rfl
    have hflag : (if (s.zone z).cond = .alarm then 16 else 0) = ((s.zone z).cond == .alarm).toNat * 16 := by
      cases (s.zone z).cond <;> rfl
    rw [hpayload, hflag]
    rfl

/-! ### What the arbiter begins (R128, R148) -/

theorem linkArbiter_idle {c : Link} {s : State} (h : ¬ MayBegin s c) : linkArbiter c s = s := by
  rw [linkArbiter, if_neg fun hm => h ((s.mayBegin_iff c).1 hm)]

theorem linkArbiter_reply {c : Link} {s : State} (h : MayBegin s c) {r : Reply} {rest : List Reply}
    (hr : (s.link c).replies = r :: rest) : linkArbiter c s =
      s.setLink c ((s.link c).begun .reply (frameChars (crewFrame 0x40#8 (r.kind :: r.result :: r.data)))) := by
  rw [linkArbiter, if_pos ((s.mayBegin_iff c).2 h), hr]
  exact beginFrame_eq ..

theorem linkArbiter_notice {c : Link} {s : State} (h : MayBegin s c) (hr : (s.link c).replies = []) {n : NoticeKind}
    {z : Nat} (hn : s.nextNotice c = some (n, z)) : linkArbiter c s =
      (s.setCrew c { s.crew c with flight := some ⟨n, z, false⟩ }).setLink c
        ((s.link c).begun .notice (frameChars (crewFrame n.code (s.noticePayload c n z)))) := by
  rw [linkArbiter, if_pos ((s.mayBegin_iff c).2 h), hr]
  dsimp only
  rw [hn]
  exact beginFrame_eq ..

theorem linkArbiter_none {c : Link} {s : State} (hr : (s.link c).replies = []) (hn : s.nextNotice c = none)
    (ho : s.offeredSpan c = none) : linkArbiter c s = s := by
  unfold linkArbiter
  rw [hr]
  dsimp only
  rw [hn]
  dsimp only
  rw [ho]
  split <;> rfl

theorem SheetSlot.setBuf_setBuf (x : SheetSlot) (i : BufId) (b b' : SpanBuf) : (x.setBuf i b).setBuf i b' = x.setBuf i b' := by
  cases i <;> rfl

/-- The data bytes counted into a slot just written. -/
theorem noteDrained_setSlot (c : Link) (i : BufId) (n : Nat) (s : State) (x : SheetSlot) (b : SpanBuf) (u : LinkUnit) :
    noteDrained c (.sheet i) n ((s.setSlot c (x.setBuf i b)).setLink c u) =
      (s.setSlot c (x.setBuf i { b with drained := b.drained + n })).setLink c u := by
  have hslot : ((s.setSlot c (x.setBuf i b)).setLink c u).slot c = x.setBuf i b := State.slot_setSlot_self ..
  rw [noteDrained]
  dsimp only
  rw [hslot, SheetSlot.buf_setBuf_self, SheetSlot.setBuf_setBuf]
  simp only [State.setSlot, State.setLink, PerLink.set_set]

theorem linkArbiter_span {c : Link} {s : State} (h : MayBegin s c) (hr : (s.link c).replies = [])
    (hn : s.nextNotice c = none) {tr : Transfer} {x : SpanBuf} (ho : s.offeredSpan c = some (tr, x)) :
    linkArbiter c s = (s.setSlot c ((s.slot c).setBuf (bufOf tr.drainSpan) { x with
      state := .draining
      drained := x.drained + dataCount ((sheetChars (sheetHeader tr x) x.bytes).take
        ((s.link c).places (sheetChars (sheetHeader tr x) x.bytes))) })).setLink c
      ((s.link c).begun (.sheet (bufOf tr.drainSpan)) (sheetChars (sheetHeader tr x) x.bytes)) := by
  rw [linkArbiter, if_pos ((s.mayBegin_iff c).2 h), hr]
  dsimp only
  rw [hn]
  dsimp only
  rw [ho]
  dsimp only
  rw [beginSpan, beginFrame_eq]
  exact noteDrained_setSlot ..

theorem sheetSays {tr : Transfer} {x : SpanBuf} (h : x.span = tr.drainSpan) : SheetSays tr x (sheetHeader tr x) := by
  rw [SheetSays, sheetHeader, h]
  cases x.final <;> cases x.fault with
  | none => simp [faultCode]
  | some f => cases f <;> simp [faultCode]

/-- The characters of a SHEET frame still to be written hold the data bytes not yet drained. -/
theorem dataCount_rest (header data : List Byte) (n : Nat) : dataCount ((sheetChars header data).drop n) =
    data.length - dataCount ((sheetChars header data).take n) := by
  have hsplit := dataCount_append ((sheetChars header data).take n) ((sheetChars header data).drop n)
  rw [List.take_append_drop, dataCount_sheetChars] at hsplit
  omega

/-- The frames a link's arbiter may begin (R106, R128, R148). -/
theorem linkArbiter_begins {s : State} {c : Link} (hw : Tab.wf none (s.crew c).marks = true) (h : MayBegin s c) :
    (∀ r rest, (s.link c).replies = r :: rest → ∃ t n, linkArbiter c s = t ∧ t = s.setLink c (t.link c) ∧
      FrameBegun (s.link c) (t.link c) .reply (frameLine 0x40#8 (r.kind :: r.result :: r.data)) n) ∧
    ((s.link c).replies = [] → ∀ k z, FirstDue s c k z → ∃ t n kind payload, linkArbiter c s = t ∧
      NoticeSays s c k z kind payload ∧
      t = (s.setCrew c { s.crew c with flight := some ⟨k, z, false⟩ }).setLink c (t.link c) ∧
      FrameBegun (s.link c) (t.link c) .notice (frameLine kind payload) n) := by
  refine ⟨fun r rest hr => ?_, fun hr k z hk => ?_⟩
  · refine ⟨_, (s.link c).places (frameChars (crewFrame 0x40#8 (r.kind :: r.result :: r.data))), linkArbiter_reply h hr, ?_⟩
    rw [State.link_setLink_self]
    exact ⟨rfl, frameBegun (map_frameChars ..) _⟩
  · refine ⟨_, (s.link c).places (frameChars (crewFrame k.code (s.noticePayload c k z))), _, _,
      linkArbiter_notice h hr (State.nextNotice_of_firstDue hw hk), noticeSays s c k z, ?_⟩
    rw [State.link_setLink_self]
    exact ⟨rfl, frameBegun (map_frameChars ..) _⟩

/-- The SHEET frame a link's arbiter begins when nothing else is due (R148). -/
theorem linkArbiter_begins_span {s : State} {c : Link} (hw : Tab.wf none (s.crew c).marks = true) (h : MayBegin s c)
    (hr : (s.link c).replies = []) (hn : NothingDue s c) {tr : Transfer} {i : BufId} {x : SpanBuf}
    (htr : (s.slot c).transfer = some tr) (hi : i = bufOf tr.drainSpan) (hx : x = (s.slot c).buf i)
    (hfull : x.state = .full) (hspan : x.span = tr.drainSpan) :
    ∃ t n d header, linkArbiter c s = t ∧ SheetSays tr x header ∧ DataWritten header x.bytes n d ∧
      t = (s.setSlot c ((s.slot c).setBuf i { x with state := .draining, drained := x.drained + d })).setLink c
        (t.link c) ∧
      FrameBegun (s.link c) (t.link c) (.sheet i) (frameLine 0x47#8 (header ++ x.bytes)) n ∧
      ∀ w, (t.link c).writing = some w → (w.rest.filter OutChar.data).length = x.bytes.length - d := by
  subst hi
  have ho : s.offeredSpan c = some (tr, x) := by
    unfold State.offeredSpan
    rw [htr]
    dsimp only
    rw [← hx, if_pos ⟨hfull, hspan⟩]
  refine ⟨_, (s.link c).places (sheetChars (sheetHeader tr x) x.bytes), _, _, linkArbiter_span h hr (State.nextNotice_none hw hn) ho, sheetSays hspan, dataWritten_take rfl _ _, ?_⟩
  rw [State.link_setLink_self]
  refine ⟨rfl, frameBegun (map_sheetChars ..) _, fun w hw => ?_⟩
  obtain rfl := Option.some.inj hw
  exact dataCount_rest ..

/-- Settles O32: the row is the owner's completion and the end of the event, and an arbiter's choice is by its cases. -/
theorem frameWrittenCompletes : Obligations.FrameWrittenCompletes := by
  unfold Obligations.FrameWrittenCompletes
  refine ⟨fun s c o ch hrun hw hlen => ?_, fun s c hw => ⟨linkArbiter_idle, fun hm => ?_⟩⟩
  · obtain ⟨hfree, hfifo⟩ := written_sending s c o ch
    refine ⟨_, exec_crewFrameWritten hrun hw hlen, ?_, ⟨_, rfl, hfree, hfifo⟩, ?_, ?_, ?_, ?_, ?_, ?_, ?_⟩
    · obtain ⟨more, hmore⟩ := txFifo_settle c (s.written c o ch)
      exact ⟨more, by rw [hmore, hfifo, List.append_assoc]; rfl⟩
    · rintro rfl
      exact (handed_settle s c ch).1
    · rintro rfl
      exact (handed_settle s c ch).2
    · rintro renewed rfl
      exact systemDue_settle
    · rintro m z renewed rfl
      exact mark_settle
    · rintro z renewed rfl
      exact offer_settle
    · rintro i tr rfl
      exact fun hd hf htr => span_settle_next hd hf htr
    · rintro i rfl
      exact span_settle_final
  · obtain ⟨hreply, hnotice⟩ := linkArbiter_begins hw hm
    refine ⟨hreply, hnotice, fun hr hn => ⟨fun tr i x => linkArbiter_begins_span hw hm hr hn, fun hnot => ?_⟩⟩
    refine linkArbiter_none hr (State.nextNotice_none hw hn) ?_
    unfold State.offeredSpan
    cases htr : (s.slot c).transfer with
    | none => rfl
    | some tr => exact if_neg (hnot tr htr)

end Sys2Proof.Machine
end

section
/-! What a character from a terminal does to a crew link, once for each outcome of the assembler (R111, R117 to R120), the
frames discarded (R118, R120, R121, R124), and controller-ready as bytes are stored (R122). -/

namespace Sys2Proof.Machine

/-! ### One link written twice -/

@[simp] theorem State.setLink_setLink (s : State) (c : Link) (u v : LinkUnit) :
    (s.setLink c u).setLink c v = s.setLink c v := by
  unfold State.setLink
  rw [PerLink.set_set]

theorem State.modLink_eq (s : State) (c : Link) (f : LinkUnit → LinkUnit) :
    s.modLink c f = s.setLink c (f (s.link c)) := rfl

/-! ### The rows of a link's characters (log 3) -/

section rows
variable {s : State} (hrun : s.running = true)
include hrun

theorem exec_crewFrameDiscard (c : Link) (ch : LineChar) :
    exec (.crewFrameDiscard c ch) s = .next (crewChar c ch s) := by simp [exec, execCrewFrameDiscard, hrun]

theorem exec_receiveOverrun (c : Link) (b : Byte) :
    exec (.receiveOverrun c b) s = .next (crewChar c (.good b) s) := by simp [exec, execReceiveOverrun, hrun]

theorem exec_crewFrameComplete (c : Link) (b : Byte) :
    exec (.crewFrameComplete c b) s = .next (crewChar c (.good b) s) := by simp [exec, execCrewFrameComplete, hrun]

theorem exec_crewCharacterReceived (c : Link) (b : Byte) (back : Bool) :
    exec (.crewCharacterReceived c ⟨b, back⟩) s = .next (crewChar c (.good b) (rxBack c back s)) := by
  simp [exec, execCrewCharacterReceived, hrun]

/-- The partial-frame timer discards a frame with one byte or more (R121). -/
theorem exec_crewPartialFrameTimeout {c : Link} (ha : (s.link c).state = .attached) (hheld : (s.link c).asm.held ≠ []) :
    exec (.crewPartialFrameTimeout c) s = .next (s.setLink c ((s.link c).giveUp .hunting)) := by
  have ht : s.attached c ∧ (s.link c).asm.timed := by simpa [s.attached_iff, ha, Asm.timed] using hheld
  simp [exec, execCrewPartialFrameTimeout, hrun, ht, State.modLink_eq]

end rows

/-! ### A character, by its outcome: an ATTACHED link whose receiver does not wait for marking forms it (R111) -/

section character
variable {s : State} {c : Link} {ch : LineChar} (ha : (s.link c).state = .attached)
  (hr : (s.link c).receiver ≠ .waitMarking)
include ha hr

theorem crewChar_ignored (ht : (s.link c).asm.take ch = .ignored) : crewChar c ch s = s.setLink c ((s.link c).heard ch) := by
  simp [crewChar, s.attached_iff, ha, hr, ht, State.modLink_eq]

theorem crewChar_opened (ht : (s.link c).asm.take ch = .opened) :
    crewChar c ch s = s.setLink c { (s.link c).heard ch with asm := Asm.fresh } := by
  simp [crewChar, s.attached_iff, ha, hr, ht, State.modLink_eq]

theorem crewChar_escaped (ht : (s.link c).asm.take ch = .escaped) :
    crewChar c ch s = s.setLink c { (s.link c).heard ch with asm := (s.link c).asm.withEscape } := by
  simp [crewChar, s.attached_iff, ha, hr, ht, State.modLink_eq]

theorem crewChar_reopened (ht : (s.link c).asm.take ch = .reopened) :
    crewChar c ch s = s.setLink c (((s.link c).heard ch).giveUp Asm.fresh) := by
  simp [crewChar, s.attached_iff, ha, hr, ht, State.modLink_eq]

theorem crewChar_bad (ht : (s.link c).asm.take ch = .bad) :
    crewChar c ch s = s.setLink c (((s.link c).heard ch).giveUp .hunting) := by
  simp [crewChar, s.attached_iff, ha, hr, ht, State.modLink_eq]

theorem crewChar_byte {d : Byte} (ht : (s.link c).asm.take ch = .byte d) :
    crewChar c ch s = crewByte c d (s.setLink c ((s.link c).heard ch)) := by
  simp [crewChar, s.attached_iff, ha, hr, ht, State.modLink_eq]

end character

/-! ### RX back at marking before a character (R111; log 33) -/

theorem rxBack_false (c : Link) (s : State) : rxBack c false s = s := by simp [rxBack]

/-- A receiver that waits for marking is idle once the line is back there. -/
theorem rxBack_waiting {s : State} {c : Link} (ha : (s.link c).state = .attached)
    (hr : (s.link c).receiver = .waitMarking) :
    rxBack c true s = s.setLink c { s.link c with rx := .marking, receiver := .idle } := by
  simp [rxBack, s.attached_iff, ha, hr, State.modLink_eq]

/-- Any other receiver stays as it was. -/
theorem rxBack_formed {s : State} {c : Link} (hr : (s.link c).receiver ≠ .waitMarking) (back : Bool) :
    ∃ l, rxBack c back s = s.setLink c { s.link c with rx := l } := by
  have hsame : (s.link c).receiver.follow (s.link c).rx .marking false = (s.link c).receiver := by
    cases h : (s.link c).receiver with
    | idle | receiving => simp
    | waitMarking => exact absurd h hr
  unfold rxBack
  split
  · exact ⟨.marking, by rw [State.modLink_eq, hsame]⟩
  · exact ⟨(s.link c).rx, by cases c <;> rfl⟩

/-- The character that follows brings a level of its own, so that the level before it does not matter. -/
theorem crewChar_setRx {s : State} {c : Link} (ha : (s.link c).state = .attached)
    (hr : (s.link c).receiver ≠ .waitMarking) (ch : LineChar) (l : Level) :
    crewChar c ch (s.setLink c { s.link c with rx := l }) = crewChar c ch s := by
  simp [crewChar, State.attached_iff, ha, hr, State.modLink_eq, LinkUnit.heard]

theorem exec_crewCharacterReceived_formed {s : State} (hrun : s.running = true) {c : Link}
    (ha : (s.link c).state = .attached) (hr : (s.link c).receiver ≠ .waitMarking) (b : Byte) (back : Bool) :
    exec (.crewCharacterReceived c ⟨b, back⟩) s = .next (crewChar c (.good b) s) := by
  obtain ⟨l, hl⟩ := rxBack_formed hr back
  rw [exec_crewCharacterReceived hrun, hl, crewChar_setRx ha hr]

/-! ### A decoded byte stored (R117, R122) -/

/-- Storing a byte moves the assembler and controller-ready alone. -/
theorem LinkUnit.stored_eq (u : LinkUnit) (d : Byte) :
    u.stored d = { u with asm := u.asm.push d, ctrlReady := (u.stored d).ctrlReady } :=
  LinkUnit.judgeReady_eq _

/-- A stored byte takes one place. -/
theorem LinkUnit.rxHeld_push {u : LinkUnit} {buf : List Byte} {esc : Bool} {r : Word16}
    (hasm : u.asm = .collecting buf esc r) (d : Byte) :
    ({ u with asm := u.asm.push d } : LinkUnit).rxHeld = u.rxHeld + 1 := by
  simp [LinkUnit.rxHeld, hasm, Asm.push, Asm.held, Nat.add_assoc]

/-- Controller-ready judged while it cannot go high: high goes low at 16 or fewer free places, and low stays low. -/
theorem LinkUnit.judgeReady_falling {u : LinkUnit} (h : u.ctrlReady = .high ∨ u.ctrlReady = .low ∧ u.rxFree < 32) :
    u.judgeReady = { u with ctrlReady := if u.ctrlReady = .low ∨ u.rxFree ≤ 16 then .low else .high } := by
  unfold LinkUnit.judgeReady
  rcases h with h | ⟨h, hfree⟩
  · simp only [h, reduceCtorEq, false_or]
    split
    · rfl
    · rw [← h]
  · simp only [h, true_or, if_true, if_neg (show ¬ 32 ≤ u.rxFree by omega)]
    rw [← h]

theorem LinkUnit.stored_falling {u : LinkUnit} {buf : List Byte} {esc : Bool} {r : Word16}
    (hasm : u.asm = .collecting buf esc r) (d : Byte)
    (h : u.ctrlReady = .high ∨ u.ctrlReady = .low ∧ 64 - (u.rxHeld + 1) < 32) :
    u.stored d = { u with asm := .collecting (buf ++ [d]) false (crcByte r d),
                          ctrlReady := if u.ctrlReady = .low ∨ 64 - (u.rxHeld + 1) ≤ 16 then .low else .high } := by
  have hfree : ({ u with asm := u.asm.push d } : LinkUnit).rxFree = 64 - (u.rxHeld + 1) := by
    rw [LinkUnit.rxFree, LinkUnit.rxHeld_push hasm]
  rw [LinkUnit.stored, LinkUnit.judgeReady_falling (by rwa [hfree]), hfree]
  simp only [hasm, Asm.push]

/-! ### A decoded byte (R117, R118, R120) -/

/-- The size a frame has once its two length bytes are stored (R117). -/
theorem crewFrameSize_some {bytes : List Byte} {n : Nat} (hn : crewFrameSize bytes = some n) :
    ∃ h l rest, bytes = h :: l :: rest ∧ n = num16 h l + 4 := by
  match bytes with
  | [] | [_] => cases hn
  | h :: l :: rest => exact ⟨h, l, rest, rfl, (Option.some.inj hn).symm⟩

theorem LinkUnit.rxFree_pos {u : LinkUnit} (h : u.rxHeld < 64) : u.rxFree ≠ 0 := Nat.sub_ne_zero_of_lt h

/-- A byte that finds the FIFO full is lost with its frame. -/
theorem crewByte_full {s : State} {c : Link} (h : 64 ≤ (s.link c).rxHeld) (d : Byte) :
    crewByte c d s = s.setLink c ((s.link c).giveUp .hunting) := by
  have hfree : (s.link c).rxFree = 0 := Nat.sub_eq_zero_of_le h
  rw [crewByte, if_pos hfree]
  rfl

theorem Asm.held_push {a : Asm} {buf : List Byte} {esc : Bool} {r : Word16} (h : a = .collecting buf esc r) (d : Byte) :
    (a.push d).held = buf ++ [d] := by
  rw [h]
  rfl

theorem Asm.crcReg_push {a : Asm} {buf : List Byte} {esc : Bool} {r : Word16} (h : a = .collecting buf esc r) (d : Byte) :
    (a.push d).crcReg = crcByte r d := by
  rw [h]
  rfl

section decoded
variable {s : State} {c : Link} {buf : List Byte} {esc : Bool} {r : Word16} {d : Byte}
  (hasm : (s.link c).asm = .collecting buf esc r) (hroom : (s.link c).rxHeld < 64)
include hasm hroom

/-- A byte that neither completes the frame nor gives it a size of R118 is stored. -/
theorem crewByte_stored (h : ∀ n, crewFrameSize (buf ++ [d]) = some n → 5 ≤ n ∧ n ≤ 16 ∧ (buf ++ [d]).length ≠ n) :
    crewByte c d s = s.setLink c ((s.link c).stored d) := by
  have hpush := Asm.held_push hasm d
  simp only [crewByte, LinkUnit.rxFree_pos hroom, if_false, hpush]
  cases hn : crewFrameSize (buf ++ [d]) with
  | none => rfl
  | some n =>
    obtain ⟨hlo, hhi, hne⟩ := h n hn
    dsimp only
    rw [if_neg (by omega), if_neg hne]
    rfl

/-- A length byte that gives a size of R118 discards the frame. -/
theorem crewByte_badLength {n : Nat} (hn : crewFrameSize (buf ++ [d]) = some n) (h : n < 5 ∨ 16 < n) :
    crewByte c d s = s.setLink c (((s.link c).stored d).giveUp .hunting) := by
  have hpush := Asm.held_push hasm d
  simp [crewByte, LinkUnit.rxFree_pos hroom, hpush, hn, h, LinkUnit.stored, State.modLink_eq]

/-- The byte that completes the frame brings its check test. -/
theorem crewByte_whole (hn : crewFrameSize (buf ++ [d]) = some (buf ++ [d]).length) (hlo : 5 ≤ (buf ++ [d]).length)
    (hhi : (buf ++ [d]).length ≤ 16) :
    crewByte c d s = crewFrameDone c (buf ++ [d]) (crcByte r d) (s.setLink c ((s.link c).stored d)) := by
  have hpush := Asm.held_push hasm d
  simp only [crewByte, LinkUnit.rxFree_pos hroom, if_false, hpush, Asm.crcReg_push hasm, hn]
  rw [if_neg (by omega)]
  rfl

end decoded

/-- Settles O29, by the outcome of each kind of good character that ends no frame. -/
theorem crewCharacterStored : Obligations.CrewCharacterStored := by
  unfold Obligations.CrewCharacterStored
  refine fun s c b hrun ha => ⟨fun hr => ?_, fun hr back => ?_⟩
  · have hrun' : (s.setLink c { s.link c with rx := .marking, receiver := .idle }).running = true := hrun
    rw [exec_crewCharacterReceived hrun, exec_crewCharacterReceived hrun, exec_crewCharacterReceived hrun',
      rxBack_false, rxBack_false, rxBack_waiting ha hr]
    exact ⟨by rw [crewChar_unformed _ (.inr hr)], rfl⟩
  · rw [exec_crewCharacterReceived_formed hrun ha hr]
    refine ⟨fun hasm => ?_, fun esc r hasm hb => ?_, fun buf r hasm hb => ?_,
      fun buf esc r d hasm hd hroom hready hlen => ?_⟩
    · by_cases hb : b = 0x7E#8
      · rw [crewChar_opened ha hr (by simp [hasm, hb, Asm.take, startMark]), if_pos hb]
        rfl
      · rw [crewChar_ignored ha hr (by simp [hasm, hb, Asm.take, startMark]), if_neg hb, ← hasm]
        rfl
    · rw [crewChar_opened ha hr (by simp [hasm, hb, Asm.take, startMark])]
      rfl
    · rw [crewChar_escaped ha hr (by simp [hasm, hb, Asm.take, startMark, escapeByte]), hasm]
      rfl
    · have hallowed : ∀ n, crewFrameSize (buf ++ [d]) = some n → 5 ≤ n ∧ n ≤ 16 ∧ (buf ++ [d]).length ≠ n := by
        intro n hn
        obtain ⟨h, l, rest, hbytes, rfl⟩ := crewFrameSize_some hn
        obtain ⟨hlo, hhi, hne⟩ := hlen h l rest hbytes
        exact ⟨by omega, by omega, hne⟩
      rw [crewChar_byte ha hr (by rw [hasm]; exact Asm.take_of_decodes hd),
        crewByte_stored (by simpa using hasm) (by simpa using hroom) hallowed, State.setLink_setLink,
        State.link_setLink_self,
        LinkUnit.stored_falling (u := (s.link c).heard (.good b)) hasm d hready]
      rfl

/-! ### Frames discarded (R118, R120, R121, R124) -/

/-- `v` is the link unit `u` once a frame in progress has been given up and counted, with its receiver at `r`. -/
def LinkUnit.Discarded (u : LinkUnit) (r : Receiver) (next : Asm) (v : LinkUnit) : Prop :=
  v = { u with rx := v.rx, receiver := r, asm := next, ctrlReady := v.ctrlReady, rxErrors := bump16 u.rxErrors }

theorem LinkUnit.giveUp_eq (u : LinkUnit) (next : Asm) : u.giveUp next =
    { u with asm := next, rxErrors := bump16 u.rxErrors, ctrlReady := (u.giveUp next).ctrlReady } :=
  LinkUnit.judgeReady_eq _

theorem LinkUnit.discarded_giveUp (u : LinkUnit) (next : Asm) : u.Discarded u.receiver next (u.giveUp next) := by
  unfold LinkUnit.Discarded
  rw [LinkUnit.giveUp_eq]

/-- A frame given up at a character. -/
theorem LinkUnit.discarded_heard (u : LinkUnit) (ch : LineChar) (next : Asm) :
    u.Discarded (receiverAfter ch) next ((u.heard ch).giveUp next) := by
  unfold LinkUnit.Discarded
  rw [LinkUnit.giveUp_eq]
  rfl

/-- A frame given up at a byte that has just been stored. -/
theorem LinkUnit.discarded_stored (u : LinkUnit) (b d : Byte) (next : Asm) :
    u.Discarded .idle next (((u.heard (.good b)).stored d).giveUp next) := by
  unfold LinkUnit.Discarded
  rw [LinkUnit.giveUp_eq, LinkUnit.stored_eq]
  rfl

/-- Settles O30, by the cause of each discard. -/
theorem crewFrameDiscarded : Obligations.CrewFrameDiscarded := by
  unfold Obligations.CrewFrameDiscarded
  intro s c buf esc r i next hrun ha hr hasm hcause
  suffices h : ∃ v recv, exec i s = .next (s.setLink c v) ∧ (s.link c).Discarded recv next v ∧
      recv = if i = .crewFrameDiscard c .framingError then .waitMarking
        else if i = .crewPartialFrameTimeout c then (s.link c).receiver else .idle by
    obtain ⟨v, recv, hexec, hv, hrecv⟩ := h
    refine ⟨_, hexec, ?_⟩
    rw [State.link_setLink_self, ← hrecv, hv]
    exact ⟨rfl, rfl, rfl, rfl, rfl, rfl, ha, rfl⟩
  have byte : ∀ {b d}, Decodes esc b d →
      crewChar c (.good b) s = crewByte c d (s.setLink c ((s.link c).heard (.good b))) := fun hd =>
    crewChar_byte ha hr (by rw [hasm]; exact Asm.take_of_decodes hd)
  have full : ∀ {b d}, 64 ≤ (s.link c).rxHeld → crewByte c d (s.setLink c ((s.link c).heard (.good b))) =
      s.setLink c (((s.link c).heard (.good b)).giveUp .hunting) := fun hfull => by
    rw [crewByte_full (by simpa using hfull), State.setLink_setLink, State.link_setLink_self]
  rcases hcause with ⟨rfl, rfl⟩ | ⟨rfl, hbuf, rfl⟩ | ⟨rfl, rfl, rfl⟩ | ⟨b, rfl, rfl, hs, he, hxs, hxe, rfl⟩ |
    ⟨b, d, h, l, rfl, hd, hbytes, hlen, rfl⟩ | ⟨b, d, rfl, hd, hfull, rfl⟩ | ⟨rfl, hbuf, rfl⟩
  · rw [exec_crewFrameDiscard hrun, crewChar_bad ha hr (by simp [hasm, Asm.take])]
    exact ⟨_, _, rfl, LinkUnit.discarded_heard .., by simp [receiverAfter]⟩
  · rw [exec_crewFrameDiscard hrun, crewChar_reopened ha hr (by simp [hasm, Asm.take, startMark, hbuf])]
    exact ⟨_, _, rfl, LinkUnit.discarded_heard .., by simp [receiverAfter]⟩
  · rw [exec_crewFrameDiscard hrun, crewChar_bad ha hr (by simp [hasm, Asm.take, startMark, escapeByte])]
    exact ⟨_, _, rfl, LinkUnit.discarded_heard .., by simp [receiverAfter]⟩
  · rw [exec_crewFrameDiscard hrun, crewChar_bad ha hr (by
      simp [hasm, Asm.take, startMark, escapeByte, needsEscape, escapeMask, hs, he, hxs, hxe])]
    exact ⟨_, _, rfl, LinkUnit.discarded_heard .., by simp [receiverAfter]⟩
  · have hn : crewFrameSize (buf ++ [d]) = some (num16 h l + 4) := by rw [hbytes]; rfl
    rw [exec_crewFrameDiscard hrun, byte hd]
    by_cases hroom : (s.link c).rxHeld < 64
    · rw [crewByte_badLength (by simpa using hasm) (by simpa using hroom) hn (by omega), State.setLink_setLink,
        State.link_setLink_self]
      exact ⟨_, _, rfl, LinkUnit.discarded_stored .., by simp⟩
    · rw [full (by omega)]
      exact ⟨_, _, rfl, LinkUnit.discarded_heard .., by simp [receiverAfter]⟩
  · rw [exec_receiveOverrun hrun, byte hd, full hfull.ge]
    exact ⟨_, _, rfl, LinkUnit.discarded_heard .., by simp [receiverAfter]⟩
  · rw [exec_crewPartialFrameTimeout hrun ha (by simpa [hasm, Asm.held] using hbuf)]
    exact ⟨_, _, rfl, LinkUnit.discarded_giveUp .., by simp⟩

end Sys2Proof.Machine
end

section
/-! A complete crew frame (R119): its check test, the request that waits and is handed (R123, R125), and the row whose
request it carries (R190). -/

namespace Sys2Proof.Machine

/-! ### The character that completes a frame (R117, R119) -/

/-- The link with its last byte stored, brought to the check test. -/
theorem exec_completes {s : State} {c : Link} {b : Byte} {frame : List Byte} {reg : Word16}
    (h : CrewCompletes s c b frame reg) :
    ∃ d, exec (.crewFrameComplete c b) s =
      .next (crewFrameDone c frame reg (s.setLink c (((s.link c).heard (.good b)).stored d))) := by
  obtain ⟨hrun, ha, hr, hroom, buf, esc, r, d, hasm, ht, rfl, rfl, hlo, hhi, hn⟩ := h
  refine ⟨d, ?_⟩
  rw [exec_crewFrameComplete hrun, crewChar_byte ha hr ht,
    crewByte_whole (by simpa using hasm) (by simpa using hroom) hn hlo hhi, State.setLink_setLink,
    State.link_setLink_self]

/-- A frame whose check does not close is given up and counted. -/
theorem exec_completes_unsound {s : State} {c : Link} {b : Byte} {frame : List Byte} {reg : Word16}
    (h : CrewCompletes s c b frame reg) (hreg : reg ≠ 0) :
    ∃ v, exec (.crewFrameComplete c b) s = .next (s.setLink c v) ∧ (s.link c).Discarded .idle .hunting v := by
  obtain ⟨d, hexec⟩ := exec_completes h
  refine ⟨_, hexec.trans ?_, LinkUnit.discarded_stored (s.link c) b d .hunting⟩
  rw [crewFrameDone, if_neg hreg, State.modLink_eq, State.link_setLink_self, State.setLink_setLink]

/-- The link unit `u` once a sound frame has become its newest waiting request, with controller-ready as judged. -/
def LinkUnit.waits (u : LinkUnit) (frame : List Byte) (ready : ReadyOut) : LinkUnit :=
  { u with rx := .marking, receiver := .idle, asm := .hunting, waiting := u.waiting ++ [frame], ctrlReady := ready }

theorem LinkUnit.queued_eq (u : LinkUnit) (frame : List Byte) : u.queued frame =
    { u with asm := .hunting, waiting := u.waiting ++ [frame], ctrlReady := (u.queued frame).ctrlReady } :=
  LinkUnit.judgeReady_eq _

theorem LinkUnit.queued_stored (u : LinkUnit) (b d : Byte) (frame : List Byte) :
    ∃ ready, ((u.heard (.good b)).stored d).queued frame = u.waits frame ready ∧
      (ready = .highZ ↔ u.ctrlReady = .highZ) := by
  have hqueued : (((u.heard (.good b)).stored d).queued frame).ctrlReady = .highZ ↔
      ((u.heard (.good b)).stored d).ctrlReady = .highZ := LinkUnit.judgeReady_highZ _
  have hstored : ((u.heard (.good b)).stored d).ctrlReady = .highZ ↔ u.ctrlReady = .highZ := LinkUnit.judgeReady_highZ _
  refine ⟨_, (LinkUnit.queued_eq ..).trans ?_, hqueued.trans hstored⟩
  rw [LinkUnit.stored_eq]
  rfl

/-- A sound frame waits; requests are then handed, and the event ends (R119, R123). -/
theorem exec_completes_sound {s : State} {c : Link} {b : Byte} {frame : List Byte} {reg : Word16}
    (h : CrewCompletes s c b frame reg) (hreg : reg = 0) :
    ∃ ready, exec (.crewFrameComplete c b) s =
        .next (settle (handWaiting c (s.setLink c ((s.link c).waits frame ready)))) ∧
      (ready = .highZ ↔ (s.link c).ctrlReady = .highZ) := by
  obtain ⟨d, hexec⟩ := exec_completes h
  obtain ⟨ready, hqueued, hready⟩ := (s.link c).queued_stored b d frame
  refine ⟨ready, hexec.trans ?_, hready⟩
  rw [crewFrameDone, if_pos hreg, State.modLink_eq, State.link_setLink_self, State.setLink_setLink, ← hqueued]
  rfl

/-! ### What is handed (R123) -/

/-- With the reply queue full nothing is handed. -/
theorem handOldest_full {c : Link} {s : State} (h : 4 ≤ (s.link c).replies.length) : handOldest c s = s := by
  have hc : ¬ s.canHand c = true := fun hc => absurd ((s.canHand_iff c).1 hc).2 (by omega)
  unfold handOldest
  split
  · rfl
  · exact if_neg hc

theorem handWaiting_full {c : Link} {s : State} (h : 4 ≤ (s.link c).replies.length) : handWaiting c s = s := by
  simp only [handWaiting, handOldest_full h]

/-- A sound frame is handed in its turn, after the requests that waited before it. -/
theorem handedInOrder_completes {s : State} {c : Link} {b : Byte} {frame : List Byte} {reg : Word16}
    (h : CrewCompletes s c b frame reg) (hreg : reg = 0) :
    ∃ t, exec (.crewFrameComplete c b) s = .next t ∧ (t.link c).asm = .hunting ∧
      HandedInOrder (s.link c).replies ((s.link c).waiting ++ [frame]) (t.link c) ∧
      (t.link c).rxErrors = (s.link c).rxErrors := by
  obtain ⟨ready, hexec, -⟩ := exec_completes_sound h hreg
  have hlink : (s.setLink c ((s.link c).waits frame ready)).link c = (s.link c).waits frame ready :=
    State.link_setLink_self ..
  obtain ⟨n, ⟨placed, hv, hkinds⟩, hn⟩ := link_handWaiting c (s.setLink c ((s.link c).waits frame ready))
  rw [State.attached_iff, hlink] at hn
  rw [hlink] at hv hkinds
  refine ⟨_, hexec, ?_⟩
  rw [(arbitersOnly_settle _).link c, hv]
  exact ⟨rfl, ⟨n, placed, hn h.2.1, rfl, rfl, hkinds⟩, rfl⟩

/-- With one request to hand, one reply echoes its kind byte. -/
theorem HandedInOrder.single {replies : List Reply} {frame : List Byte} {v : LinkUnit}
    (h : HandedInOrder replies [frame] v) (hlen : replies.length < 4) (hframe : 5 ≤ frame.length) :
    v.waiting = [] ∧ ∃ rep : Reply, v.replies = replies ++ [rep] ∧ frame[2]? = some rep.kind := by
  obtain ⟨n, placed, hn, hwaiting, hreplies, hkinds⟩ := h
  have hone : n = 1 := by
    rw [hn, List.length_singleton]
    omega
  subst hone
  obtain ⟨rep, rfl, hkind⟩ := List.map_eq_singleton_iff.1 hkinds
  refine ⟨hwaiting, rep, hreplies, ?_⟩
  rw [hkind]
  simp only [List.getD_eq_getElem?_getD]
  rw [List.getElem?_eq_getElem (by omega), Option.getD_some]

/-! ### The row of a request (R190; log 5) -/

theorem num16_be16 (w : Word16) : num16 (w.extractLsb' 8 8) (w.extractLsb' 0 8) = w.toNat := by
  have hw := w.isLt
  simp only [num16, BitVec.extractLsb'_toNat, Nat.shiftRight_eq_div_pow]
  omega

/-- Every crew request row is the hand-off of the request that its kind and payload make (log 25). -/
theorem exec_of_crewRequestOf {i : Instr} {c : Link} {kind : Byte} {payload : List Byte}
    (h : crewRequestOf i = some (c, kind, payload)) (s : State) :
    exec i s = .next (crewRow c kind (parseRequest kind payload) s) := by
  cases i with
  | accept _ z | decline _ z | release _ z | sheetReqById _ z | sheetReqByZone _ z | sheetStopNamed _ z =>
    cases h
    simp only [be16, parseRequest, num16_be16]
    rfl
  | sectors _ w =>
    cases h
    simp only [be16, parseRequest, word16_be16]
    rfl
  | releaseTop | poll | list | sheetStopAll | unknownRequest => cases h; rfl
  | _ => cases h

theorem requestParts_frame (h l kind : Byte) (payload : List Byte) (x y : Byte) :
    requestParts (h :: l :: kind :: (payload ++ [x, y])) = (kind, payload) := by
  simp [requestParts]

/-- Controller-ready once the receive FIFO is empty. -/
theorem LinkUnit.judgeReady_empty {u : LinkUnit} (h : u.rxHeld = 0) :
    u.judgeReady = { u with ctrlReady := if u.ctrlReady = .highZ then .highZ else .high } := by
  have hfree : u.rxFree = 64 := congrArg (64 - ·) h
  cases u with
  | mk state presence termReady rx ctrlReady => cases ctrlReady <;> simp [LinkUnit.judgeReady, hfree]

/-- The only waiting request is handed. -/
theorem handWaiting_single {c : Link} {s : State} (hc : s.canHand c = true) {w : List Byte}
    (hw : (s.link c).waiting = [w]) : handWaiting c s =
      takeRequest c (requestParts w).1 (parseRequest (requestParts w).1 (requestParts w).2)
        (s.setLink c ({ s.link c with waiting := [] } : LinkUnit).judgeReady) := by
  have hfirst : handOldest c s = takeRequest c (requestParts w).1 (parseRequest (requestParts w).1 (requestParts w).2)
      (s.setLink c ({ s.link c with waiting := [] } : LinkUnit).judgeReady) := by
    rw [handOldest, hw]
    exact if_pos hc
  have hempty : ((handOldest c s).link c).waiting = [] := by
    obtain ⟨ha, hlen⟩ := (s.canHand_iff c).1 hc
    have hhanded := (link_handOldest ha).lengths (by omega)
    rw [hw, List.length_singleton] at hhanded
    exact List.eq_nil_of_length_eq_zero (by omega)
  have hidle : handOldest c (handOldest c s) = handOldest c s := handOldest_idle (.inr hempty)
  rw [handWaiting, hidle, hidle, hidle, hfirst]

/-- The link unit `u`, with nothing waiting, once a frame just completed has been handed on from its receive FIFO. -/
def LinkUnit.emptied (u : LinkUnit) : LinkUnit :=
  { u with rx := .marking, receiver := .idle, asm := .hunting,
           ctrlReady := if u.ctrlReady = .highZ then .highZ else .high }

theorem LinkUnit.judgeReady_waits {u : LinkUnit} (hw : u.waiting = []) {ready : ReadyOut}
    (hready : ready = .highZ ↔ u.ctrlReady = .highZ) (frame : List Byte) :
    ({ u.waits frame ready with waiting := [] } : LinkUnit).judgeReady = u.emptied := by
  rw [LinkUnit.judgeReady_empty rfl, ← hw]
  simp only [LinkUnit.waits, LinkUnit.emptied, hready]

/-- The hand-off of a sound frame that is the only request to wait is the row of its kind and payload. -/
theorem handed_as_row {s : State} {c : Link} (hrun : s.running = true) (ha : (s.link c).state = .attached)
    (hlen : (s.link c).replies.length < 4) (hw : (s.link c).waiting = []) {frame : List Byte} {kind : Byte}
    {payload : List Byte} (hparts : requestParts frame = (kind, payload)) {i : Instr}
    (hi : crewRequestOf i = some (c, kind, payload)) {ready : ReadyOut}
    (hready : ready = .highZ ↔ (s.link c).ctrlReady = .highZ) :
    .next (settle (handWaiting c (s.setLink c ((s.link c).waits frame ready)))) =
      exec i (s.setLink c (s.link c).emptied) := by
  have hlink : ∀ u, (s.setLink c u).link c = u := s.link_setLink_self c
  have hands : Hands (s.setLink c (s.link c).emptied) c := ⟨hrun, by rw [hlink]; exact ha, by rw [hlink]; exact hlen⟩
  have hcan : (s.setLink c ((s.link c).waits frame ready)).canHand c = true := by
    rw [State.canHand_iff, State.attached_iff, hlink]
    exact ⟨ha, hlen⟩
  have hwaits : ((s.setLink c ((s.link c).waits frame ready)).link c).waiting = [frame] := by
    rw [hlink, LinkUnit.waits, hw]
    rfl
  rw [exec_of_crewRequestOf hi, crewRow_handed hands, handWaiting_single hcan hwaits, hparts, hlink,
    State.setLink_setLink, LinkUnit.judgeReady_waits hw hready]

/-- Settles O31: the check test, then what the handing of waiting requests makes of the link. -/
theorem crewFrameCompletes : Obligations.CrewFrameCompletes := by
  unfold Obligations.CrewFrameCompletes
  intro s c b frame reg hcomp
  have ⟨hrun, ha, _, _, _, _, _, _, _, _, _, _, hsize, _⟩ := hcomp
  refine ⟨fun hreg => ?_, fun hreg hfull => ?_, fun hreg hlen hw => ?_, handedInOrder_completes hcomp,
    fun h l kind payload x y i hreg hlen hw hframe hi => ?_⟩
  · obtain ⟨v, hexec, hv⟩ := exec_completes_unsound hcomp hreg
    refine ⟨_, hexec, ?_⟩
    rw [State.link_setLink_self, hv]
    exact ⟨rfl, rfl, rfl, rfl, rfl⟩
  · obtain ⟨ready, hexec, -⟩ := exec_completes_sound hcomp hreg
    have harb := arbitersOnly_settle (s.setLink c ((s.link c).waits frame ready))
    have hlink := harb.link c
    rw [State.link_setLink_self] at hlink
    rw [handWaiting_full (by rw [State.link_setLink_self]; exact hfull)] at hexec
    refine ⟨_, hexec, ?_⟩
    rw [hlink]
    exact ⟨rfl, rfl, rfl, rfl, harb.1⟩
  · obtain ⟨t, hexec, hasm, hhanded, herr⟩ := handedInOrder_completes hcomp hreg
    rw [hw] at hhanded
    obtain ⟨hwaiting, rep, hreplies, hkind⟩ := HandedInOrder.single hhanded hlen hsize
    exact ⟨t, rep, hexec, hasm, hwaiting, hreplies, hkind, herr⟩
  · subst hframe
    obtain ⟨ready, hexec, hready⟩ := exec_completes_sound hcomp hreg
    exact hexec.trans (handed_as_row hrun ha hlen hw (requestParts_frame ..) hi hready)

end Sys2Proof.Machine
end

section
/-! The level inputs of a crew link, and the oldest character of its transmit FIFO taken by the transmitter (R113, R126 to
R129, R148). -/

namespace Sys2Proof.Machine

/-! ### A frame being written goes on (R129) -/

/-- The drain position and the links are apart. -/
theorem noteDrained_setLink (c : Link) (o : Owner) (n : Nat) (s : State) (u : LinkUnit) :
    noteDrained c o n (s.setLink c u) = (noteDrained c o n s).setLink c u := by cases o <;> rfl

/-- With no frame being written the writer has nothing to fill. -/
theorem writerFill_idle {c : Link} {s : State} (h : (s.link c).writing = none) : writerFill c s = s := by
  rw [writerFill, h]

/-- The frame being written takes the free places, all but its last character. -/
theorem writerFill_writing {s : State} {c : Link} {u : LinkUnit} {o : Owner} {cs : List OutChar}
    (h : u.writing = some ⟨o, cs⟩) : writerFill c (s.setLink c u) =
      (noteDrained c o (dataCount (cs.take (u.places cs))) s).setLink c (u.begun o cs) := by
  rw [writerFill, State.link_setLink_self, h]
  dsimp only
  rw [State.setLink_setLink, noteDrained_setLink]
  rfl

/-- The end of an event leaves a link whose writer has a frame: its arbiter begins no other (R128). -/
theorem link_settle_of_writing {s : State} {c : Link} (h : (s.link c).writing ≠ none) :
    (settle s).link c = s.link c := by
  obtain ⟨v, hv, hsettle⟩ := settle_link s c
  have hvlink : v.link c = s.link c := hv.1.trans ((streamerOnly_readerArbiter s).link c)
  have hidle : linkArbiter c v = v := linkArbiter_idle fun ⟨_, hnone, _⟩ => h (hvlink ▸ hnone)
  rw [hsettle.1, hidle, hvlink]

/-! ### The transmitter's row (R126, R127) -/

/-- A link unit whose transmitter has taken the character `ch`, with `rest` left in the transmit FIFO. -/
def LinkUnit.sent (u : LinkUnit) (ch : Byte) (rest : List Byte) : LinkUnit := { u with txFifo := rest, tx := .sending ch }

theorem exec_crewCharacterTaken {s : State} (hrun : s.running = true) {c : Link} (ha : (s.link c).state = .attached)
    (hready : (s.link c).termReady = true) {ch : Byte} {rest : List Byte} (hq : (s.link c).txFifo = ch :: rest) :
    exec (.crewCharacterTaken c) s = .next (settle (writerFill c (s.setLink c ((s.link c).sent ch rest)))) := by
  refine congrArg Host.Outcome.next ((whenRunning_of_running hrun _).trans ?_)
  rw [takeChar, if_pos ⟨(s.attached_iff c).2 ha, hready⟩, hq]
  rfl

/-- While terminal-ready is low the transmitter takes nothing. -/
theorem exec_crewCharacterTaken_held {s : State} {c : Link} (h : (s.link c).termReady = false) :
    exec (.crewCharacterTaken c) s = .next s := by
  have htake : takeChar c s = s := if_neg fun ht => by simp [h] at ht
  refine congrArg Host.Outcome.next ?_
  rw [whenRunning, htake, ite_self]

/-- The writer and the arbiters keep a transmit FIFO within its 64 places. -/
theorem length_txFifo_settle (s : State) (c : Link) {u : LinkUnit} (hlen : u.txFifo.length ≤ 64) :
    ((settle (writerFill c (s.setLink c u))).link c).txFifo.length ≤ 64 := by
  refine (arbiterStep_settle _).fifo c ?_
  rw [link_writerFill, if_pos rfl, State.link_setLink_self]
  exact LinkUnit.length_filled hlen

/-- With a frame being written the freed place takes its next characters, and no other frame is begun. -/
theorem link_settle_begun {s : State} {c : Link} {u : LinkUnit} {o : Owner} {cs : List OutChar}
    (h : u.writing = some ⟨o, cs⟩) : (settle (writerFill c (s.setLink c u))).link c = u.begun o cs := by
  rw [writerFill_writing h, link_settle_of_writing] <;> rw [State.link_setLink_self]
  nofun

/-- Settles O28: the levels and the held transmitter directly; a character taken, by whether a frame is being written. -/
theorem transmitterTakesOldest : Obligations.TransmitterTakesOldest := by
  unfold Obligations.TransmitterTakesOldest
  refine fun s c high => ⟨rfl, rfl, exec_crewCharacterTaken_held, fun ch rest hrun ha hready hq hlen => ?_⟩
  rw [exec_crewCharacterTaken hrun ha hready hq]
  have hfits := length_txFifo_settle s c (u := (s.link c).sent ch rest) hlen.le
  have harb := (arbitersOnly_writerFill c (s.setLink c ((s.link c).sent ch rest))).trans (arbitersOnly_settle _)
  cases hw : (s.link c).writing with
  | none =>
    have hidle : writerFill c (s.setLink c ((s.link c).sent ch rest)) = s.setLink c ((s.link c).sent ch rest) :=
      writerFill_idle (by rw [State.link_setLink_self]; exact hw)
    have hlink := harb.link c
    obtain ⟨more, hmore⟩ := txFifo_settle c (s.setLink c ((s.link c).sent ch rest))
    rw [hidle] at hfits harb hlink ⊢
    rw [State.link_setLink_self] at hmore hlink
    exact ⟨_, more, rfl, by rw [hlink]; rfl, hmore, hfits, by rw [hlink]; rfl, by rw [hlink]; rfl, fun _ => rfl, nofun,
      harb.1⟩
  | some f =>
    obtain ⟨o, cs⟩ := f
    have hbegun := link_settle_begun (s := s) (c := c) (u := (s.link c).sent ch rest) hw
    have hfill := writerFill_writing (s := s) (c := c) (u := (s.link c).sent ch rest) hw
    refine ⟨_, _, rfl, by rw [hbegun]; rfl, by rw [hbegun]; rfl, hfits, by rw [hbegun]; rfl, by rw [hbegun]; rfl, nofun,
      ?_, harb.1⟩
    rintro o' w k hsome rfl
    cases hsome
    refine ⟨rfl, by rw [hbegun]; rfl, _, congrArg settle hfill, ?_, ?_⟩
    · rintro (rfl | rfl) <;> rfl
    · rintro i rfl
      rfl

end Sys2Proof.Machine
end

section
/-! What the Sheet Streamer does to one crew's sheets (R137 to R143, R149): its events write that crew's slot, and nothing
else. -/

namespace Sys2Proof.Machine

/-- `t` is `s` but for one crew's sheets. -/
def SlotOnly (c : Link) (s t : State) : Prop := t = s.setSlot c (t.slot c)

theorem State.setSlot_setSlot (s : State) (c : Link) (x y : SheetSlot) : (s.setSlot c x).setSlot c y = s.setSlot c y := by
  simp only [State.setSlot, PerLink.set_set]

@[simp] theorem State.setSlot_slot (s : State) (c : Link) : s.setSlot c (s.slot c) = s := by
  have hslots : s.ss.slots.set c (s.slot c) = s.ss.slots :=
    PerLink.ext_get fun d => by
      rw [PerLink.get_set]
      split
      · rename_i hd
        rw [hd]
        rfl
      · rfl
  rw [State.setSlot, hslots]

namespace SlotOnly

theorem refl (c : Link) (s : State) : SlotOnly c s s := (s.setSlot_slot c).symm

theorem trans {c : Link} {s t u : State} (h : SlotOnly c s t) (g : SlotOnly c t u) : SlotOnly c s u := by
  unfold SlotOnly at *
  rw [h, State.setSlot_setSlot] at g
  exact g

theorem setSlot (c : Link) (s : State) (x : SheetSlot) : SlotOnly c s (s.setSlot c x) := by
  rw [SlotOnly, State.slot_setSlot_self]

end SlotOnly

/-- A transfer starts only where the slot is empty and a sheet waits (R137). -/
theorem startTransfer_eq (c : Link) (s : State) : startTransfer c s = match (s.slot c).transfer, (s.slot c).queue with
    | none, i :: rest => s.setSlot c { s.slot c with queue := rest, transfer := some (s.newTransfer i) }
    | _, _ => s := rfl

theorem slotOnly_startTransfer (c : Link) (s : State) : SlotOnly c s (startTransfer c s) := by
  rw [startTransfer_eq]
  split
  · exact .setSlot c s _
  · exact .refl c s

theorem slotOnly_queueSheet (c : Link) (i : Nat) (s : State) : SlotOnly c s (queueSheet c i s).2 := by
  unfold queueSheet
  split
  · exact .refl c s
  · split
    · exact .refl c s
    · split
      · exact .refl c s
      · exact (SlotOnly.setSlot c s _).trans (slotOnly_startTransfer c _)

theorem slotOnly_requestSheet (c : Link) (i : Nat) (s : State) : SlotOnly c s (requestSheet c i s).2 := by
  unfold requestSheet
  split
  · exact .refl c s
  · exact slotOnly_queueSheet c i s

theorem slotOnly_queueField (c : Link) (f : Option Nat) (s : State) : SlotOnly c s (queueField c f s).2 := by
  cases f with
  | none => exact .refl c s
  | some i => exact slotOnly_queueSheet c i s

theorem slotOnly_requestByZone (c : Link) (z : Nat) (s : State) : SlotOnly c s (requestByZone c z s).2.2 := by
  unfold requestByZone
  split
  · exact .refl c s
  · split
    · exact .refl c s
    · exact (slotOnly_queueField c _ s).trans (slotOnly_queueField c _ _)

theorem slotOnly_stopSheet (c : Link) (i : Nat) (s : State) : SlotOnly c s (stopSheet c i s).2 := by
  unfold stopSheet
  dsimp only
  split
  · exact .setSlot c s _
  · split
    · split
      · exact (SlotOnly.setSlot c s _).trans (slotOnly_startTransfer c _)
      · exact .refl c s
    · exact .refl c s

theorem slotOnly_stopAllSheets (c : Link) (s : State) : SlotOnly c s (stopAllSheets c s) := .setSlot c s _

theorem slotOnly_spanComplete (c : Link) (i : BufId) (s : State) : SlotOnly c s (spanComplete c i s) := by
  unfold spanComplete
  dsimp only
  split
  · exact .setSlot c s _
  · split
    · exact (SlotOnly.setSlot c s _).trans (slotOnly_startTransfer c _)
    · exact .setSlot c s _

end Sys2Proof.Machine
end

section
/-! The canonical form of what the working state holds beside the live records, and of the plan memory: the writes that keep
it (R11, R59, R63, R77, R131, R152). -/

namespace Sys2Proof.Machine

/-! ### One crew (R77) -/

/-- A crew's marks in canonical form, its pending and set-aside sets ascending. -/
structure Crew.Canonical (k : Crew) : Prop where
  marks : Tab.wf none k.marks = true
  pending : k.pending.Pairwise (· < ·)
  aside : k.aside.Pairwise (· < ·)

namespace Crew.Canonical

theorem empty (w : Word16) : Crew.Canonical { Crew.empty with live := w } := ⟨Tab.wf_nil _, .nil, .nil⟩

variable {k : Crew} (h : k.Canonical)
include h

theorem setMark (z : Nat) (m : Mark) : (k.setMark z m).Canonical := by
  unfold Crew.setMark
  split
  · exact h
  · exact ⟨Tab.wf_put h.marks z (some m), h.pending, h.aside⟩

theorem dropMark (z : Nat) : (k.dropMark z).Canonical := ⟨Tab.wf_put h.marks z none, h.pending, h.aside⟩

theorem endOffer (z : Nat) : (k.endOffer z).Canonical := by
  rw [Crew.endOffer_eq]
  exact ⟨h.marks, h.pending, h.aside⟩

theorem noteUrgency (z : Nat) : (k.noteUrgency z).Canonical := by
  unfold Crew.noteUrgency
  split
  · exact h.setMark z _
  · exact h

theorem admitted (z : Nat) : Crew.Canonical { k with pending := ZSet.place k.pending z } :=
  ⟨h.marks, ZSet.sorted_place h.pending z, h.aside⟩

theorem zoneGone (z : Nat) (iso : Bool) : (k.zoneGone z iso).Canonical := by
  have left : Crew.Canonical { k with pending := without k.pending z, attended := without k.attended z,
                                      aside := without k.aside z } :=
    ⟨h.marks, sorted_without h.pending z, sorted_without h.aside z⟩
  unfold Crew.zoneGone
  dsimp only
  split
  · exact (left.endOffer z).setMark z _
  · exact left.endOffer z

theorem zoneMoved (z : Nat) : (k.zoneMoved z).Canonical :=
  noteUrgency (k := { k with aside := without k.aside z }) ⟨h.marks, h.pending, sorted_without h.aside z⟩ z

theorem accept (z : Nat) : (k.accept z).Canonical := by
  have taken : (({ k with pending := without k.pending z, attended := k.attended ++ [z] } : Crew).endOffer z).Canonical :=
    endOffer (k := { k with pending := without k.pending z, attended := k.attended ++ [z] })
      ⟨h.marks, sorted_without h.pending z, h.aside⟩ z
  unfold Crew.accept
  dsimp only
  split
  · exact taken.dropMark z
  · exact (taken.dropMark z).setMark z _
  · exact (taken.dropMark z).setMark z _
  · exact taken

theorem declined (z : Nat) : (k.declined z).Canonical :=
  endOffer (k := { k with pending := without k.pending z, aside := ZSet.place k.aside z })
    ⟨h.marks, sorted_without h.pending z, ZSet.sorted_place h.aside z⟩ z

theorem release (z sector : Nat) (rot : Rotation) : (k.release z sector rot).Canonical := by
  have aside : List.Pairwise (· < ·) (if inSectors k.live sector then ZSet.place k.aside z else k.aside) := by
    split
    · exact ZSet.sorted_place h.aside z
    · exact h.aside
  have letGo : (k.letGo z sector rot).Canonical := ⟨h.marks, h.pending, aside⟩
  unfold Crew.release
  dsimp only
  split
  · exact letGo.dropMark z
  · exact letGo

theorem newSectors (w : Word16) (inside : Nat → Bool) : (k.newSectors w inside).Canonical := by
  have within : ∀ o : Offer, Crew.Canonical { k.within w inside with offer := o } := fun o =>
    ⟨h.marks, h.pending.filter _, h.aside.filter _⟩
  unfold Crew.newSectors
  dsimp only
  split
  · exact within k.offer
  · split
    · exact within k.offer
    · exact within .none
  · split
    · exact within k.offer
    · exact (within .none).setMark _ _

theorem markComplete (m : Mark) (z : Nat) (renewed : Bool) : (k.markComplete m z renewed).Canonical := by
  unfold Crew.markComplete
  split
  · exact h.dropMark z
  · exact h

end Crew.Canonical

/-! ### The whole state -/

/-- What is kept in canonical form beside the retained tables and the live records. -/
def State.forms (s : State) : Tab Nat × Tab (Option Nat) × Tab (Option Byte) × Tab Byte × Tab Byte × PerLink Crew :=
  (s.zp.floors, s.ageSteps, s.ti.seqTable, s.planMem, s.ss.staging, s.nr)

/-- The floor alarm counts, the age schedules, the source sequence table, the plan memory, the staging buffer and the crews
in canonical form. -/
structure WorkingCanon (s : State) : Prop where
  floors : Tab.wf 0 s.zp.floors = true
  ageSteps : Tab.wf none s.ageSteps = true
  seqTable : Tab.wf none s.ti.seqTable = true
  planMem : Tab.wf Config.planErased s.planMem = true
  staging : Tab.wf Config.stagingStart s.ss.staging = true
  crews : ∀ c, (s.crew c).Canonical

theorem WorkingCanon.of_forms {s t : State} (h : WorkingCanon s) (ht : t.forms = s.forms) : WorkingCanon t := by
  simp only [State.forms, Prod.mk.injEq] at ht
  obtain ⟨hfloors, hage, hseq, hplan, hstaging, hnr⟩ := ht
  refine ⟨?_, ?_, ?_, ?_, ?_, fun c => ?_⟩
  · rw [hfloors]
    exact h.floors
  · rw [hage]
    exact h.ageSteps
  · rw [hseq]
    exact h.seqTable
  · rw [hplan]
    exact h.planMem
  · rw [hstaging]
    exact h.staging
  · rw [State.crew_of_nr hnr]
    exact h.crews c

/-- An event that keeps the canonical form. -/
structure KeepsForms (s t : State) : Prop where
  keeps : WorkingCanon s → WorkingCanon t

namespace KeepsForms

theorem refl (s : State) : KeepsForms s s := ⟨id⟩

theorem trans {s t u : State} (h : KeepsForms s t) (g : KeepsForms t u) : KeepsForms s u := ⟨g.keeps ∘ h.keeps⟩

/-- Writes beside everything that has a canonical form of its own. -/
theorem of_forms {s t : State} (h : t.forms = s.forms) : KeepsForms s t := ⟨fun hs => hs.of_forms h⟩

theorem ite {s t : State} {c : Prop} [Decidable c] (h : KeepsForms s t) : KeepsForms s (if c then t else s) := by
  split
  · exact h
  · exact .refl s

theorem whenRunning {s : State} {f : State → State} (h : KeepsForms s (f s)) : KeepsForms s (whenRunning s f) := by
  unfold Machine.whenRunning
  exact h.ite

theorem foldl {α : Type} {f : State → α → State} (h : ∀ s a, KeepsForms s (f s a)) (l : List α) (s : State) :
    KeepsForms s (l.foldl f s) := foldl_rel (R := KeepsForms) refl trans h l s

theorem eachLink {f : Link → State → State} (h : ∀ c s, KeepsForms s (f c s)) (s : State) :
    KeepsForms s (eachLink f s) := eachLink_rel (R := KeepsForms) trans h s

theorem setCrew {s : State} {c : Link} {k : Crew} (h : (s.crew c).Canonical → k.Canonical) :
    KeepsForms s (s.setCrew c k) := by
  refine ⟨fun hs => { hs with crews := fun d => ?_ }⟩
  rw [State.crew_setCrew]
  split
  · exact h (hs.crews c)
  · exact hs.crews d

theorem modCrew {s : State} {c : Link} {f : Crew → Crew} (h : ∀ k : Crew, k.Canonical → (f k).Canonical) :
    KeepsForms s (s.modCrew c f) := setCrew (h _)

theorem setAgeStep (s : State) (z : Nat) (u : Option Nat) : KeepsForms s (s.setAgeStep z u) :=
  ⟨fun hs => { hs with ageSteps := Tab.wf_put hs.ageSteps z u }⟩

theorem setFloor (s : State) (f : Int) (n : Nat) : KeepsForms s (s.setFloor f n) :=
  ⟨fun hs => { hs with floors := Tab.wf_put hs.floors _ n }⟩

theorem setSeq (f : Frame) (s : State) : KeepsForms s (setSeq f s) :=
  ⟨fun hs => { hs with seqTable := Tab.wf_put hs.seqTable f.src.toNat (some f.seq) }⟩

theorem writePlan (s : State) (a : Nat) (bytes : List Byte) :
    KeepsForms s { s with planMem := writePlanRange s.planMem a bytes } :=
  ⟨fun hs => { hs with planMem := wf_writePlanRange hs.planMem a bytes }⟩

theorem leavePage (s : State) (page : Nat) : KeepsForms s (s.leavePage page) :=
  (writePlan s (pageBase page) (leftBytes s.fresh)).trans (of_forms rfl)

theorem of_slotOnly {c : Link} {s t : State} (h : SlotOnly c s t) : KeepsForms s t := by
  rw [h]
  exact of_forms rfl

/-- What ends an event moves of these only the notices in flight. -/
theorem of_arbitersOnly {s t : State} (h : ArbitersOnly s t) : KeepsForms s t := by
  refine ⟨fun hs => ?_⟩
  have hcrews : ∀ c, (t.crew c).Canonical := fun c => by
    rw [h.crew c]
    exact ⟨(hs.crews c).marks, (hs.crews c).pending, (hs.crews c).aside⟩
  refine ⟨?_, ?_, ?_, ?_, ?_, hcrews⟩
  · rw [h.zp]
    exact hs.floors
  · rw [h.ageSteps]
    exact hs.ageSteps
  · rw [h.ti]
    exact hs.seqTable
  · rw [h.planMem]
    exact hs.planMem
  · rw [h.staging]
    exact hs.staging

theorem settle {s t : State} (h : KeepsForms s t) : KeepsForms s (settle t) :=
  h.trans (of_arbitersOnly (arbitersOnly_settle t))

theorem offerStep (c : Link) (s : State) : KeepsForms s (offerStep c s) := by
  rw [offerStep_eq]
  exact setCrew fun h => ⟨h.marks, h.pending, h.aside⟩

end KeepsForms

end Sys2Proof.Machine
end

section
/-! The crews' side of the controller keeps the canonical form: the reports, the crew requests and the crew link lines (R79
to R129). -/

namespace Sys2Proof.Machine

/-! ### Membership and the reports (R79 to R83, R101 to R104) -/

theorem keepsForms_admitZone (c : Link) (z : Nat) (s : State) : KeepsForms s (admitZone c z s) := by
  unfold admitZone
  exact .ite (.modCrew fun _ h => h.admitted z)

theorem keepsForms_admitAll (c : Link) (s : State) : KeepsForms s (admitAll c s) :=
  .foldl (fun s z => keepsForms_admitZone c z s) _ s

theorem keepsForms_setAttended (c : Link) (z : Nat) (on : Bool) (s : State) : KeepsForms s (setAttended c z on s) :=
  .of_forms rfl

theorem keepsForms_zoneGone (c : Link) (ch : Change) (s : State) : KeepsForms s (zoneGone c ch s) :=
  (KeepsForms.modCrew fun _ h => h.zoneGone ch.zone _).trans (keepsForms_setAttended c ch.zone false _)

theorem keepsForms_zoneMoved (c : Link) (z : Nat) (s : State) : KeepsForms s (zoneMoved c z s) :=
  (KeepsForms.modCrew fun _ h => h.zoneMoved z).trans (keepsForms_admitZone c z _)

theorem keepsForms_urgencyMoved (c : Link) (z : Nat) (s : State) : KeepsForms s (urgencyMoved c z s) :=
  .modCrew fun _ h => h.noteUrgency z

theorem keepsForms_takeCarried (chs : List Change) (us : List UrgencyChange) (s : State) :
    KeepsForms s (takeCarried chs us s) := by
  refine .eachLink (fun c u => ?_) s
  have gone := KeepsForms.foldl (fun s ch => keepsForms_zoneGone c ch s)
  have moved := KeepsForms.foldl (fun s (ch : Change) => keepsForms_zoneMoved c ch.zone s)
  have recomputed := KeepsForms.foldl (fun s (u : UrgencyChange) => keepsForms_urgencyMoved c u.zone s)
  unfold crewCarried
  exact .ite ((((gone _ u).trans (moved _ _)).trans (recomputed us _)).trans (.offerStep c _))

theorem keepsForms_takeUrgency (us : List UrgencyChange) (s : State) : KeepsForms s (takeUrgency us s) := by
  unfold takeUrgency
  split
  · exact .refl s
  · refine .eachLink (fun c u => .ite ?_) s
    exact (KeepsForms.foldl (fun s (u : UrgencyChange) => keepsForms_urgencyMoved c u.zone s) us u).trans
      (.offerStep c _)

theorem keepsForms_unattendAll (c : Link) (s : State) : KeepsForms s (unattendAll c s) :=
  .foldl (fun s z => keepsForms_setAttended c z false s) _ s

theorem keepsForms_takeCleared (s : State) : KeepsForms s (takeCleared s) :=
  .eachLink (fun c u => .ite ((keepsForms_unattendAll c u).trans (.modCrew fun _ _ => ⟨Tab.wf_nil _, .nil, .nil⟩))) s

theorem keepsForms_systemDueAll (s : State) : KeepsForms s (systemDueAll s) :=
  .eachLink (fun c s => .ite (.setCrew (k := (s.crew c).setSystemDue) fun h => ⟨h.marks, h.pending, h.aside⟩)) s

theorem keepsForms_setRotation (c : Link) (v : Nat) (s : State) : KeepsForms s (setRotation c v s) :=
  .ite ((KeepsForms.modCrew (f := fun k => { k with rc := v }) fun _ h => ⟨h.marks, h.pending, h.aside⟩).trans
    (.offerStep c _))

theorem keepsForms_profileWritten (c : Link) (s : State) : KeepsForms s (profileWritten c s) := .ite (.offerStep c s)

/-! ### The crews' requests (R92 to R100, R123) -/

theorem keepsForms_acceptZone (c : Link) (z : Nat) (s : State) : KeepsForms s (acceptZone c z s).2 := by
  have taken : KeepsForms s (setAttended c z true (s.modCrew c (fun k => k.accept z))) :=
    (KeepsForms.modCrew fun _ h => h.accept z).trans (keepsForms_setAttended c z true _)
  unfold acceptZone autoSheet
  split
  · split
    · exact taken.trans (.of_slotOnly (slotOnly_requestSheet c _ _))
    · exact taken
  · exact taken

theorem keepsForms_reqAccept (c : Link) (z : Nat) (s : State) : KeepsForms s (reqAccept c z s).2.2 := by
  unfold reqAccept
  split
  · exact .refl s
  · split
    · exact .refl s
    · split
      · exact .modCrew (f := fun k => k.endOffer z) fun _ h => h.endOffer z
      · exact keepsForms_acceptZone c z s

theorem keepsForms_reqDecline (c : Link) (z : Nat) (s : State) : KeepsForms s (reqDecline c z s).2.2 := by
  unfold reqDecline
  split
  · exact .refl s
  · split
    · exact .refl s
    · exact KeepsForms.modCrew fun _ h => h.declined z

theorem keepsForms_releaseZone (c : Link) (z : Nat) (s : State) : KeepsForms s (releaseZone c z s) :=
  (KeepsForms.modCrew fun _ h => h.release z _ _).trans (keepsForms_setAttended c z false _)

theorem keepsForms_reqRelease (c : Link) (z : Nat) (s : State) : KeepsForms s (reqRelease c z s).2.2 := by
  unfold reqRelease
  split
  · exact .refl s
  · split
    · exact .refl s
    · exact keepsForms_releaseZone c z s

theorem keepsForms_reqReleaseTop (c : Link) (s : State) : KeepsForms s (reqReleaseTop c s).2.2 := by
  unfold reqReleaseTop
  split
  · exact .refl s
  · exact keepsForms_releaseZone c _ s

theorem keepsForms_reqPoll (c : Link) (s : State) : KeepsForms s (reqPoll c s).2.2 := by
  unfold reqPoll
  split
  · exact .refl s
  · split
    · exact .refl s
    · split
      · exact .refl s
      · exact keepsForms_acceptZone c _ s

theorem keepsForms_reqSectors (c : Link) (w : Word16) (s : State) : KeepsForms s (reqSectors c w s).2.2 :=
  (KeepsForms.modCrew fun _ h => h.newSectors w _).trans (keepsForms_admitAll c _)

theorem keepsForms_modLink (c : Link) (f : LinkUnit → LinkUnit) (s : State) : KeepsForms s (s.modLink c f) :=
  .of_forms rfl

theorem keepsForms_setLink (c : Link) (u : LinkUnit) (s : State) : KeepsForms s (s.setLink c u) := .of_forms rfl

theorem keepsForms_placeReply (c : Link) (r : Reply) (s : State) : KeepsForms s (placeReply c r s) :=
  .of_forms rfl

theorem keepsForms_answerSS {c : Link} {kind : Byte} {a : Answer} {s : State} (h : KeepsForms s a.2.2) :
    KeepsForms s (answerSS c kind a) := 
  h.trans (keepsForms_placeReply c _ a.2.2)

theorem keepsForms_answerNR {c : Link} {kind : Byte} {a : Answer} {s : State} (h : KeepsForms s a.2.2) :
    KeepsForms s (answerNR c kind a) := (keepsForms_answerSS (kind := kind) h).trans (.offerStep c _)

/-- A crew's request keeps the canonical form, whatever it asks. -/
theorem keepsForms_takeRequest (c : Link) (kind : Byte) (r : Request) (s : State) :
    KeepsForms s (takeRequest c kind r s) := by
  cases r with
  | accept z => exact keepsForms_answerNR (keepsForms_reqAccept c z s)
  | decline z => exact keepsForms_answerNR (keepsForms_reqDecline c z s)
  | release z => exact keepsForms_answerNR (keepsForms_reqRelease c z s)
  | releaseTop => exact keepsForms_answerNR (keepsForms_reqReleaseTop c s)
  | poll => exact keepsForms_answerNR (keepsForms_reqPoll c s)
  | list => exact keepsForms_answerNR (a := reqList c s) (.refl s)
  | sectors w => exact keepsForms_answerNR (keepsForms_reqSectors c w s)
  | sheetById i => exact keepsForms_answerSS (.of_slotOnly (slotOnly_requestSheet c i s))
  | sheetByZone z => exact keepsForms_answerSS (.of_slotOnly (slotOnly_requestByZone c z s))
  | stopNamed i => exact keepsForms_answerSS (.of_slotOnly (slotOnly_stopSheet c i s))
  | stopAll =>
    exact keepsForms_answerSS (a := (.ok, [], stopAllSheets c s)) (.of_slotOnly (slotOnly_stopAllSheets c s))
  | unknown =>
    simp only [takeRequest]
    split
    · exact keepsForms_answerSS (a := (.unknown, [], s)) (.refl s)
    · exact keepsForms_answerNR (a := (.unknown, [], s)) (.refl s)

theorem keepsForms_crewRow (c : Link) (kind : Byte) (r : Request) (s : State) : KeepsForms s (crewRow c kind r s) :=
  .whenRunning (.ite (keepsForms_takeRequest c kind r s).settle)

theorem keepsForms_handOldest (c : Link) (s : State) : KeepsForms s (handOldest c s) := by
  unfold handOldest
  split
  · exact .refl s
  · exact .ite ((keepsForms_modLink c _ s).trans (keepsForms_takeRequest c _ _ _))

theorem keepsForms_handWaiting (c : Link) (s : State) : KeepsForms s (handWaiting c s) := by
  have once : ∀ {u}, KeepsForms s u → KeepsForms s (handOldest c u) := fun h => h.trans (keepsForms_handOldest c _)
  exact once (once (once (once (.refl s))))

/-! ### The lines of the crews (R111 to R129) -/

theorem keepsForms_crewFrameDone (c : Link) (buf : List Byte) (reg : Word16) (s : State) :
    KeepsForms s (crewFrameDone c buf reg s) := by
  unfold crewFrameDone
  split
  · exact ((keepsForms_modLink c _ s).trans (keepsForms_handWaiting c _)).settle
  · exact keepsForms_modLink c _ s

theorem keepsForms_crewByte (c : Link) (b : Byte) (s : State) : KeepsForms s (crewByte c b s) := by
  unfold crewByte
  dsimp only
  split
  · exact keepsForms_modLink c _ s
  · split
    · exact keepsForms_modLink c _ s
    · split
      · exact (keepsForms_modLink c _ s).trans (keepsForms_modLink c _ _)
      · split
        · exact (keepsForms_modLink c _ s).trans (keepsForms_crewFrameDone c _ _ _)
        · exact keepsForms_modLink c _ s

theorem keepsForms_crewChar (c : Link) (ch : LineChar) (s : State) : KeepsForms s (crewChar c ch s) := by
  refine .ite ?_
  cases (s.link c).asm.take ch with
  | ignored => exact keepsForms_modLink c _ s
  | byte b => exact (keepsForms_modLink c _ s).trans (keepsForms_crewByte c b _)
  | opened | reopened | escaped | bad => exact (keepsForms_modLink c _ s).trans (keepsForms_modLink c _ _)

theorem keepsForms_rxBack (c : Link) (back : Bool) (s : State) : KeepsForms s (rxBack c back s) :=
  .ite (keepsForms_modLink c _ s)

theorem keepsForms_takeChar (c : Link) (s : State) : KeepsForms s (takeChar c s) := by
  refine .ite ?_
  split
  · exact .refl s
  · exact ((keepsForms_setLink c _ s).trans (.of_arbitersOnly (arbitersOnly_writerFill c _))).settle

theorem keepsForms_offerComplete (c : Link) (z : Nat) (s : State) : KeepsForms s (offerComplete c z s) := by
  unfold offerComplete
  dsimp only
  split
  · exact .setCrew fun h => ⟨h.marks, h.pending, h.aside⟩
  · split
    · exact .refl s
    · exact .setCrew fun h => h.setMark z _

theorem keepsForms_noticeComplete (c : Link) (s : State) : KeepsForms s (noticeComplete c s) := by
  have landed : ∀ {t}, KeepsForms s t → KeepsForms s (offerStep c (t.modCrew c (fun k => { k with flight := none }))) :=
    fun h => (h.trans (.modCrew (f := fun k => { k with flight := none }) fun _ h =>
      ⟨h.marks, h.pending, h.aside⟩)).trans (.offerStep c _)
  unfold noticeComplete
  split
  · exact .refl s
  · rename_i f _
    refine landed ?_
    cases f.kind with
    | system => exact KeepsForms.modCrew fun _ h => ⟨h.marks, h.pending, h.aside⟩
    | mark m => exact KeepsForms.modCrew fun _ h => h.markComplete m f.zone f.renewed
    | offer => exact keepsForms_offerComplete c f.zone s

theorem keepsForms_ownerComplete (c : Link) (o : Owner) (s : State) : KeepsForms s (ownerComplete c o s) := by
  cases o with
  | reply => exact (keepsForms_modLink c _ s).trans (keepsForms_handWaiting c _)
  | notice => exact keepsForms_noticeComplete c s
  | sheet i => exact .of_slotOnly (slotOnly_spanComplete c i s)

theorem keepsForms_frameWritten (c : Link) (s : State) : KeepsForms s (frameWritten c s) := by
  unfold frameWritten
  dsimp only
  split
  · exact .ite (((keepsForms_setLink c _ s).trans (.of_arbitersOnly (arbitersOnly_noteDrained c _ _ _))).trans
      (keepsForms_ownerComplete c _ _)).settle
  · exact .refl s

theorem keepsForms_attachLink (c : Link) (rx : Level) (s : State) : KeepsForms s (attachLink c rx s) := by
  have joined : KeepsForms s (s.joining c rx) :=
    (keepsForms_modLink c _ s).trans (.setCrew fun _ => Crew.Canonical.empty _)
  rw [attachLink_eq]
  exact ((joined.trans (keepsForms_admitAll c _)).trans (.modCrew (f := Crew.setSystemDue) fun _ h =>
    ⟨h.marks, h.pending, h.aside⟩)).trans (.offerStep c _)

theorem keepsForms_leaveAttached (c : Link) (st : LinkState) (s : State) : KeepsForms s (leaveAttached c st s) := by
  rw [leaveAttached_eq]
  exact (((keepsForms_modLink c _ s).trans (keepsForms_unattendAll c _)).trans
    (.setCrew fun _ => Crew.Canonical.empty 0)).trans (.of_slotOnly (.setSlot c _ _))

theorem keepsForms_disableLink (c : Link) (s : State) : KeepsForms s (disableLink c s) := by
  unfold disableLink
  split
  · exact .refl s
  · exact keepsForms_modLink c _ s
  · exact keepsForms_leaveAttached c _ s

theorem keepsForms_enableLink (c : Link) (s : State) : KeepsForms s (enableLink c s) := by
  unfold enableLink
  split
  · exact keepsForms_modLink c _ s
  · exact .refl s

end Sys2Proof.Machine
end

section
/-! The picture, the Urgency Unit, the Management Responder, the trunk and the starts keep the canonical form, and so does
every command. -/

namespace Sys2Proof.Machine

/-! ### The Urgency Unit and the picture (R37 to R76) -/

theorem keepsForms_listedZone (ch : Change) (s : State) : KeepsForms s (listedZone ch s) := by
  have written : ∀ u, KeepsForms s (setUrgency ch.zone u s) := fun u => .of_forms rfl
  unfold listedZone
  dsimp only
  split
  · split
    · split
      · exact (written _).trans (.setAgeStep ..)
      · exact written _
    · exact (written _).trans (.setAgeStep ..)
  · exact (written _).trans (.setAgeStep ..)

theorem keepsForms_recomputed (zs : List Nat) (s : State) : KeepsForms s (s.recomputed zs) :=
  .foldl (f := fun s (u : UrgencyChange) => setUrgency u.zone u.after s) (fun _ _ => .of_forms rfl) _ s

theorem keepsForms_takeZoneReport (r : ZoneReport) (s : State) : KeepsForms s (takeZoneReport r s) := by
  have listed : KeepsForms s (s.listed r.changes) := .foldl (fun s ch => keepsForms_listedZone ch s) _ s
  rw [takeZoneReport_eq]
  split
  · exact .refl s
  · exact (listed.trans (keepsForms_recomputed _ _)).trans (keepsForms_takeCarried _ _ _)

theorem keepsForms_recomputeAndReport (zs : List Nat) (s : State) : KeepsForms s (recomputeAndReport zs s) :=
  (keepsForms_recomputed zs s).trans (keepsForms_takeUrgency _ _)

theorem keepsForms_storeZone (z : Nat) (l : ZoneLive) (s : State) : KeepsForms s (s.storeZone z l) := by
  have stored : KeepsForms s (s.setZone z l) := .of_forms rfl
  unfold State.storeZone
  dsimp only
  split
  · exact stored.trans (.setFloor ..)
  · split
    · exact stored.trans (.setFloor ..)
    · exact stored

theorem keepsForms_commitZone (z : Nat) (mid : ZoneLive) (s : State) : KeepsForms s (commitZone z mid s) := by
  rw [commitZone_eq]
  exact (keepsForms_storeZone z _ s).trans (keepsForms_takeZoneReport _ _)

theorem keepsForms_pointEvent (e : PointEvent) (s : State) : KeepsForms s (pointEvent e s) := by
  unfold pointEvent zoneEvent
  dsimp only
  split
  · exact .of_forms rfl
  · split
    · exact .of_forms rfl
    · exact keepsForms_commitZone _ _ s

theorem keepsForms_zoneIsolate (z : Nat) (on : Bool) (s : State) : KeepsForms s (zoneIsolate z on s) := by
  unfold zoneIsolate
  dsimp only
  split
  · exact .refl s
  · split
    · exact .refl s
    · split <;> exact keepsForms_commitZone z _ s

theorem keepsForms_panelReset (s : State) : KeepsForms s (panelReset s) := by
  have emptied : KeepsForms s s.resetZones := ⟨fun hs => { hs with floors := Tab.wf_nil _ }⟩
  rw [panelReset_eq]
  exact emptied.trans (keepsForms_takeZoneReport _ _)

theorem keepsForms_pictureClear (s : State) : KeepsForms s (pictureClear s) := by
  have cleared : KeepsForms s { s with zp := { live := [], floors := [] }, ageSteps := [] } :=
    ⟨fun hs => { hs with floors := Tab.wf_nil _, ageSteps := Tab.wf_nil _ }⟩
  exact cleared.trans (keepsForms_takeCleared _)

theorem keepsForms_ageStepFalls (z : Nat) (s : State) : KeepsForms s (ageStepFalls z s) :=
  (KeepsForms.setAgeStep s z _).trans (keepsForms_recomputeAndReport _ _)

theorem keepsForms_setTables (r : Retained) (s : State) : KeepsForms s (setTables r s) := .of_forms rfl

theorem keepsForms_setConfig (t : ConfigTable) (s : State) : KeepsForms s (setConfig t s) := by
  have written := keepsForms_setTables { s.tables with config := t } s
  unfold setConfig takeConfigChange
  dsimp only
  split
  · exact written.trans (keepsForms_recomputeAndReport _ _)
  · exact (written.trans (.foldl (fun s _ => .setAgeStep s ..) _ _)).trans (keepsForms_recomputeAndReport _ _)

/-! ### Picture status and the trunk state (R16, R104, R184 to R186) -/

theorem keepsForms_control (x : Control) (s : State) : KeepsForms s { s with sc := x } := .of_forms rfl

theorem keepsForms_setStatus (st : PictureStatus) (s : State) : KeepsForms s (setStatus st s) := by
  have hs := keepsForms_control { s.sc with status := st } s
  unfold setStatus
  dsimp only
  split
  · exact hs
  · exact hs.trans (keepsForms_systemDueAll _)

theorem keepsForms_giveOwn (d k : Byte) (b : List Byte) (s : State) : KeepsForms s (giveOwn d k b s) := .of_forms rfl

theorem KeepsForms.reply {s t : State} (h : KeepsForms s t) (src : Byte) (id : Word16) (r : MgmtResult) (d : List Byte) :
    KeepsForms s (reply src id r d t) := h.trans (keepsForms_giveOwn _ _ _ t)

theorem keepsForms_callResync (s : State) : KeepsForms s (callResync s) :=
  ((keepsForms_setStatus .resyncing s).trans (keepsForms_giveOwn _ _ _ _)).trans (keepsForms_control _ _)

theorem keepsForms_setUp (p : Port) (up : Bool) (s : State) : KeepsForms s (setUp p up s) := by
  have told : KeepsForms s (systemDueAll (s.setPort p { s.port p with up := up })) :=
    (KeepsForms.of_forms (s := s) (t := s.setPort p { s.port p with up := up }) rfl).trans (keepsForms_systemDueAll _)
  unfold setUp trunkChanged
  dsimp only
  split
  · exact .of_forms rfl
  · split
    · exact (told.trans (keepsForms_control _ _)).trans (keepsForms_setStatus .stale _)
    · split
      · exact told.trans (keepsForms_callResync _)
      · exact told

theorem keepsForms_resyncDone (s : State) : KeepsForms s (resyncDone s) :=
  .ite ((keepsForms_control _ s).trans (keepsForms_setStatus .current _))

theorem keepsForms_resyncExpires (s : State) : KeepsForms s (resyncExpires s) :=
  (keepsForms_control _ s).trans (keepsForms_setStatus .current _)

/-! ### The Management Responder (R157 to R178) -/

theorem keepsForms_mapInsert (e : MapEntry) (s : State) : KeepsForms s (mapInsert e s).2.2 := by
  unfold mapInsert
  split
  · exact .refl s
  · split
    · exact .refl s
    · split
      · exact .refl s
      · exact keepsForms_setTables _ s

theorem keepsForms_mapDelete (n f : Nat) (s : State) : KeepsForms s (mapDelete n f s).2 := by
  unfold mapDelete
  split
  · exact .refl s
  · split
    · exact keepsForms_setTables _ s
    · exact .refl s

theorem keepsForms_writeMap (i : Nat) (e : MapEntry) (s : State) : KeepsForms s (writeMap i e s).2 := by
  unfold writeMap
  dsimp only
  split
  · exact .refl s
  · split
    · exact .refl s
    · split
      · exact .refl s
      · exact keepsForms_setTables _ s

theorem keepsForms_writeFallback (n z : Nat) (s : State) : KeepsForms s (writeFallback n z s).2 := by
  unfold writeFallback
  split
  · exact .refl s
  · split
    · exact .refl s
    · exact keepsForms_setTables _ s

theorem keepsForms_writeZoneDef (z : Nat) (d : ZoneDef) (s : State) : KeepsForms s (writeZoneDef z d s).2 := by
  unfold writeZoneDef
  split
  · exact .refl s
  · split
    · exact .refl s
    · split
      · exact .refl s
      · exact keepsForms_setTables _ s

theorem keepsForms_writeBonus (cls b : Nat) (s : State) : KeepsForms s (writeBonus cls b s).2 := by
  unfold writeBonus
  split
  · exact .refl s
  · split
    · exact .refl s
    · exact keepsForms_setConfig _ s

theorem keepsForms_writeSheet (i : Nat) (r : SheetRec) (s : State) : KeepsForms s (writeSheet i r s).2 := by
  unfold writeSheet
  split
  · exact keepsForms_setTables _ s
  · exact .refl s

theorem keepsForms_writeProfile (n : Nat) (p : Profile) (s : State) : KeepsForms s (writeProfile n p s).2 := by
  unfold writeProfile
  split
  · exact .refl s
  · exact (keepsForms_setTables _ s).trans (keepsForms_profileWritten _ _)

theorem keepsForms_writeConfig (src : Byte) (id : Word16) (i : Nat) (t : ConfigTable) (s : State) :
    KeepsForms s (writeConfig src id i t s) := by
  have refused : ∀ c, KeepsForms s (reply src id c [] s) := fun c => (KeepsForms.refl s).reply _ _ c _
  unfold writeConfig
  split
  · exact refused _
  · split
    · exact refused _
    · split
      · exact refused _
      · split
        · exact (keepsForms_setConfig t s).reply _ _ _ _
        · exact ((refused _).trans (keepsForms_setConfig t _)).trans (.of_forms rfl)

/-- A staged buffer is written byte by byte (R152). -/
theorem keepsForms_planStage (o : Nat) (bs : List Byte) (s : State) : KeepsForms s (planStage o bs s).2 := by
  unfold planStage
  split
  · exact .refl s
  · exact ⟨fun hs => { hs with staging := wf_stageBytes hs.staging o bs }⟩

theorem keepsForms_acceptOp (src : Byte) (id : Word16) (op : Byte) (w : WaitingOp) (s : State) :
    KeepsForms s (acceptOp src id op w s) := .of_forms rfl

theorem keepsForms_readerRequest (src : Byte) (id : Word16) (op : Byte) (r : MgmtResult) (w : WaitingOp) (s : State) :
    KeepsForms s (readerRequest src id op r w s) := by
  unfold readerRequest
  split
  · exact keepsForms_acceptOp src id op w s
  · exact (KeepsForms.refl s).reply _ _ _ _

theorem keepsForms_linkCommand {f : Link → State → State} {s : State} (hf : ∀ c, KeepsForms s (f c s)) (src : Byte)
    (id : Word16) (n : Nat) : KeepsForms s (linkCommand f src id n s) := by
  unfold linkCommand
  split
  · exact (KeepsForms.refl s).reply _ _ _ _
  · exact (hf _).reply _ _ _ _

theorem keepsForms_rotationCommand (src : Byte) (id : Word16) (n v : Nat) (s : State) :
    KeepsForms s (rotationCommand src id n v s) := by
  unfold rotationCommand
  split
  · exact (KeepsForms.refl s).reply _ _ _ _
  · split
    · exact (KeepsForms.refl s).reply _ _ _ _
    · exact (keepsForms_setRotation _ v s).reply _ _ _ _

theorem keepsForms_carryOut (src : Byte) (id : Word16) (r : MgmtReq) (s : State) : KeepsForms s (carryOut src id r s) := by
  cases r with
  | tableRead t i => exact (KeepsForms.refl s).reply _ _ _ _
  | writeMap i e => exact (keepsForms_writeMap i e s).reply _ _ _ _
  | writeFallback i z => exact (keepsForms_writeFallback i z s).reply _ _ _ _
  | writeZoneDef i d => exact (keepsForms_writeZoneDef i d s).reply _ _ _ _
  | writeBonus i b => exact (keepsForms_writeBonus i b s).reply _ _ _ _
  | writeSheet i x => exact (keepsForms_writeSheet i x s).reply _ _ _ _
  | writeProfile i p => exact (keepsForms_writeProfile i p s).reply _ _ _ _
  | writeConfig i t => exact keepsForms_writeConfig src id i t s
  | mapInsert e => exact (keepsForms_mapInsert e s).reply _ _ _ _
  | mapDelete n f => exact (keepsForms_mapDelete n f s).reply _ _ _ _
  | mapClear => exact (keepsForms_setTables { s.tables with map := [] } s).reply _ _ _ _
  | planStage o bs => exact (keepsForms_planStage o bs s).reply _ _ _ _
  | planCommit p => exact keepsForms_readerRequest _ _ _ _ _ s
  | planRead p o n => exact keepsForms_readerRequest _ _ _ _ _ s
  | zoneRead z =>
    simp only [carryOut]
    split <;> exact (KeepsForms.refl s).reply _ _ _ _
  | statusRead clear =>
    have counted : KeepsForms s (if clear = true then clearCounters s else s) := .ite (.of_forms rfl)
    exact counted.reply _ _ _ _
  | pictureClear => exact ((keepsForms_pictureClear s).trans (keepsForms_callResync _)).reply _ _ _ _
  | setRotation n v => exact keepsForms_rotationCommand src id n v s
  | linkDisable n => exact keepsForms_linkCommand (fun c => keepsForms_disableLink c s) src id n
  | linkEnable n => exact keepsForms_linkCommand (fun c => keepsForms_enableLink c s) src id n
  | configSave => exact keepsForms_acceptOp _ _ _ _ s

theorem keepsForms_takeMgmt (src : Byte) (id : Word16) (op : Byte) (args : List Byte) (s : State) :
    KeepsForms s (takeMgmt src id op args s) := by
  have refused : ∀ c, KeepsForms s (reply src id c [] s) := fun c => (KeepsForms.refl s).reply _ _ c _
  unfold takeMgmt
  split
  · exact refused _
  · split
    · exact refused _
    · split
      · exact refused _
      · exact refused _
      · exact refused _
      · split
        · exact refused _
        · exact keepsForms_carryOut src id _ s

theorem keepsForms_mgmtRow (src : Byte) (id : Word16) (op : Byte) (args : List Byte) (s : State) :
    KeepsForms s (mgmtRow src id op args s) := KeepsForms.whenRunning (keepsForms_takeMgmt src id op args s).settle

theorem keepsForms_completeRequest (r : MgmtResult) (d : List Byte) (s : State) :
    KeepsForms s (completeRequest r d s) := by
  unfold completeRequest
  split
  · exact .refl s
  · exact (KeepsForms.of_forms (s := s) (t := { s with mr := none }) rfl).reply _ _ _ _

/-- A program's page is written byte by byte, whatever the memory left in it (R132, R154). -/
theorem keepsForms_finishProgram (ok : Bool) (page : Nat) (bytes : List Byte) (s : State) :
    KeepsForms s (finishProgram ok page bytes s).2 := by
  have freed : KeepsForms s { s with ss := { s.ss with reader := none } } := .of_forms rfl
  cases ok with
  | true => exact freed.trans (.writePlan _ _ _)
  | false =>
    have counted : ∀ u : State, KeepsForms u u.countPlanFault := fun _ => .of_forms rfl
    exact (freed.trans (.leavePage _ page)).trans (counted _)

theorem keepsForms_programDone (ok : Bool) (s : State) : KeepsForms s (programDone ok s) := by
  unfold programDone
  split
  · exact ((keepsForms_finishProgram ok _ _ s).trans (keepsForms_completeRequest _ _ _)).settle
  · exact .refl s

theorem keepsForms_planReadDone (ok : Bool) (s : State) : KeepsForms s (planReadDone ok s) := by
  unfold planReadDone
  split
  · rename_i p o n _
    have ended : KeepsForms s (finishRead ok p o n s).2.2 := by
      cases ok <;> exact .of_forms rfl
    exact (ended.trans (keepsForms_completeRequest _ _ _)).settle
  · exact .refl s

/-! ### Fill reads (R146, R147) -/

theorem keepsForms_fillComplete (s : State) : KeepsForms s (fillComplete s) := by
  unfold fillComplete
  split
  · dsimp only
    split <;> exact .of_forms rfl
  · exact .refl s

theorem keepsForms_fillFail (s : State) : KeepsForms s (fillFail s) := by
  unfold fillFail
  split
  · dsimp only
    split <;> exact .of_forms rfl
  · exact .refl s

/-! ### Frames received (R1 to R12) -/

theorem keepsForms_modPort (p : Port) (f : PortUnit → PortUnit) (s : State) : KeepsForms s (s.modPort p f) :=
  .of_forms rfl

theorem keepsForms_hand (f : Frame) (s : State) : KeepsForms s (hand f s) := by
  unfold hand
  split
  · split
    · exact keepsForms_pointEvent _ s
    · exact .refl s
  · split
    · exact keepsForms_panelReset s
    · split
      · split
        · exact keepsForms_zoneIsolate _ _ s
        · exact .refl s
      · split
        · split
          · exact .of_forms rfl
          · exact .refl s
        · split
          · exact keepsForms_resyncDone s
          · split
            · unfold takeMgmtPayload
              split
              · exact keepsForms_takeMgmt _ _ _ _ s
              · exact .refl s
            · exact .refl s

theorem keepsForms_handTests (p : Port) (f : Frame) (s : State) : KeepsForms s (handTests p f s) := by
  unfold handTests
  split
  · exact keepsForms_modPort p _ s
  · split
    · exact .refl s
    · exact (KeepsForms.setSeq f s).trans (keepsForms_hand f _)

theorem keepsForms_dispatch (p : Port) (f : Frame) (s : State) : KeepsForms s (dispatch p f s) := by
  have repeated := keepsForms_modPort (otherPort p) (PortUnit.placeRepeat f) s
  unfold dispatch
  dsimp only
  split
  · exact .refl s
  · split
    · exact keepsForms_modPort p _ s
    · split
      · exact .ite (keepsForms_handTests p f s)
      · split
        · exact repeated.trans (keepsForms_handTests p f _)
        · exact repeated

theorem keepsForms_soundFrame (p : Port) (f : Frame) (s : State) : KeepsForms s (soundFrame p f s) :=
  KeepsForms.settle ((((keepsForms_setUp p true s).trans (keepsForms_modPort p _ _)).trans
    (keepsForms_dispatch p f _)).trans (keepsForms_modPort p _ _))

theorem keepsForms_trunkFrameDone (p : Port) (buf : List Byte) (reg : Word16) (s : State) :
    KeepsForms s (trunkFrameDone p buf reg s) := by
  have hunting := keepsForms_modPort p (fun u => { u with asm := .hunting }) s
  unfold trunkFrameDone
  dsimp only
  split
  · split
    · exact hunting.trans (keepsForms_soundFrame p _ _)
    · exact hunting
  · exact hunting.trans (keepsForms_modPort p _ _)

theorem keepsForms_trunkByte (p : Port) (b : Byte) (s : State) : KeepsForms s (trunkByte p b s) := by
  unfold trunkByte
  dsimp only
  split
  · exact keepsForms_modPort p _ s
  · split
    · exact keepsForms_trunkFrameDone p _ _ s
    · exact keepsForms_modPort p _ s

theorem keepsForms_trunkChar (p : Port) (ch : LineChar) (s : State) : KeepsForms s (trunkChar p ch s) := by
  have heard := keepsForms_modPort p (fun u => { u with receiver := receiverAfter ch }) s
  unfold trunkChar
  dsimp only
  split
  · exact .refl s
  · cases (s.port p).asm.take ch with
    | ignored => exact heard
    | byte b => exact heard.trans (keepsForms_trunkByte p b _)
    | opened | reopened | escaped | bad => exact heard.trans (keepsForms_modPort p _ _)

/-! ### Starts (R179 to R183) -/

/-- The working state at its start values is in canonical form when the plan memory is. -/
theorem workingCanon_workingStart {s : State} (h : Tab.wf Config.planErased s.planMem = true) (relay : Relay)
    (st : LinkState) (out : ReadyOut) : WorkingCanon (workingStart relay st out s) :=
  ⟨Tab.wf_nil _, Tab.wf_nil _, Tab.wf_nil _, h, Tab.wf_nil _, fun c => by cases c <;> exact Crew.Canonical.empty 0⟩

theorem keepsForms_cutProgram (s : State) : KeepsForms s (cutProgram s) := by
  unfold cutProgram
  split
  · exact .leavePage s _
  · exact .refl s

theorem keepsForms_loseWorking (s : State) : KeepsForms s (loseWorking s) :=
  ⟨fun hs => workingCanon_workingStart ((keepsForms_cutProgram s).keeps hs).planMem ..⟩

theorem keepsForms_beginStart (s : State) : KeepsForms s (beginStart s) := by
  rw [beginStart_eq]
  exact (keepsForms_loseWorking s).trans (.of_forms rfl)

theorem keepsForms_finishStart (ok : Bool) (s : State) : KeepsForms s (finishStart ok s) := by
  have settled : (settleTables ok s).planMem = s.planMem := by
    unfold settleTables
    split <;> rfl
  refine ⟨fun hs => (keepsForms_callResync _).keeps (workingCanon_workingStart ?_ ..)⟩
  rw [settled]
  exact hs.planMem

/-! ### Every command -/

/-- What a command answers keeps the canonical form. -/
theorem keepsForms_exec (i : Instr) (s : State) : ∃ t, exec i s = .next t ∧ KeepsForms s t := by
  cases i with
  | trunkFrameComplete p b | trunkCharacterReceived p b => exact ⟨_, rfl, .whenRunning (keepsForms_trunkChar p _ s)⟩
  | trunkFrameDiscard p ch => exact ⟨_, rfl, .whenRunning (keepsForms_trunkChar p ch s)⟩
  | trunkPartialFrameTimeout p => exact ⟨_, rfl, .whenRunning (.ite (keepsForms_modPort p _ s))⟩
  | breakTimerExpiry p | silenceTimerExpiry p =>
    exact ⟨_, rfl, .whenRunning (.ite (keepsForms_setUp p false s).settle)⟩
  | stripHoldExpiry | uptimeTick => exact ⟨_, rfl, .whenRunning (.of_forms rfl)⟩
  | trunkTransmitComplete p => exact ⟨_, rfl, .whenRunning (keepsForms_modPort p _ s)⟩
  | trunkReceiveLevelChange p l => exact ⟨_, rfl, keepsForms_modPort p _ s⟩
  | verifyWindowExpiry z => exact ⟨_, rfl, .whenRunning (.ite (keepsForms_commitZone z _ s).settle)⟩
  | ageStep z => exact ⟨_, rfl, .whenRunning (.ite (keepsForms_ageStepFalls z s).settle)⟩
  | offerTimeout c =>
    have ended : KeepsForms s (s.modCrew c (fun k => { k with offer := .none })) :=
      .modCrew fun _ h => ⟨h.marks, h.pending, h.aside⟩
    exact ⟨_, rfl, .whenRunning (.ite (ended.trans (.offerStep c _)).settle)⟩
  | resyncTimeout => exact ⟨_, rfl, .whenRunning (.ite (keepsForms_resyncExpires s).settle)⟩
  | presenceChange c high | terminalReadyChange c high => exact ⟨_, rfl, keepsForms_modLink c _ s⟩
  | linkAttach a => exact ⟨_, rfl, .whenRunning (.ite (keepsForms_attachLink a.link a.rx s).settle)⟩
  | linkDetach c => exact ⟨_, rfl, .whenRunning (.ite (keepsForms_leaveAttached c _ s))⟩
  | crewFrameComplete c b | receiveOverrun c b => exact ⟨_, rfl, .whenRunning (keepsForms_crewChar c _ s)⟩
  | crewFrameDiscard c ch => exact ⟨_, rfl, .whenRunning (keepsForms_crewChar c ch s)⟩
  | crewCharacterReceived c b =>
    exact ⟨_, rfl, .whenRunning ((keepsForms_rxBack c b.back s).trans (keepsForms_crewChar c _ _))⟩
  | crewPartialFrameTimeout c => exact ⟨_, rfl, .whenRunning (.ite (keepsForms_modLink c _ s))⟩
  | crewCharacterTaken c => exact ⟨_, rfl, .whenRunning (keepsForms_takeChar c s)⟩
  | crewFrameWritten c => exact ⟨_, rfl, .whenRunning (keepsForms_frameWritten c s)⟩
  | accept c | decline c | release c | sectors c | sheetReqById c | sheetReqByZone c | sheetStopNamed c | releaseTop c
  | poll c | list c | sheetStopAll c | unknownRequest c => exact ⟨_, rfl, keepsForms_crewRow c _ _ s⟩
  | fillReadComplete => exact ⟨_, rfl, .whenRunning (.ite (keepsForms_fillComplete s).settle)⟩
  | fillReadFail => exact ⟨_, rfl, .whenRunning (.ite (keepsForms_fillFail s).settle)⟩
  | programComplete ok => exact ⟨_, rfl, .whenRunning (keepsForms_programDone ok s)⟩
  | planReadComplete ok => exact ⟨_, rfl, .whenRunning (keepsForms_planReadDone ok s)⟩
  | start => exact ⟨_, rfl, keepsForms_beginStart s⟩
  | startComplete ok => exact ⟨_, rfl, .ite (keepsForms_finishStart ok s)⟩
  | holdoverLow => exact ⟨_, rfl, by split <;> exact .of_forms rfl⟩
  | mainPowerLoss => exact ⟨_, rfl, .ite ((keepsForms_loseWorking s).trans (keepsForms_control _ _))⟩
  | _ => exact ⟨_, exec_of_requestOf rfl s, keepsForms_mgmtRow _ _ _ _ s⟩

theorem keepsForms_step {s t : State} (h : step s = .next t) : KeepsForms s t := by
  unfold step at h
  split at h
  · obtain rfl := Host.Outcome.next.inj h
    exact .refl s
  · rename_i c rest _
    obtain ⟨u, hu, hkeeps⟩ := keepsForms_exec c (s.withPending rest)
    obtain rfl := Host.Outcome.next.inj (hu.symm.trans h)
    exact (KeepsForms.of_forms (s := s) (t := s.withPending rest) rfl).trans hkeeps

/-! ### The retained tables (R20, R33, R133) -/

/-- The retained tables that are held by key, in canonical form. -/
structure Retained.Canonical (r : Retained) : Prop where
  fallback : Tab.wf 0 r.fallback = true
  defs : Tab.wf ZoneDef.cold r.defs = true
  dir : Tab.wf SheetRec.cold r.dir = true

/-- A write keeps every retained table in canonical form. -/
theorem TableWrite.keeps_canonical {r r' : Retained} (h : TableWrite r r') (hr : r.Canonical) : r'.Canonical := by
  cases h with
  | fallback => exact { hr with fallback := Tab.wf_put hr.fallback _ _ }
  | zoneDef => exact { hr with defs := Tab.wf_put hr.defs _ _ }
  | sheet => exact { hr with dir := Tab.wf_put hr.dir _ _ }
  | cold => exact ⟨Tab.wf_nil _, Tab.wf_nil _, Tab.wf_nil _⟩
  | inserted | deleted | cleared | replaced | profile | bonus | config => exact ⟨hr.fallback, hr.defs, hr.dir⟩

theorem Retained.Becomes.keeps_canonical {r r' : Retained} (h : r.Becomes r') (hr : r.Canonical) : r'.Canonical := by
  cases h with
  | refl => exact hr
  | single hw => exact hw.keeps_canonical hr

theorem canonInv_iff (s : State) :
    CanonInv s ↔ s.tables.Canonical ∧ Tab.wf ZoneLive.start s.zp.live = true ∧ WorkingCanon s := by
  constructor
  · rintro ⟨hfallback, hdefs, hdir, hlive, hfloors, hage, hseq, hplan, hstaging, hcrews⟩
    refine ⟨⟨hfallback, hdefs, hdir⟩, hlive, hfloors, hage, hseq, hplan, hstaging, fun c => ?_⟩
    obtain ⟨hmarks, hpending, haside⟩ := hcrews c
    exact ⟨hmarks, hpending, haside⟩
  · rintro ⟨htables, hlive, hworking⟩
    exact ⟨htables.fallback, htables.defs, htables.dir, hlive, hworking.floors, hworking.ageSteps, hworking.seqTable,
      hworking.planMem, hworking.staging, fun c =>
        ⟨(hworking.crews c).marks, (hworking.crews c).pending, (hworking.crews c).aside⟩⟩

/-- Settles O60: the retained tables are written at most once, the live records and everything else by writes that each keep
the form. -/
theorem stepKeepsCanonicalForm : Obligations.StepKeepsCanonicalForm := by
  unfold Obligations.StepKeepsCanonicalForm
  intro s t hs ht
  rw [canonInv_iff] at hs ⊢
  obtain ⟨htables, hlive, hworking⟩ := hs
  exact ⟨(becomes_step ht).keeps_canonical htables, (keepsHeld_step ht).wf hlive, (keepsForms_step ht).keeps hworking⟩

end Sys2Proof.Machine
end

section
/-! What the plan reader's arbiter chooses (R144, R145, R147). -/

namespace Sys2Proof.Machine

/-! ### Faults due (R147) -/

/-- A slot once its fault due is entered, where the buffer of its drain span is EMPTY. -/
def SheetSlot.entered (x : SheetSlot) : SheetSlot :=
  match x.transfer with
  | none => x
  | some t =>
    match t.faultDue with
    | none => x
    | some cause =>
      if (x.buf (bufOf t.drainSpan)).state = .empty then x.enterFault (bufOf t.drainSpan) t.drainSpan cause else x

namespace SheetSlot
variable {x : SheetSlot} {t : Transfer}

theorem entered_of_noTransfer (h : x.transfer = none) : x.entered = x := by rw [entered, h]

theorem entered_of_noFault (h : x.transfer = some t) (hf : t.faultDue = none) : x.entered = x := by
  rw [entered, h]
  dsimp only
  rw [hf]

theorem entered_of_fault (h : x.transfer = some t) {cause : FaultCause} (hf : t.faultDue = some cause) : x.entered =
    if (x.buf (bufOf t.drainSpan)).state = .empty then x.enterFault (bufOf t.drainSpan) t.drainSpan cause else x := by
  rw [entered, h]
  dsimp only
  rw [hf]

theorem enterFault_transfer (h : x.transfer = some t) (i : BufId) (k : Nat) (f : FaultCause) :
    (x.enterFault i k f).transfer = some { t with remaining := 0, faultDue := none } := by
  rw [enterFault, h]
  rfl

/-- A fault entered is no longer due. -/
theorem entered_entered (x : SheetSlot) : x.entered.entered = x.entered := by
  cases h : x.transfer with
  | none => rw [entered_of_noTransfer h, entered_of_noTransfer h]
  | some t =>
    cases hf : t.faultDue with
    | none => rw [entered_of_noFault h hf, entered_of_noFault h hf]
    | some cause =>
      rw [entered_of_fault h hf]
      split
      · exact entered_of_noFault (enterFault_transfer h ..) rfl
      · rw [entered_of_fault h hf, if_neg ‹_›]

end SheetSlot

theorem enterDue_eq (c : Link) (s : State) : enterDue c s = s.setSlot c (s.slot c).entered := by
  unfold enterDue
  split
  · rename_i h
    rw [SheetSlot.entered_of_noTransfer h, State.setSlot_slot]
  · rename_i t h
    split
    · rename_i hf
      rw [SheetSlot.entered_of_noFault h hf, State.setSlot_slot]
    · rename_i cause hf
      rw [SheetSlot.entered_of_fault h hf]
      split
      · rfl
      · rw [State.setSlot_slot]

/-- Every fault due entered, crew by crew. -/
theorem eachLink_enterDue (s : State) : eachLink enterDue s = { s with ss := { s.ss with
    slots := ⟨(s.slot .l1).entered, (s.slot .l2).entered, (s.slot .l3).entered, (s.slot .l4).entered⟩ } } := by
  simp only [eachLink, enterDue_eq]
  rfl

theorem slot_eachLink_enterDue (s : State) (c : Link) : (eachLink enterDue s).slot c = (s.slot c).entered := by
  rw [eachLink_enterDue]
  cases c <;> rfl

/-- No fault due can be entered. -/
def State.Entered (s : State) : Prop := ∀ c, (s.slot c).entered = s.slot c

theorem State.Entered.eachLink_enterDue {s : State} (h : s.Entered) : eachLink enterDue s = s := by
  have none : ∀ c, enterDue c s = s := fun c => by rw [enterDue_eq, h c, State.setSlot_slot]
  rw [eachLink, none, none, none, none]

theorem eachLink_enterDue_enterDue (c : Link) (s : State) :
    eachLink enterDue (enterDue c s) = eachLink enterDue s := by
  have hslot : ∀ d, ((enterDue c s).slot d).entered = (s.slot d).entered := fun d => by
    rw [enterDue_eq, State.slot_setSlot]
    split
    · rename_i hd
      rw [hd, SheetSlot.entered_entered]
    · rfl
  rw [eachLink_enterDue, eachLink_enterDue, hslot, hslot, hslot, hslot, enterDue_eq]
  rfl

theorem withFault_eq {c : Link} {tr : Transfer} {s : State} (h : (s.slot c).transfer = some tr) (i : BufId) (k : Nat)
    (cause : FaultCause) : withFault c tr i k cause s = s.setSlot c ((s.slot c).enterFault i k cause) := by
  rw [withFault, SheetSlot.enterFault, h]
  rfl

theorem FaultEnters.withFault_eq {s : State} {c : Link} {tr : Transfer} {cause : FaultCause}
    (h : FaultEnters s c tr cause) : withFault c tr (bufOf tr.drainSpan) tr.drainSpan cause s = enterDue c s := by
  obtain ⟨htr, hdue, hempty⟩ := h
  rw [Machine.withFault_eq htr, enterDue_eq, SheetSlot.entered_of_fault htr hdue, if_pos hempty]

theorem State.entered_of_no_faultEnters {s : State} (h : ∀ c tr cause, ¬ FaultEnters s c tr cause) : s.Entered := by
  intro c
  cases htr : (s.slot c).transfer with
  | none => exact SheetSlot.entered_of_noTransfer htr
  | some tr =>
    cases hf : tr.faultDue with
    | none => exact SheetSlot.entered_of_noFault htr hf
    | some cause => rw [SheetSlot.entered_of_fault htr hf, if_neg fun hempty => h c tr cause ⟨htr, hf, hempty⟩]

/-! ### One choice (R144, R145) -/

theorem State.qualifies_iff (s : State) (c : Link) : s.qualifies c = true ↔ Qualifies s c := by
  unfold State.qualifies Qualifies
  cases (s.slot c).transfer with
  | none => simp
  | some tr => simp [Transfer.fillSpan, and_assoc]

theorem State.nextGrant_eq (s : State) : s.nextGrant = (grantOrder s.ss.lastGranted).find? s.qualifies := by
  rw [State.nextGrant]
  cases s.ss.lastGranted <;> rfl

theorem State.nextGrant_of_grantedNext {s : State} {c : Link} (h : GrantedNext s c) : s.nextGrant = some c := by
  obtain ⟨hq, before, after, hsplit, hbefore⟩ := h
  rw [s.nextGrant_eq, List.find?_eq_some_iff_append]
  refine ⟨(s.qualifies_iff c).2 hq, before, after, hsplit, fun d hd => ?_⟩
  rw [Bool.not_eq_true', Bool.eq_false_iff]
  exact fun hd' => hbefore d hd ((s.qualifies_iff d).1 hd')

theorem State.nextGrant_qualifies {s : State} {c : Link} (h : s.nextGrant = some c) : Qualifies s c := by
  rw [s.nextGrant_eq] at h
  exact (s.qualifies_iff c).1 (List.find?_some h)

theorem State.nextGrant_none {s : State} (h : ∀ c, ¬ Qualifies s c) : s.nextGrant = none := by
  cases hg : s.nextGrant with
  | none => rfl
  | some c => exact absurd (State.nextGrant_qualifies hg) (h c)

section choice
variable {s : State}

theorem chooseOnce_busy (h : s.ss.reader ≠ none) : chooseOnce s = s := by
  unfold chooseOnce
  split
  · rfl
  · exact absurd ‹_› h

theorem chooseOnce_waiting (hr : s.ss.reader = none) {op : WaitingOp} (hw : s.ss.waiting = some op) :
    chooseOnce s = beginWaiting op s := by
  rw [chooseOnce, hr]
  dsimp only
  rw [hw]

theorem chooseOnce_none (hr : s.ss.reader = none) (hw : s.ss.waiting = none) (hg : s.nextGrant = none) :
    chooseOnce s = s := by
  rw [chooseOnce, hr]
  dsimp only
  rw [hw]
  dsimp only
  rw [hg]

theorem chooseOnce_grant (hr : s.ss.reader = none) (hw : s.ss.waiting = none) {c : Link} (hg : s.nextGrant = some c) :
    chooseOnce s = grant c s := by
  rw [chooseOnce, hr]
  dsimp only
  rw [hw]
  dsimp only
  rw [hg]

end choice

/-- A grant within the bound: the reader BUSY with the crew's next page (R145). -/
theorem grant_read {s : State} {c : Link} {tr : Transfer} (htr : (s.slot c).transfer = some tr)
    (hp : tr.nextPage < s.config.planPages) : grant c s =
      (let x := (s.slot c).setBuf (bufOf tr.fillSpan) { SpanBuf.emptied with state := .filling, span := tr.fillSpan }
       let t := s.setSlot c
         { x with transfer := some { tr with nextPage := tr.nextPage + 1, remaining := tr.remaining - 1 } }
       { t with ss := { t.ss with
          lastGranted := c
          reader := some (.fill c (bufOf tr.fillSpan) tr.fillSpan tr.nextPage
            (if tr.remaining = 1 then tr.lastLen else 256)) } }) := by
  rw [grant, htr]
  dsimp only
  rw [if_pos hp]
  rfl

/-- A grant beyond the bound: a RANGE fault, and the reader stays IDLE (R145). -/
theorem grant_range {s : State} {c : Link} {tr : Transfer} (htr : (s.slot c).transfer = some tr)
    (hp : s.config.planPages ≤ tr.nextPage) : grant c s =
      withFault c tr (bufOf tr.fillSpan) tr.fillSpan .range { s with ss := { s.ss with lastGranted := c } } := by
  rw [grant, htr]
  dsimp only
  rw [if_neg (Nat.not_lt.2 hp), Machine.withFault_eq (s := { s with ss := { s.ss with lastGranted := c } }) htr]
  rfl

/-! ### Its choices together -/

theorem readerArbiter_eq (s : State) : readerArbiter s = chooseOnce^[5] (eachLink enterDue s) := rfl

/-- With the reader BUSY the arbiter only enters faults due. -/
theorem readerArbiter_busy {s : State} (h : s.ss.reader ≠ none) : readerArbiter s = eachLink enterDue s := by
  rw [readerArbiter_eq]
  refine Function.iterate_fixed (chooseOnce_busy ?_) 5
  rw [eachLink_enterDue]
  exact h

/-- An IDLE reader begins the operation that waits. -/
theorem readerArbiter_waiting {s : State} (hr : s.ss.reader = none) {op : WaitingOp} (hw : s.ss.waiting = some op) :
    readerArbiter s = beginWaiting op (eachLink enterDue s) := by
  have hfirst : chooseOnce (eachLink enterDue s) = beginWaiting op (eachLink enterDue s) := by
    apply chooseOnce_waiting <;> rw [eachLink_enterDue]
    · exact hr
    · exact hw
  rw [readerArbiter_eq, Function.iterate_succ_apply, hfirst]
  exact Function.iterate_fixed (chooseOnce_busy (Option.some_ne_none _)) 4

/-! ### At most five choices -/

/-- How many crews qualify. -/
def State.qualifying (s : State) : Nat :=
  (s.qualifies .l1).toNat + (s.qualifies .l2).toNat + (s.qualifies .l3).toNat + (s.qualifies .l4).toNat

theorem State.qualifying_lt {s t : State} {c : Link} (hc : s.qualifies c = true) (htc : t.qualifies c = false)
    (hother : ∀ d, d ≠ c → t.qualifies d = s.qualifies d) : t.qualifying < s.qualifying := by
  unfold State.qualifying
  cases c with
  | l1 | l2 | l3 | l4 => simp [hc, htc, hother]

theorem State.qualifies_setSlot_other {c d : Link} (h : d ≠ c) (s : State) (x : SheetSlot) :
    (s.setSlot c x).qualifies d = s.qualifies d := by
  unfold State.qualifies
  rw [State.slot_setSlot, if_neg h]

/-- A crew whose fault has been entered does not qualify. -/
theorem State.qualifies_withFault (c : Link) (tr : Transfer) (i : BufId) (k : Nat) (cause : FaultCause) (s : State) :
    (withFault c tr i k cause s).qualifies c = false := by
  rw [State.qualifies, withFault, State.slot_setSlot_self]
  simp

/-- A choice leaves nothing to choose, or takes one crew from those that qualify. -/
theorem chooseOnce_again (s : State) :
    chooseOnce (chooseOnce s) = chooseOnce s ∨ (chooseOnce s).qualifying < s.qualifying := by
  cases hr : s.ss.reader with
  | some op => exact .inl (congrArg chooseOnce (chooseOnce_busy (by simp [hr])))
  | none =>
    cases hw : s.ss.waiting with
    | some op =>
      rw [chooseOnce_waiting hr hw]
      exact .inl (chooseOnce_busy (Option.some_ne_none _))
    | none =>
      cases hg : s.nextGrant with
      | none => exact .inl (congrArg chooseOnce (chooseOnce_none hr hw hg))
      | some c =>
        have hq := State.nextGrant_qualifies hg
        obtain ⟨tr, htr, -⟩ := id hq
        rw [chooseOnce_grant hr hw hg]
        by_cases hp : tr.nextPage < s.config.planPages
        · rw [grant_read htr hp]
          exact .inl (chooseOnce_busy (Option.some_ne_none _))
        · rw [grant_range htr (Nat.not_lt.1 hp)]
          exact .inr (State.qualifying_lt ((s.qualifies_iff c).2 hq) (State.qualifies_withFault ..)
            fun d hd => State.qualifies_setSlot_other hd _ _)

/-- One choice more than there are crews that qualify leaves nothing to choose. -/
theorem chooseOnce_iterate {n : Nat} {s : State} (h : s.qualifying ≤ n) :
    chooseOnce (chooseOnce^[n + 1] s) = chooseOnce^[n + 1] s := by
  induction n generalizing s with
  | zero => exact (chooseOnce_again s).resolve_right (by omega)
  | succ n ih =>
    rw [Function.iterate_succ_apply]
    rcases chooseOnce_again s with hstays | hless
    · rw [Function.iterate_fixed hstays, hstays]
    · exact ih (by omega)

/-- Where some crew does not qualify a fifth choice adds nothing. -/
theorem chooseOnce_iterate_five {s : State} {c : Link} (h : s.qualifies c = false) :
    chooseOnce^[5] s = chooseOnce^[4] s := by
  have hless : s.qualifying ≤ 3 := by
    have hone : ∀ b : Bool, b.toNat ≤ 1 := Bool.toNat_le
    have h1 := hone (s.qualifies .l1)
    have h2 := hone (s.qualifies .l2)
    have h3 := hone (s.qualifies .l3)
    have h4 := hone (s.qualifies .l4)
    have hzero : (s.qualifies c).toNat = 0 := by rw [h]; rfl
    unfold State.qualifying
    cases c <;> omega
  rw [Function.iterate_succ_apply']
  exact chooseOnce_iterate hless

end Sys2Proof.Machine
end

section
/-! What the end of an event leaves of the plan reader and of one crew's sheets (R144 to R148). -/

namespace Sys2Proof.Machine

/-! ### The plan reader's arbiter on one slot -/

/-- What the plan reader's arbiter may make of a slot: with no page to fill and no fault due it stays, and a buffer that is
not EMPTY is left in any case (R145, R147). -/
structure SheetSlot.Chosen (x y : SheetSlot) : Prop where
  spent : (∀ tr, x.transfer = some tr → tr.faultDue = none ∧ tr.remaining = 0) → y = x
  held : ∀ i, (x.buf i).state ≠ .empty → y.buf i = x.buf i

namespace SheetSlot.Chosen

theorem refl (x : SheetSlot) : x.Chosen x := ⟨fun _ => rfl, fun _ _ => rfl⟩

theorem trans {x y z : SheetSlot} (h : x.Chosen y) (g : y.Chosen z) : x.Chosen z := by
  refine ⟨fun hx => ?_, fun i hi => ?_⟩
  · have hy := h.spent hx
    rw [g.spent (by rw [hy]; exact hx), hy]
  · rw [g.held i (by rw [h.held i hi]; exact hi), h.held i hi]

/-- Writes to an EMPTY buffer of a transfer with a page to fill or a fault due. -/
theorem of_empty {x y : SheetSlot} {i : BufId} {tr : Transfer} (htr : x.transfer = some tr)
    (hdue : ¬ (tr.faultDue = none ∧ tr.remaining = 0)) (he : (x.buf i).state = .empty)
    (hother : ∀ j, j ≠ i → y.buf j = x.buf j) : x.Chosen y :=
  ⟨fun h => absurd (h tr htr) hdue, fun j hj => hother j (by rintro rfl; exact hj he)⟩

end SheetSlot.Chosen

theorem SheetSlot.buf_enterFault (x : SheetSlot) (i j : BufId) (k : Nat) (f : FaultCause) :
    (x.enterFault i k f).buf j = if j = i then SpanBuf.faulted k f else x.buf j := by
  cases i <;> cases j <;> rfl

theorem SheetSlot.chosen_entered (x : SheetSlot) : x.Chosen x.entered := by
  cases htr : x.transfer with
  | none =>
    rw [entered_of_noTransfer htr]
    exact .refl x
  | some tr =>
    cases hf : tr.faultDue with
    | none =>
      rw [entered_of_noFault htr hf]
      exact .refl x
    | some cause =>
      rw [entered_of_fault htr hf]
      split
      · exact .of_empty htr (by simp [hf]) ‹_› fun j hj => (buf_enterFault ..).trans (if_neg hj)
      · exact .refl x

theorem chosen_grant {c : Link} {s : State} (hq : Qualifies s c) : (s.slot c).Chosen ((grant c s).slot c) := by
  obtain ⟨tr, htr, -, hrem, hempty⟩ := hq
  have hdue : ¬ (tr.faultDue = none ∧ tr.remaining = 0) := fun h => by omega
  by_cases hp : tr.nextPage < s.config.planPages
  · rw [grant_read htr hp]
    refine .of_empty (i := bufOf tr.fillSpan) htr hdue hempty fun j hj => ?_
    refine (congrArg (·.buf j) (State.slot_setSlot_self s c _)).trans ?_
    exact (SheetSlot.buf_setBuf ..).trans (if_neg hj)
  · rw [grant_range htr (Nat.not_lt.1 hp), withFault, State.slot_setSlot_self]
    exact .of_empty (i := bufOf tr.fillSpan) htr hdue hempty fun j hj => (SheetSlot.buf_setBuf ..).trans (if_neg hj)

theorem slot_grant_other {c d : Link} (h : d ≠ c) (s : State) : (grant c s).slot d = s.slot d := by
  unfold grant
  split
  · rfl
  · dsimp only
    split <;> exact (State.slot_setSlot ..).trans (if_neg h)

theorem chosen_chooseOnce (c : Link) (s : State) : (s.slot c).Chosen ((chooseOnce s).slot c) := by
  cases hr : s.ss.reader with
  | some op =>
    rw [chooseOnce_busy (by simp [hr])]
    exact .refl _
  | none =>
    cases hw : s.ss.waiting with
    | some op =>
      rw [chooseOnce_waiting hr hw]
      exact .refl _
    | none =>
      cases hg : s.nextGrant with
      | none =>
        rw [chooseOnce_none hr hw hg]
        exact .refl _
      | some d =>
        rw [chooseOnce_grant hr hw hg]
        by_cases hd : c = d
        · subst hd
          exact chosen_grant (State.nextGrant_qualifies hg)
        · rw [slot_grant_other hd]
          exact .refl _

theorem chosen_readerArbiter (c : Link) (s : State) : (s.slot c).Chosen ((readerArbiter s).slot c) := by
  have hentered : (s.slot c).Chosen ((eachLink enterDue s).slot c) := by
    rw [slot_eachLink_enterDue]
    exact (s.slot c).chosen_entered
  have next : ∀ {u}, (s.slot c).Chosen (u.slot c) → (s.slot c).Chosen ((chooseOnce u).slot c) :=
    fun hu => hu.trans (chosen_chooseOnce c _)
  exact next (next (next (next (next hentered))))

/-! ### A link's frame arbiter on the Sheet Streamer (R148) -/

/-- What a link's frame arbiter may make of its slot: the FULL buffer of its drain span goes DRAINING. -/
def SheetSlot.Drains (x y : SheetSlot) : Prop :=
  y = x ∨ ∃ tr n, x.transfer = some tr ∧ (x.buf (bufOf tr.drainSpan)).state = .full ∧
    y = x.setBuf (bufOf tr.drainSpan)
      { x.buf (bufOf tr.drainSpan) with state := .draining, drained := (x.buf (bufOf tr.drainSpan)).drained + n }

theorem State.offeredSpan_some {s : State} {c : Link} {tr : Transfer} {b : SpanBuf} (h : s.offeredSpan c = some (tr, b)) :
    (s.slot c).transfer = some tr ∧ b = (s.slot c).buf (bufOf tr.drainSpan) ∧ b.state = .full := by
  unfold State.offeredSpan at h
  split at h
  · cases h
  · rename_i t ht
    dsimp only at h
    split at h
    · rename_i hfull
      cases h
      exact ⟨ht, rfl, hfull.1⟩
    · cases h

theorem linkArbiter_ss (c : Link) (s : State) : ∃ y, (s.slot c).Drains y ∧ (linkArbiter c s).ss = (s.setSlot c y).ss := by
  have stays : ∃ y, (s.slot c).Drains y ∧ s.ss = (s.setSlot c y).ss := ⟨s.slot c, .inl rfl, by rw [State.setSlot_slot]⟩
  by_cases hm : MayBegin s c
  · cases hr : (s.link c).replies with
    | cons r rest =>
      rw [linkArbiter_reply hm hr]
      exact stays
    | nil =>
      cases hn : s.nextNotice c with
      | some nz =>
        rw [linkArbiter_notice (n := nz.1) (z := nz.2) hm hr hn]
        exact stays
      | none =>
        cases ho : s.offeredSpan c with
        | none =>
          rw [linkArbiter_none hr hn ho]
          exact stays
        | some tb =>
          obtain ⟨htr, hb, hfull⟩ := State.offeredSpan_some (tr := tb.1) (b := tb.2) ho
          rw [linkArbiter_span (tr := tb.1) (x := tb.2) hm hr hn ho, hb]
          rw [hb] at hfull
          exact ⟨_, .inr ⟨tb.1, _, htr, hfull, rfl⟩, rfl⟩
  · rw [linkArbiter_idle hm]
    exact stays

/-! ### The end of an event -/

/-- The links' frame arbiters leave the reader and the operation that waits. -/
theorem settle_reader (s : State) :
    (settle s).ss.reader = (readerArbiter s).ss.reader ∧ (settle s).ss.waiting = (readerArbiter s).ss.waiting := by
  refine eachLink_rel (R := fun s t : State => t.ss.reader = s.ss.reader ∧ t.ss.waiting = s.ss.waiting)
    (fun h g => ⟨g.1.trans h.1, g.2.trans h.2⟩) (fun c u => ?_) (readerArbiter s)
  obtain ⟨y, -, hss⟩ := linkArbiter_ss c u
  rw [hss]
  exact ⟨rfl, rfl⟩

/-- At the end of an event the plan reader's arbiter has chosen for a slot, and then its link's. -/
theorem slot_settle (s : State) (c : Link) : ∃ x, (s.slot c).Chosen x ∧ x.Drains ((settle s).slot c) := by
  obtain ⟨v, hv, hset⟩ := settle_link s c
  obtain ⟨y, hy, hss⟩ := linkArbiter_ss c v
  refine ⟨v.slot c, ?_, ?_⟩
  · rw [hv.2.2]
    exact chosen_readerArbiter c s
  · have hslot : (settle s).slot c = y := by
      rw [hset.2.2, State.slot, hss]
      exact State.slot_setSlot_self v c y
    rw [hslot]
    exact hy

theorem SheetSlot.Drains.transfer {x y : SheetSlot} (h : x.Drains y) : y.transfer = x.transfer := by
  rcases h with rfl | ⟨tr, n, -, -, rfl⟩
  · rfl
  · exact SheetSlot.setBuf_transfer ..

/-- The end of an event leaves the slot of a crew without a transfer. -/
theorem slot_settle_of_noTransfer {s : State} {c : Link} (h : (s.slot c).transfer = none) :
    (settle s).slot c = s.slot c := by
  obtain ⟨x, hx, hdrains⟩ := slot_settle s c
  have hstays : x = s.slot c := hx.spent fun tr htr => by simp [h] at htr
  subst hstays
  rcases hdrains with hy | ⟨tr, n, htr, -⟩
  · exact hy
  · simp [h] at htr

/-- The end of an event leaves a transfer with no page to fill and no fault due. -/
theorem transfer_settle_of_spent {s : State} {c : Link} {tr : Transfer} (h : (s.slot c).transfer = some tr)
    (hf : tr.faultDue = none) (hrem : tr.remaining = 0) : ((settle s).slot c).transfer = some tr := by
  obtain ⟨x, hx, hdrains⟩ := slot_settle s c
  have hstays : x = s.slot c := hx.spent fun tr' htr' => by
    obtain rfl := Option.some.inj (htr'.symm.trans h)
    exact ⟨hf, hrem⟩
  rw [hdrains.transfer, hstays, h]

/-- A buffer filled: FULL, or DRAINING once its frame has been begun, with what it was filled with. -/
def SpanBuf.StaysFilled (b b' : SpanBuf) : Prop :=
  (b'.state = .full ∨ b'.state = .draining) ∧ b' = { b with state := b'.state, drained := b'.drained }

/-- The end of an event leaves a FULL buffer's contents. -/
theorem buf_settle_of_full {s : State} {c : Link} {i : BufId} (h : ((s.slot c).buf i).state = .full) :
    ((s.slot c).buf i).StaysFilled (((settle s).slot c).buf i) := by
  obtain ⟨x, hx, hdrains⟩ := slot_settle s c
  have hbuf : x.buf i = (s.slot c).buf i := hx.held i (by simp [h])
  rw [← hbuf] at h ⊢
  rcases hdrains with hy | ⟨tr, n, -, -, hy⟩
  · rw [hy]
    exact ⟨.inl h, rfl⟩
  · rw [hy, SheetSlot.buf_setBuf]
    split
    · rename_i hi
      rw [hi]
      exact ⟨.inr rfl, rfl⟩
    · exact ⟨.inl h, rfl⟩

end Sys2Proof.Machine
end

section
/-! The plan memory's requests and completions (R152 to R156, R159, R175). -/

namespace Sys2Proof.Machine

/-! ### An accepted operation and the plan reader (R144, R154, R155) -/

/-- What the reader does for a management operation. -/
def WaitingOp.started (staging : Tab Byte) : WaitingOp → ReaderOp
  | .commit p => .program p (stagedBytes staging)
  | .save bytes => .program 0 bytes
  | .read p o n => .read p o n

theorem beginWaiting_eq (op : WaitingOp) (s : State) : beginWaiting op s =
    { s with ss := { s.ss with reader := some (op.started s.ss.staging), waiting := none } } := by cases op <;> rfl

/-- At the end of an event an IDLE reader has begun the operation that waited. -/
theorem settle_waiting_idle {s : State} (hr : s.ss.reader = none) {op : WaitingOp} (hw : s.ss.waiting = some op) :
    (settle s).ss.reader = some (op.started s.ss.staging) ∧ (settle s).ss.waiting = none := by
  obtain ⟨hreader, hwaiting⟩ := settle_reader s
  rw [hreader, hwaiting, readerArbiter_waiting hr hw, beginWaiting_eq, eachLink_enterDue]
  exact ⟨rfl, rfl⟩

/-- At the end of an event a BUSY reader goes on, and what waits keeps waiting. -/
theorem settle_waiting_busy {s : State} {b : ReaderOp} (hr : s.ss.reader = some b) :
    (settle s).ss.reader = some b ∧ (settle s).ss.waiting = s.ss.waiting := by
  obtain ⟨hreader, hwaiting⟩ := settle_reader s
  rw [hreader, hwaiting, readerArbiter_busy (by simp [hr]), eachLink_enterDue]
  exact ⟨hr, rfl⟩

/-- An operation accepted is the request in progress, without a reply: begun at once, or waiting for a BUSY reader. -/
theorem exec_accepted {s : State} {src : Byte} {id : Word16} {i : Instr} {op k : Byte} {args : List Byte} {r : MgmtReq}
    {w : WaitingOp} (hs : Serves s src) (hi : requestOf i = some (src, id, op, args)) (hp : parseMgmt op args = .ok r)
    (hl : (r.locked && s.lockHolds) = false) (hu : carryOut src id r s = acceptOp src id k w s) :
    ∃ t, exec i s = .next t ∧ t.mr = some ⟨src, id, k⟩ ∧
      (s.ss.reader = none → t.ss.reader = some (w.started s.ss.staging) ∧ t.ss.waiting = none) ∧
      (∀ b, s.ss.reader = some b → t.ss.reader = some b ∧ t.ss.waiting = some w) ∧
      t = { s with nr := t.nr, cl := t.cl, ss := t.ss, mr := t.mr } := by
  refine ⟨settle (acceptOp src id k w s), (exec_of_requestOf hi s).trans (by rw [mgmtRow_carried hs id hp hl, hu]),
    settle_mr _, fun hr => settle_waiting_idle (s := acceptOp src id k w s) hr rfl,
    fun b hb => settle_waiting_busy (s := acceptOp src id k w s) hb, ?_⟩
  rw [(arbitersOnly_settle (acceptOp src id k w s)).1]
  rfl

/-! ### The tests (R153, R155) -/

section tests
variable {s : State} {p o n : Nat}

theorem commitTests_badIndex (h : p = 0 ∨ s.config.planPages ≤ p) : commitTests s p = .badIndex := if_pos h

theorem commitTests_inUse (h1 : 1 ≤ p) (h2 : p < s.config.planPages) (hu : s.pageInUse p = true) :
    commitTests s p = .inUse := by
  rw [commitTests, if_neg (by omega), if_pos hu]

theorem commitTests_ok (h1 : 1 ≤ p) (h2 : p < s.config.planPages) (hu : s.pageInUse p = false) :
    commitTests s p = .ok := by
  rw [commitTests, if_neg (by omega), if_neg (by simp [hu])]

theorem readTests_badIndex (h1 : p ≠ 0) (h2 : s.config.planPages ≤ p) : readTests s p o n = .badIndex := if_pos ⟨h1, h2⟩

theorem readTests_badValue (hp : p = 0 ∨ p < s.config.planPages) (h : n = 0 ∨ 32 < n ∨ 256 < o + n) :
    readTests s p o n = .badValue := by
  rw [readTests, if_neg (by omega), if_pos h]

theorem readTests_ok (hp : p = 0 ∨ p < s.config.planPages) (h1 : 1 ≤ n) (h2 : n ≤ 32) (h3 : o + n ≤ 256) :
    readTests s p o n = .ok := by
  rw [readTests, if_neg (by omega), if_neg (by omega)]

end tests

theorem readerRequest_refused {s : State} {src : Byte} {id : Word16} {op : Byte} {r : MgmtResult} (h : r ≠ .ok)
    (w : WaitingOp) : readerRequest src id op r w s = reply src id r [] s := if_neg h

theorem readerRequest_ok {s : State} {src : Byte} {id : Word16} {op : Byte} (w : WaitingOp) :
    readerRequest src id op .ok w s = acceptOp src id op w s := if_pos rfl

theorem parseMgmt_planStage (o : Byte) {data : List Byte} (h1 : 1 ≤ data.length) (h2 : data.length ≤ 32) :
    parseMgmt 0x06#8 (o :: data) = .ok (.planStage o.toNat data) := by
  show (if 1 ≤ data.length ∧ data.length ≤ 32 then Parsed.ok (.planStage o.toNat data) else .badValue) = _
  rw [if_pos ⟨h1, h2⟩]

/-- PLAN_STAGE writes its bytes at its offset, when they fit (R152). -/
theorem carryOut_planStage {s : State} {src : Byte} {id : Word16} {o : Nat} {data : List Byte}
    (h : o + data.length ≤ 256) : carryOut src id (.planStage o data) s =
      reply src id .ok [] { s with ss := { s.ss with staging := stageBytes s.ss.staging o data } } := by
  rw [carryOut, planStage, if_neg (Nat.not_lt.2 h)]
  rfl

/-- Settles O45: refusals by the tests; an accepted operation is `exec_accepted`. -/
theorem planRequestAnswered : Obligations.PlanRequestAnswered := by
  unfold Obligations.PlanRequestAnswered
  intro s src id h l o n hs
  refine ⟨fun data h1 h2 => ⟨fun hlong => ?_, fun hfits => ?_⟩, fun hl hp => ?_, fun hl h1 h2 hu => ?_, fun h1 h2 => ?_,
    fun hp hn => ?_, fun i op w r hcases => ?_⟩
  · refine exec_carried (i := .planStage src id (o :: data)) hs rfl (parseMgmt_planStage o h1 h2) rfl ?_
    rw [carryOut, planStage, if_pos hlong]
    rfl
  · obtain ⟨t, ht, harb⟩ := exec_carried (i := .planStage src id (o :: data)) (id := id) hs rfl
      (parseMgmt_planStage o h1 h2) rfl (carryOut_planStage hfits)
    refine ⟨t, ht, fun j => ?_, harb.ti, ?_⟩
    · rw [harb.staging]
      exact get_stageBytes ..
    · rw [harb.ti, harb.staging]
      exact harb
  · refine exec_carried hs rfl (r := .planCommit (num16 h l)) rfl (by rw [hl, Bool.and_false]) ?_
    rw [carryOut, commitTests_badIndex hp]
    exact readerRequest_refused (by decide) _
  · refine exec_carried hs rfl (r := .planCommit (num16 h l)) rfl (by rw [hl, Bool.and_false]) ?_
    rw [carryOut, commitTests_inUse h1 h2 hu]
    exact readerRequest_refused (by decide) _
  · refine exec_carried hs rfl (r := .planRead (num16 h l) o.toNat n.toNat) rfl rfl ?_
    rw [carryOut, readTests_badIndex h1 h2]
    exact readerRequest_refused (by decide) _
  · refine exec_carried hs rfl (r := .planRead (num16 h l) o.toNat n.toNat) rfl rfl ?_
    rw [carryOut, readTests_badValue hp hn]
    exact readerRequest_refused (by decide) _
  · rcases hcases with ⟨hl, h1, h2, hu, rfl, rfl, rfl, rfl⟩ | ⟨hp, h1, h2, h3, rfl, rfl, rfl, rfl⟩ |
      ⟨hl, rfl, rfl, rfl, rfl⟩
    · refine exec_accepted (i := .planCommit src id [h, l]) hs rfl (r := .planCommit (num16 h l))
        (w := .commit (num16 h l)) rfl (by rw [hl, Bool.and_false]) ?_
      rw [carryOut, commitTests_ok h1 h2 hu]
      exact readerRequest_ok _
    · refine exec_accepted (i := .planRead src id [h, l, o, n]) hs rfl
        (r := .planRead (num16 h l) o.toNat n.toNat) (w := .read (num16 h l) o.toNat n.toNat) rfl rfl ?_
      rw [carryOut, readTests_ok hp h1 h2 h3]
      exact readerRequest_ok _
    · exact exec_accepted hs rfl (r := .configSave) rfl (by rw [hl, Bool.and_false]) rfl

/-! ### Completions (R154 to R156, R159) -/

/-- An operation that ends answers the request in progress, which then is none, and the event ends (R159, R160). -/
theorem settle_completeRequest {s u : State} {q : InProgress} (hq : u.mr = some q) (hti : u.ti = s.ti)
    (htables : u.tables = s.tables) (r : MgmtResult) (d : List Byte) {t : State}
    (ht : t = settle (completeRequest r d u)) : t.ti = (reply q.requester q.id r d s).ti ∧
      ArbitersOnly { u with ti := t.ti, mr := none } t := by
  have hreply : completeRequest r d u = { u with ti := (reply q.requester q.id r d s).ti, mr := none } := by
    rw [completeRequest, hq]
    simp only [reply, giveOwn, State.ownFrame, State.config, hti, htables]
  have harb : ArbitersOnly (completeRequest r d u) t := by
    rw [ht]
    exact arbitersOnly_settle _
  rw [hreply] at harb
  have htti := harb.ti
  refine ⟨htti, ?_⟩
  rw [htti]
  exact harb

/-- The state once the plan reader is IDLE again. -/
def State.freeReader (s : State) : State := { s with ss := { s.ss with reader := none } }

section ends
variable {s : State} (hrun : s.running = true) {pg : Nat} {bytes : List Byte} {o n : Nat}
include hrun

theorem exec_programComplete_ok (hr : s.ss.reader = some (.program pg bytes)) : exec (.programComplete true) s =
    .next (settle (completeRequest .ok []
      { s.freeReader with planMem := writePlanRange s.planMem (pageBase pg) bytes })) := by
  refine congrArg Host.Outcome.next ((whenRunning_of_running hrun _).trans ?_)
  rw [programDone, hr]
  rfl

theorem exec_programComplete_fail (hr : s.ss.reader = some (.program pg bytes)) : exec (.programComplete false) s =
    .next (settle (completeRequest .memoryFault [] (s.freeReader.leavePage pg).countPlanFault)) := by
  refine congrArg Host.Outcome.next ((whenRunning_of_running hrun _).trans ?_)
  rw [programDone, hr]
  rfl

theorem exec_planReadComplete_ok (hr : s.ss.reader = some (.read pg o n)) : exec (.planReadComplete true) s =
    .next (settle (completeRequest .ok (readPlanRange s.planMem (pageBase pg + o) n) s.freeReader)) := by
  refine congrArg Host.Outcome.next ((whenRunning_of_running hrun _).trans ?_)
  rw [planReadDone, hr]
  rfl

theorem exec_planReadComplete_fail (hr : s.ss.reader = some (.read pg o n)) : exec (.planReadComplete false) s =
    .next (settle (completeRequest .memoryFault [] s.freeReader.countPlanFault)) := by
  refine congrArg Host.Outcome.next ((whenRunning_of_running hrun _).trans ?_)
  rw [planReadDone, hr]
  rfl

end ends

/-- A page programmed: its bytes, and no other byte (R154). -/
theorem readPlan_program (m : Tab Byte) (pg : Nat) {bytes : List Byte} (hlen : bytes.length = 256) (a : Nat) :
    readPlan (writePlanRange m (pageBase pg) bytes) a =
      if pg * 256 ≤ a ∧ a < pg * 256 + 256 then bytes.getD (a - pg * 256) 0 else readPlan m a := by
  have hread := readPlan_writePlanRange m (pg * 256) a bytes
  rw [hlen] at hread
  exact hread

/-- A page that a failed program left: the memory differs from what it was in that page only (R132). -/
theorem State.leavePage_eq (s : State) (pg : Nat) : ∃ m, s.leavePage pg = { s with planMem := m, fresh := s.fresh + 1 } ∧
    ∀ a, ¬ (pg * 256 ≤ a ∧ a < pg * 256 + 256) → readPlan m a = readPlan s.planMem a := by
  refine ⟨writePlanRange s.planMem (pageBase pg) (leftBytes s.fresh), by rw [State.leavePage], fun a ha => ?_⟩
  rw [readPlan_program _ _ (length_leftBytes _), if_neg ha]

/-- Settles O36: a completion frees the reader, writes or leaves the page, and answers the request in progress. -/
theorem memoryOperationEnds : Obligations.MemoryOperationEnds := by
  unfold Obligations.MemoryOperationEnds
  intro s q hrun hq
  refine ⟨fun pg bytes hr hlen => ⟨⟨_, exec_programComplete_ok hrun hr, ?_⟩, ⟨_, exec_programComplete_fail hrun hr, ?_⟩⟩,
    fun pg o n hr => ⟨⟨_, exec_planReadComplete_ok hrun hr, ?_⟩, ⟨_, exec_planReadComplete_fail hrun hr, ?_⟩⟩⟩
  · obtain ⟨hti, harb⟩ := settle_completeRequest (s := s)
      (u := { s.freeReader with planMem := writePlanRange s.planMem (pageBase pg) bytes }) hq rfl rfl .ok [] rfl
    refine ⟨harb.mr, fun a => ?_, hti, harb.planFaults, ?_⟩
    · rw [harb.planMem]
      exact readPlan_program s.planMem pg hlen a
    · rw [harb.planMem]
      exact harb
  · obtain ⟨m, hleft, hm⟩ := s.freeReader.leavePage_eq pg
    rw [hleft]
    obtain ⟨hti, harb⟩ := settle_completeRequest (s := s)
      (u := ({ s.freeReader with planMem := m, fresh := s.fresh + 1 } : State).countPlanFault) hq rfl rfl .memoryFault []
      rfl
    exact ⟨harb.mr, fun a ha => (congrArg (readPlan · a) harb.planMem).trans (hm a ha), hti, harb.planFaults⟩
  · exact settle_completeRequest (s := s) (u := s.freeReader) hq rfl rfl .ok _ rfl
  · exact settle_completeRequest (s := s) (u := s.freeReader.countPlanFault) hq rfl rfl .memoryFault _ rfl

end Sys2Proof.Machine
end

section
/-! How a fill read ends (R146, R147), and the plan reader's arbiter's choices one by one (R144, R145). -/

namespace Sys2Proof.Machine

/-! ### A fill read that ends (R146, R147) -/

/-- A buffer filled with a span's bytes (R146). -/
def SpanBuf.filled (span : Nat) (bytes : List Byte) (final : Bool) : SpanBuf :=
  { state := .full, span := span, bytes := bytes, drained := 0, final := final, fault := none, discarded := false }

/-- Whether a span is the last one of a slot's transfer. -/
def SheetSlot.lastSpan (x : SheetSlot) (k : Nat) : Bool :=
  match x.transfer with
  | some t => k + 1 == t.count
  | none => false

theorem SheetSlot.lastSpan_eq {x : SheetSlot} {tr : Transfer} (h : x.transfer = some tr) (k : Nat) :
    x.lastSpan k = (k + 1 == tr.count) := by rw [lastSpan, h]

section fill
variable {s : State} {c : Link} {i : BufId} {k page len : Nat} (hr : s.ss.reader = some (.fill c i k page len))
include hr

theorem exec_fillReadComplete (hrun : s.running = true) : exec .fillReadComplete s = .next (settle (fillComplete s)) := by
  refine congrArg Host.Outcome.next ((whenRunning_of_running hrun _).trans (if_pos ?_))
  rw [State.filling, hr]

theorem exec_fillReadFail (hrun : s.running = true) : exec .fillReadFail s = .next (settle (fillFail s)) := by
  refine congrArg Host.Outcome.next ((whenRunning_of_running hrun _).trans (if_pos ?_))
  rw [State.filling, hr]

theorem fillComplete_discarded (hd : ((s.slot c).buf i).discarded = true) :
    fillComplete s = s.freeReader.setSlot c ((s.slot c).setBuf i SpanBuf.emptied) := by
  rw [fillComplete, hr]
  dsimp only
  rw [hd]
  rfl

theorem fillFail_discarded (hd : ((s.slot c).buf i).discarded = true) :
    fillFail s = s.freeReader.setSlot c ((s.slot c).setBuf i SpanBuf.emptied) := by
  rw [fillFail, hr]
  dsimp only
  rw [hd]
  rfl

theorem fillComplete_filled (hd : ((s.slot c).buf i).discarded = false) :
    fillComplete s = s.freeReader.setSlot c ((s.slot c).setBuf i
      (.filled k (readPlanRange s.planMem (pageBase page) len) ((s.slot c).lastSpan k))) := by
  rw [fillComplete, hr]
  dsimp only
  rw [hd]
  rfl

theorem fillFail_faulted (hd : ((s.slot c).buf i).discarded = false) :
    fillFail s = s.freeReader.countPlanFault.setSlot c ((s.slot c).enterFault i k .memory) := by
  rw [fillFail, hr]
  dsimp only
  rw [hd]
  rfl

end fill

/-- The fields that a filled buffer keeps while it drains. -/
theorem SpanBuf.StaysFilled.fields {b b' : SpanBuf} (h : b.StaysFilled b') :
    b'.bytes = b.bytes ∧ b'.span = b.span ∧ b'.final = b.final ∧ b'.fault = b.fault := by
  rw [h.2]
  exact ⟨rfl, rfl, rfl, rfl⟩

/-- An end of event after a write of one slot and the Sheet Streamer's registers touches the crews' side only. -/
theorem settle_frame {s u : State} (h : StreamerOnly s u) :
    settle u = { s with nr := (settle u).nr, cl := (settle u).cl, ss := (settle u).ss } := by
  have hset := (arbitersOnly_settle u).1
  rw [h] at hset ⊢
  exact hset

/-- What a fill read leaves that completes for a buffer still wanted (R146). -/
theorem fillReadComplete_wanted {s : State} {c : Link} {i : BufId} {k page len : Nat} (hrun : s.running = true)
    (hr : s.ss.reader = some (.fill c i k page len)) (hd : ((s.slot c).buf i).discarded = false) :
    ∃ t, exec .fillReadComplete s = .next t ∧
      ((t.slot c).buf i).bytes = readPlanRange s.planMem (page * 256) len ∧ ((t.slot c).buf i).span = k ∧
      (((t.slot c).buf i).state = .full ∨ ((t.slot c).buf i).state = .draining) ∧
      ((t.slot c).buf i).fault = none ∧
      (∀ tr, (s.slot c).transfer = some tr → (((t.slot c).buf i).final = true ↔ k + 1 = tr.count)) ∧
      t.ss.planFaults = s.ss.planFaults ∧ t = { s with nr := t.nr, cl := t.cl, ss := t.ss } := by
  rw [exec_fillReadComplete hr hrun, fillComplete_filled hr hd]
  generalize hb : SpanBuf.filled k _ _ = b
  have hbuf : ((s.freeReader.setSlot c ((s.slot c).setBuf i b)).slot c).buf i = b := by
    rw [State.slot_setSlot_self, SheetSlot.buf_setBuf_self]
  have hstays := buf_settle_of_full (s := s.freeReader.setSlot c ((s.slot c).setBuf i b)) (c := c) (i := i)
    (by rw [hbuf, ← hb]; rfl)
  rw [hbuf] at hstays
  obtain ⟨hbytes, hspan, hfinal, hfault⟩ := hstays.fields
  subst hb
  refine ⟨_, rfl, hbytes, hspan, hstays.1, hfault, fun tr htr => ?_, settle_planFaults _, settle_frame rfl⟩
  rw [hfinal]
  show (s.slot c).lastSpan k = true ↔ _
  rw [SheetSlot.lastSpan_eq htr, beq_iff_eq]

/-- What a fill read leaves that fails for a buffer still wanted (R147). -/
theorem fillReadFail_wanted {s : State} {c : Link} {i : BufId} {k page len : Nat} (hrun : s.running = true)
    (hr : s.ss.reader = some (.fill c i k page len)) (hd : ((s.slot c).buf i).discarded = false) :
    ∃ t, exec .fillReadFail s = .next t ∧
      ((t.slot c).buf i).bytes = [] ∧ ((t.slot c).buf i).span = k ∧ ((t.slot c).buf i).final = true ∧
      ((t.slot c).buf i).fault = some .memory ∧
      (∀ tr, (s.slot c).transfer = some tr → (t.slot c).transfer.map Transfer.remaining = some 0) ∧
      t.ss.planFaults = bump16 s.ss.planFaults ∧ t = { s with nr := t.nr, cl := t.cl, ss := t.ss } := by
  rw [exec_fillReadFail hr hrun, fillFail_faulted hr hd]
  have hslot : (s.freeReader.countPlanFault.setSlot c ((s.slot c).enterFault i k .memory)).slot c =
      (s.slot c).enterFault i k .memory := State.slot_setSlot_self ..
  have hbuf : ((s.slot c).enterFault i k .memory).buf i = .faulted k .memory := by
    rw [SheetSlot.buf_enterFault, if_pos rfl]
  have hstays := buf_settle_of_full (s := s.freeReader.countPlanFault.setSlot c ((s.slot c).enterFault i k .memory))
    (c := c) (i := i) (by rw [hslot, hbuf]; rfl)
  rw [hslot, hbuf] at hstays
  obtain ⟨hbytes, hspan, hfinal, hfault⟩ := hstays.fields
  refine ⟨_, rfl, hbytes, hspan, hfinal, hfault, fun tr htr => ?_, settle_planFaults _, settle_frame rfl⟩
  rw [transfer_settle_of_spent (hslot ▸ SheetSlot.enterFault_transfer htr i k .memory) rfl rfl]
  rfl

/-- Whatever a fill read of a discarded buffer brings, the buffer becomes EMPTY (R138, R146, R147). -/
theorem fillRead_discarded {s : State} {c : Link} {i : BufId} {k page len : Nat} (hrun : s.running = true)
    (hr : s.ss.reader = some (.fill c i k page len)) (hd : ((s.slot c).buf i).discarded = true) {e : Instr}
    (he : e = .fillReadComplete ∨ e = .fillReadFail) :
    exec e s = .next (settle (s.freeReader.setSlot c ((s.slot c).setBuf i SpanBuf.emptied))) := by
  rcases he with rfl | rfl
  · rw [exec_fillReadComplete hr hrun, fillComplete_discarded hr hd]
  · rw [exec_fillReadFail hr hrun, fillFail_discarded hr hd]

/-! ### The arbiter's choices (R144, R145) -/

section choices
variable {s : State} (he : s.Entered)
include he

theorem readerArbiter_entered : readerArbiter s = chooseOnce^[5] s := by
  rw [readerArbiter_eq, he.eachLink_enterDue]

theorem readerArbiter_fixed (h : chooseOnce s = s) : readerArbiter s = s := by
  rw [readerArbiter_entered he, Function.iterate_fixed h]

/-- A grant within the bound is the arbiter's last choice. -/
theorem readerArbiter_read (hr : s.ss.reader = none) (hw : s.ss.waiting = none) {c : Link} {tr : Transfer}
    (hg : s.nextGrant = some c) (htr : (s.slot c).transfer = some tr) (hp : tr.nextPage < s.config.planPages) :
    readerArbiter s = grant c s := by
  rw [readerArbiter_entered he, Function.iterate_succ_apply, chooseOnce_grant hr hw hg]
  refine Function.iterate_fixed (chooseOnce_busy ?_) 4
  rw [grant_read htr hp]
  exact Option.some_ne_none _

/-- After a grant beyond the bound the arbiter chooses again. -/
theorem readerArbiter_range (hr : s.ss.reader = none) (hw : s.ss.waiting = none) {c : Link} {tr : Transfer}
    (hg : s.nextGrant = some c) (htr : (s.slot c).transfer = some tr) (hp : s.config.planPages ≤ tr.nextPage) :
    readerArbiter s = readerArbiter
      (withFault c tr (bufOf tr.fillSpan) tr.fillSpan .range { s with ss := { s.ss with lastGranted := c } }) := by
  have hentered : (withFault c tr (bufOf tr.fillSpan) tr.fillSpan .range
      { s with ss := { s.ss with lastGranted := c } }).Entered := fun d => by
    rw [withFault, State.slot_setSlot]
    split
    · exact SheetSlot.entered_of_noFault rfl rfl
    · exact he d
  rw [readerArbiter_entered he, readerArbiter_entered hentered, chooseOnce_iterate_five (State.qualifies_withFault ..),
    Function.iterate_succ_apply, chooseOnce_grant hr hw hg, grant_range htr hp]

end choices

/-- What the plan reader's arbiter chooses when it may grant a fill, within the bound and beyond it. -/
theorem readerArbiter_grants {s : State} (he : s.Entered) {c : Link} {tr : Transfer} (hr : s.ss.reader = none)
    (hw : s.ss.waiting = none) (hg : s.nextGrant = some c) (htr : (s.slot c).transfer = some tr)
    (hp : tr.nextPage < s.config.planPages) : ∃ t, readerArbiter s = t ∧
      t.ss.reader = some (.fill c (bufOf tr.fillSpan) tr.fillSpan tr.nextPage
        (if tr.remaining = 1 then tr.lastLen else 256)) ∧
      t.ss.lastGranted = c ∧ (t.slot c).queue = (s.slot c).queue ∧
      (t.slot c).transfer = some { tr with nextPage := tr.nextPage + 1, remaining := tr.remaining - 1 } ∧
      ((t.slot c).buf (bufOf tr.fillSpan)).state = .filling ∧ ((t.slot c).buf (bufOf tr.fillSpan)).span = tr.fillSpan ∧
      ((t.slot c).buf (bufOf tr.fillSpan)).discarded = false ∧
      (∀ i, i ≠ bufOf tr.fillSpan → (t.slot c).buf i = (s.slot c).buf i) ∧ (∀ d, d ≠ c → t.slot d = s.slot d) ∧
      t = { s with ss := { s.ss with slots := t.ss.slots, reader := t.ss.reader, lastGranted := c } } := by
  have hslot : (grant c s).slot c =
      { (s.slot c).setBuf (bufOf tr.fillSpan) { SpanBuf.emptied with state := .filling, span := tr.fillSpan } with
        transfer := some { tr with nextPage := tr.nextPage + 1, remaining := tr.remaining - 1 } } := by
    rw [grant_read htr hp]
    exact State.slot_setSlot_self ..
  have hbuf : ∀ i, ((grant c s).slot c).buf i = if i = bufOf tr.fillSpan then
      { SpanBuf.emptied with state := .filling, span := tr.fillSpan } else (s.slot c).buf i := fun i => by
    rw [hslot]
    exact SheetSlot.buf_setBuf ..
  have hmine := (hbuf (bufOf tr.fillSpan)).trans (if_pos rfl)
  refine ⟨_, readerArbiter_read he hr hw hg htr hp, ?_, ?_, ?_, ?_, ?_, ?_, ?_, fun i hi => (hbuf i).trans (if_neg hi),
    fun d hd => slot_grant_other hd s, ?_⟩
  · rw [grant_read htr hp]
  · rw [grant_read htr hp]
  · rw [hslot]
    exact SheetSlot.setBuf_queue ..
  · rw [hslot]
  · rw [hmine]
  · rw [hmine]
  · rw [hmine]
    rfl
  · rw [grant_read htr hp]
    rfl

/-- Settles O35: the ends of a fill read, and the arbiter's choices. -/
theorem fillReadEnds : Obligations.FillReadEnds := by
  unfold Obligations.FillReadEnds
  refine ⟨fun s c i k page len hrun hr => ⟨fun hd => ⟨fillReadComplete_wanted hrun hr hd, fillReadFail_wanted hrun hr hd,
    fun tr htr => ⟨?_, ?_⟩⟩, fun hd e he => ⟨fillRead_discarded hrun hr hd he, fun htr =>
      ⟨_, fillRead_discarded hrun hr hd he, ?_, settle_planFaults _, settle_frame rfl⟩⟩⟩,
    fun s => ⟨rfl, fun c tr cause h => ?_, fun hnone => ?_⟩⟩
  · rw [exec_fillReadComplete hr hrun, fillComplete_filled hr hd, SheetSlot.lastSpan_eq htr]
    rfl
  · rw [exec_fillReadFail hr hrun, fillFail_faulted hr hd]
    exact congrArg (fun u => Host.Outcome.next (settle u)) (withFault_eq (s := s.freeReader.countPlanFault) htr ..).symm
  · have hslot : (s.freeReader.setSlot c ((s.slot c).setBuf i SpanBuf.emptied)).slot c =
        (s.slot c).setBuf i SpanBuf.emptied := State.slot_setSlot_self ..
    rw [slot_settle_of_noTransfer] <;> rw [hslot]
    · exact SheetSlot.buf_setBuf_self ..
    · rw [SheetSlot.setBuf_transfer, htr]
  · rw [h.withFault_eq, readerArbiter_eq, readerArbiter_eq, eachLink_enterDue_enterDue]
  · have he := State.entered_of_no_faultEnters hnone
    refine ⟨fun hb => readerArbiter_fixed he (chooseOnce_busy hb), fun hr op hw => ?_, fun hr hw hq =>
      readerArbiter_fixed he (chooseOnce_none hr hw (State.nextGrant_none hq)), fun c tr k hr hw hg htr hk => ?_⟩
    · rw [readerArbiter_waiting hr hw, he.eachLink_enterDue]
      cases op <;> rfl
    · subst hk
      have hnext := State.nextGrant_of_grantedNext hg
      exact ⟨readerArbiter_grants he hr hw hnext htr, readerArbiter_range he hr hw hnext htr⟩

end Sys2Proof.Machine
end

section
/-! The crews' sheet requests and stops (R137 to R142, R190): what each makes of the crew's slot, and its answer. -/

namespace Sys2Proof.Machine

/-! ### A transfer starts (R137) -/

/-- A slot once a transfer has started, where none is active and a sheet waits. -/
def State.started (s : State) (x : SheetSlot) : SheetSlot :=
  match x.transfer, x.queue with
  | none, i :: rest => { x with queue := rest, transfer := some (s.newTransfer i) }
  | _, _ => x

theorem State.started_active {x : SheetSlot} (h : x.transfer ≠ none) (s : State) : s.started x = x := by
  unfold State.started
  split
  · exact absurd ‹_› h
  · rfl

theorem State.started_empty {x : SheetSlot} (hq : x.queue = []) (s : State) : s.started x = x := by
  unfold State.started
  split
  · rename_i hqueue
    cases hq.symm.trans hqueue
  · rfl

theorem State.started_next {x : SheetSlot} (ht : x.transfer = none) {i : Nat} {rest : List Nat} (hq : x.queue = i :: rest)
    (s : State) : s.started x = { x with queue := rest, transfer := some (s.newTransfer i) } := by
  rw [State.started, ht, hq]

theorem startTransfer_setSlot (c : Link) (s : State) (x : SheetSlot) :
    startTransfer c (s.setSlot c x) = s.setSlot c (s.started x) := by
  rw [startTransfer_eq, State.slot_setSlot_self]
  cases ht : x.transfer with
  | some tr =>
    rw [State.started_active (by simp [ht])]
  | none =>
    cases hq : x.queue with
    | nil =>
      rw [State.started_empty hq]
    | cons i rest =>
      rw [State.started_next ht hq]
      exact State.setSlot_setSlot ..

theorem State.newTransfer_available {s : State} {i : Nat} (h : s.sheetAvailable i = true) : s.newTransfer i =
    { sheet := i, first := (s.sheet i).first, count := (s.sheet i).count, lastLen := (s.sheet i).lastLen,
      nextPage := (s.sheet i).first, remaining := (s.sheet i).count, drainSpan := 0, faultDue := none } := if_pos h

/-! ### A sheet queued (R139 tests 2 to 5) -/

theorem SheetSlot.holds_iff (x : SheetSlot) (i : Nat) :
    x.holds i = true ↔ i ∈ x.queue ∨ x.transfer.map Transfer.sheet = some i := by
  unfold SheetSlot.holds
  cases x.transfer <;> simp

/-- A slot with a sheet at the end of its queue. -/
def SheetSlot.queued (x : SheetSlot) (i : Nat) : SheetSlot := { x with queue := x.queue ++ [i] }

section judged
variable {s : State} {c : Link} {j : Nat}

theorem queueSheet_unavailable (h : s.sheetAvailable j = false) : queueSheet c j s = (.noSheet, s) := by
  rw [queueSheet, h]
  rfl

theorem queueSheet_held (ha : s.sheetAvailable j = true) (h : (s.slot c).holds j = true) :
    queueSheet c j s = (.ok, s) := by
  rw [queueSheet, ha, h]
  rfl

theorem queueSheet_full (ha : s.sheetAvailable j = true) (h : (s.slot c).holds j = false)
    (hfull : 4 ≤ (s.slot c).queue.length) : queueSheet c j s = (.queueFull, s) := by
  rw [queueSheet, ha, h]
  exact if_pos hfull

theorem queueSheet_queued (ha : s.sheetAvailable j = true) (h : (s.slot c).holds j = false)
    (hroom : (s.slot c).queue.length < 4) :
    queueSheet c j s = (.ok, s.setSlot c (s.started ((s.slot c).queued j))) := by
  rw [queueSheet, ha, h, ← startTransfer_setSlot]
  exact if_neg (Nat.not_le.2 hroom)

/-- A sheet queued on an empty slot starts at once. -/
theorem State.started_queued (ha : s.sheetAvailable j = true) (ht : (s.slot c).transfer = none)
    (hq : (s.slot c).queue = []) : s.started ((s.slot c).queued j) = { s.slot c with
      transfer := some { sheet := j, first := (s.sheet j).first, count := (s.sheet j).count,
                         lastLen := (s.sheet j).lastLen, nextPage := (s.sheet j).first, remaining := (s.sheet j).count,
                         drainSpan := 0, faultDue := none } } := by
  have hqueued : ((s.slot c).queued j).queue = [j] := by rw [SheetSlot.queued, hq, List.nil_append]
  rw [State.started_next (x := (s.slot c).queued j) ht hqueued, State.newTransfer_available ha, ← hq]
  rfl

theorem sheetJudged (c : Link) (j : Nat) (s : State) :
    SheetJudged c j s (queueSheet c j s).2 (decide ((queueSheet c j s).1 = .ok)) := by
  refine ⟨fun ha => ?_, fun ha hh => ?_, fun ha hh hfull => ?_, fun ha hh hroom => ?_⟩
  · rw [queueSheet_unavailable ha]
    exact ⟨rfl, rfl⟩
  · rw [queueSheet_held ha hh]
    exact ⟨rfl, rfl⟩
  · rw [queueSheet_full ha hh hfull]
    exact ⟨rfl, rfl⟩
  · rw [queueSheet_queued ha hh hroom]
    refine ⟨rfl, fun ht => ?_, fun ht hq => ?_⟩
    · exact congrArg (s.setSlot c) (State.started_active (x := (s.slot c).queued j) ht s)
    · exact congrArg (s.setSlot c) (State.started_queued ha ht hq)

theorem fieldJudged (c : Link) (f : Option Nat) (s : State) :
    FieldJudged c f s (queueField c f s).2 (queueField c f s).1 := by
  cases f with
  | none => exact ⟨fun _ => ⟨rfl, rfl⟩, nofun⟩
  | some i =>
    refine ⟨nofun, fun j hj => ?_⟩
    obtain rfl := Option.some.inj hj
    refine ⟨_, sheetJudged c i s, ?_⟩
    rw [queueField]
    by_cases h : (queueSheet c i s).1 = .ok <;> simp [h]

end judged

/-! ### Answers of the Sheet Streamer -/

theorem mkReply_nil (kind : Byte) (r : CrewResult) : mkReply kind r [] = ⟨kind, r.code, []⟩ := by rw [mkReply, ite_self]

theorem sheetIdRequest_id {n : Nat} (h : n < 512) (k : Nat → Request) : sheetIdRequest n k = k n := if_pos h

theorem sheetIdRequest_malformed {n : Nat} (h : 512 ≤ n) (k : Nat → Request) : sheetIdRequest n k = .unknown :=
  if_neg (Nat.not_lt.2 h)

section takes
variable {c : Link} {kind : Byte} {s u : State} {r : CrewResult} {i : Nat}

theorem takeRequest_sheetById (h : requestSheet c i s = (r, u)) :
    takeRequest c kind (.sheetById i) s = placeReply c ⟨kind, r.code, []⟩ u := by
  rw [takeRequest, h, answerSS, mkReply_nil]

theorem takeRequest_stopNamed (h : stopSheet c i s = (r, u)) :
    takeRequest c kind (.stopNamed i) s = placeReply c ⟨kind, r.code, []⟩ u := by
  rw [takeRequest, h, answerSS, mkReply_nil]

theorem takeRequest_sheetUnknown (h : kind = 0x08#8 ∨ kind = 0x09#8) :
    takeRequest c kind .unknown s = placeReply c ⟨kind, 0x07#8, []⟩ s := if_pos h

end takes

/-- A sheet request or stop of another length than 3 is malformed (R190). -/
theorem parseRequest_sheet_length {kind : Byte} (h : kind = 0x08#8 ∨ kind = 0x09#8) {payload : List Byte}
    (hlen : payload.length ≠ 3) : parseRequest kind payload = .unknown := by
  match payload, hlen with
  | [], _ | [_], _ | [_, _], _ | _ :: _ :: _ :: _ :: _, _ => rcases h with rfl | rfl <;> rfl
  | [_, _, _], hlen => exact absurd rfl hlen

theorem parseRequest_sheetReq (form h l : Byte) : parseRequest 0x08#8 [form, h, l] =
    if form = 0 then sheetIdRequest (num16 h l) .sheetById
    else if form = 1 then .sheetByZone (num16 h l) else .unknown := rfl

theorem parseRequest_sheetStop (form h l : Byte) : parseRequest 0x09#8 [form, h, l] =
    if form = 0 then sheetIdRequest (num16 h l) .stopNamed
    else if form = 1 ∧ num16 h l = 0 then .stopAll else .unknown := rfl

theorem parseRequest_sheetReq_id (h l : Byte) :
    parseRequest 0x08#8 [0x00#8, h, l] = sheetIdRequest (num16 h l) .sheetById := rfl

theorem parseRequest_sheetStop_id (h l : Byte) :
    parseRequest 0x09#8 [0x00#8, h, l] = sheetIdRequest (num16 h l) .stopNamed := rfl

/-- A form byte of 2 or more is neither of the two forms. -/
theorem form_ne {form : Byte} (h : 2 ≤ form.toNat) : form ≠ 0 ∧ form ≠ 1 := by
  refine ⟨?_, ?_⟩ <;> rintro rfl <;> exact absurd h (by decide)

/-- A malformed SHEET_REQ (R190). -/
theorem parseRequest_sheetReq_malformed {payload : List Byte} (hp : payload.length ≠ 3 ∨ ∃ form h l : Byte,
    payload = [form, h, l] ∧ (2 ≤ form.toNat ∨ form = 0x00#8 ∧ 512 ≤ num16 h l)) :
    parseRequest 0x08#8 payload = .unknown := by
  rcases hp with hlen | ⟨form, h, l, rfl, hform | ⟨rfl, hid⟩⟩
  · exact parseRequest_sheet_length (.inl rfl) hlen
  · obtain ⟨h0, h1⟩ := form_ne hform
    rw [parseRequest_sheetReq, if_neg h0, if_neg h1]
  · rw [parseRequest_sheetReq_id, sheetIdRequest_malformed hid]

/-- A malformed SHEET_STOP (R190). -/
theorem parseRequest_sheetStop_malformed {payload : List Byte} (hp : payload.length ≠ 3 ∨ ∃ form h l : Byte,
    payload = [form, h, l] ∧
      (2 ≤ form.toNat ∨ form = 0x00#8 ∧ 512 ≤ num16 h l ∨ form = 0x01#8 ∧ num16 h l ≠ 0)) :
    parseRequest 0x09#8 payload = .unknown := by
  rcases hp with hlen | ⟨form, h, l, rfl, hform | ⟨rfl, hid⟩ | ⟨rfl, hid⟩⟩
  · exact parseRequest_sheet_length (.inr rfl) hlen
  · obtain ⟨h0, h1⟩ := form_ne hform
    rw [parseRequest_sheetStop, if_neg h0, if_neg fun h => h1 h.1]
  · rw [parseRequest_sheetStop_id, sheetIdRequest_malformed hid]
  · rw [parseRequest_sheetStop, if_neg (by decide), if_neg fun h => hid h.2]

/-- `t` is `s` once a request has made `x` of a crew's slot, its reply has been placed and the arbiters have chosen. -/
structure SlotAnswered (c : Link) (r : Reply) (x : SheetSlot) (s t : State) : Prop where
  replies : (t.link c).replies = (s.link c).replies ++ [r]
  queue : (t.slot c).queue = x.queue
  sheet : (t.slot c).transfer.map Transfer.sheet = x.transfer.map Transfer.sheet
  drainSpan : (t.slot c).transfer.map Transfer.drainSpan = x.transfer.map Transfer.drainSpan
  slot : x.transfer = none → t.slot c = x
  frame : t = { s with nr := t.nr, cl := t.cl, ss := t.ss }

theorem slotAnswered {i : Instr} {s : State} {c : Link} {kind : Byte} {q : Request} (hs : Hands s c)
    (hi : exec i s = .next (crewRow c kind q s)) {r : Reply} {x : SheetSlot}
    (hu : takeRequest c kind q s = placeReply c r (s.setSlot c x)) :
    ∃ t, exec i s = .next t ∧ SlotAnswered c r x s t := by
  refine ⟨_, hi.trans (by rw [crewRow_handed hs, hu]), ?_⟩
  have hslot : (placeReply c r (s.setSlot c x)).slot c = x := State.slot_setSlot_self ..
  have harb := arbitersOnly_settle (placeReply c r (s.setSlot c x))
  refine ⟨?_, ?_, ?_, ?_, fun hx => ?_, ?_⟩
  · rw [harb.link, placeReply, State.link_modLink_self]
    rfl
  · rw [harb.queue, hslot]
  · rw [harb.sheet, hslot]
  · rw [harb.drainSpan, hslot]
  · rw [slot_settle_of_noTransfer (by rw [hslot]; exact hx), hslot]
  · rw [harb.1]
    rfl

/-! ### Requests by id and by zone (R139, R140) -/

theorem requestSheet_available {s : State} {j : Nat} (h : s.sheetAvailable j = true) (c : Link) :
    requestSheet c j s = queueSheet c j s := by
  simp only [State.sheetAvailable, Bool.and_eq_true, decide_eq_true_eq] at h
  exact if_neg (by omega)

/-- A request by zone, once the zone's number and the memory are judged (R140). -/
theorem takeRequest_sheetByZone {s : State} {z : Nat} (hz : 1 ≤ z ∧ z ≤ 1023) (hp : s.config.planPages ≠ 0) (c : Link)
    {p q : Nat × State} (hfirst : queueField c (s.zoneDef z).primary s = p)
    (hsecond : queueField c (s.zoneDef z).secondary p.2 = q) :
    takeRequest c 0x08#8 (.sheetByZone z) s = placeReply c ⟨0x08#8, 0x00#8, [byteOf (p.1 + q.1)]⟩ q.2 := by
  subst hfirst hsecond
  rw [takeRequest, requestByZone, if_neg (not_not_intro hz), if_neg hp]
  rfl

/-- A sheet that both fields name starts by the first and is absorbed by the second. -/
theorem queueField_twice {s : State} {c : Link} {j : Nat} (ha : s.sheetAvailable j = true)
    (hq : (s.slot c).queue = []) (ht : (s.slot c).transfer = none) :
    ∃ u, queueField c (some j) s = (1, u) ∧ queueField c (some j) u = (1, u) ∧
      u = s.setSlot c (s.started ((s.slot c).queued j)) := by
  have hfree : (s.slot c).holds j = false := by
    rw [Bool.eq_false_iff, ne_eq, SheetSlot.holds_iff, hq, ht]
    simp
  have hfirst := queueSheet_queued ha hfree (by rw [hq]; decide)
  refine ⟨_, by rw [queueField, hfirst]; rfl, ?_, rfl⟩
  have hheld : ((s.setSlot c (s.started ((s.slot c).queued j))).slot c).holds j = true := by
    rw [State.slot_setSlot_self, State.started_queued ha ht hq, SheetSlot.holds_iff]
    exact .inr rfl
  rw [queueField, queueSheet_held (s := s.setSlot c _) ha hheld]
  rfl

/-- Settles O33: malformed requests by the parse, a request by id by the tests of R139, a request by zone by its fields. -/
theorem sheetRequestAnswered : Obligations.SheetRequestAnswered := by
  unfold Obligations.SheetRequestAnswered
  intro s c i hs
  have byId : ∀ {r u}, i.toNat < 512 → requestSheet c i.toNat s = (r, u) →
      takeRequest c 0x08#8 (sheetIdRequest i.toNat .sheetById) s = placeReply c ⟨0x08#8, r.code, []⟩ u := fun hi hr => by
    rw [sheetIdRequest_id hi, takeRequest_sheetById hr]
  refine ⟨fun hi => answered hs rfl ?_, fun payload hp => answered hs rfl ?_, fun hi hp => answered hs rfl ?_,
    fun hi hp ha => answered hs rfl ?_, fun hi ha hheld => answered hs rfl ?_,
    fun hi ha hq ht hfull => answered hs rfl ?_, fun hi ha hq ht hroom => ?_, fun hz => answered hs rfl ?_,
    fun h1 h2 hp => answered hs rfl ?_, fun h1 h2 hp => ?_, fun h1 h2 hp hf hg => answered hs rfl ?_,
    fun j h1 h2 hp hf hg ha hq ht => ?_⟩
  · rw [sheetIdRequest_malformed hi]
    exact takeRequest_sheetUnknown (.inl rfl)
  · rw [parseRequest_sheetReq_malformed hp]
    exact takeRequest_sheetUnknown (.inl rfl)
  · exact byId (r := .noMemory) hi (if_pos hp)
  · exact byId (r := .noSheet) hi ((if_neg hp).trans (queueSheet_unavailable ha))
  · refine byId (r := .ok) hi ((requestSheet_available ha c).trans (queueSheet_held ha ?_))
    exact (SheetSlot.holds_iff ..).2 hheld
  · refine byId (r := .queueFull) hi ((requestSheet_available ha c).trans (queueSheet_full ha ?_ hfull))
    rw [Bool.eq_false_iff, ne_eq, SheetSlot.holds_iff]
    exact fun h => h.elim hq ht
  · have hfree : (s.slot c).holds i.toNat = false := by
      rw [Bool.eq_false_iff, ne_eq, SheetSlot.holds_iff]
      exact fun h => h.elim hq ht
    obtain ⟨t, hexec, hans⟩ := slotAnswered (i := .sheetReqById c i) hs rfl
      (byId (r := .ok) hi ((requestSheet_available ha c).trans (queueSheet_queued ha hfree hroom)))
    refine ⟨t, hexec, hans.replies, fun hact => ?_, fun hnone hempty => ?_, hans.frame⟩
    · have hstays := State.started_active (x := (s.slot c).queued i.toNat) hact s
      rw [hans.queue, hans.sheet, hstays]
      exact ⟨rfl, rfl⟩
    · rw [hans.queue, hans.sheet, hans.drainSpan, State.started_queued ha hnone hempty]
      exact ⟨hempty, rfl, rfl⟩
  · have hbad : ¬ (1 ≤ i.toNat ∧ i.toNat ≤ 1023) := by omega
    rw [takeRequest, requestByZone, if_pos hbad]
    rfl
  · rw [takeRequest, requestByZone, if_neg (not_not_intro ⟨h1, h2⟩), if_pos hp]
    rfl
  · obtain ⟨t, hexec, harb⟩ := answered (i := .sheetReqByZone c i) hs rfl
      (takeRequest_sheetByZone ⟨h1, h2⟩ hp c rfl rfl)
    exact ⟨t, _, _, _, _, hexec, fieldJudged .., fieldJudged .., harb⟩
  · exact takeRequest_sheetByZone ⟨h1, h2⟩ hp c (p := (0, s)) (q := (0, s)) (by rw [hf]; rfl) (by rw [hg]; rfl)
  · obtain ⟨u, hfirst, hsecond, hu⟩ := queueField_twice ha hq ht
    have htake := takeRequest_sheetByZone ⟨h1, h2⟩ hp c (p := (1, u)) (q := (1, u)) (by rw [hf]; exact hfirst)
      (by rw [hg]; exact hsecond)
    rw [hu] at htake
    obtain ⟨t, hexec, hans⟩ := slotAnswered (i := .sheetReqByZone c i) hs rfl htake
    have hstarted := State.started_queued ha ht hq
    refine ⟨t, hexec, hans.replies, ?_, ?_⟩
    · rw [hans.queue, hstarted]
      exact hq
    · rw [hans.sheet, hstarted]
      rfl

/-! ### Stops (R138, R141, R142) -/

section stop
variable {s : State} {c : Link} {i : Nat}

theorem stopSheet_queued (h : i ∈ (s.slot c).queue) :
    stopSheet c i s = (.ok, s.setSlot c { s.slot c with queue := without (s.slot c).queue i }) :=
  if_pos (List.contains_iff_mem.2 h)

theorem stopSheet_active (hq : i ∉ (s.slot c).queue) {tr : Transfer} (ht : (s.slot c).transfer = some tr)
    (hi : tr.sheet = i) : stopSheet c i s = (.ok, s.setSlot c (s.started (s.slot c).abort)) := by
  rw [stopSheet, ← startTransfer_setSlot]
  rw [if_neg (by simpa using hq), ht]
  exact if_pos hi

theorem stopSheet_absent (hq : i ∉ (s.slot c).queue) (ht : (s.slot c).transfer.map Transfer.sheet ≠ some i) :
    stopSheet c i s = (.notFound, s) := by
  rw [stopSheet]
  rw [if_neg (by simpa using hq)]
  split
  · rename_i tr htr
    rw [htr] at ht
    exact if_neg fun h => ht (congrArg some h)
  · rfl

/-- A slot after a stop of all its sheets (R142). -/
def SheetSlot.stopped (x : SheetSlot) : SheetSlot :=
  match x.transfer with
  | some _ => { x.abort with queue := [] }
  | none => { x with queue := [] }

theorem stopAllSheets_eq (c : Link) (s : State) : stopAllSheets c s = s.setSlot c (s.slot c).stopped := rfl

theorem SheetSlot.stopped_idle (x : SheetSlot) : x.stopped.queue = [] ∧ x.stopped.transfer = none := by
  unfold SheetSlot.stopped
  split
  · exact ⟨rfl, rfl⟩
  · exact ⟨rfl, ‹_›⟩

/-- A stop of all aborts the buffers of an active transfer (R138). -/
theorem SheetSlot.buf_stopped {x : SheetSlot} (h : x.transfer ≠ none) (k : BufId) : x.stopped.buf k = (x.buf k).abort := by
  obtain ⟨tr, htr⟩ := Option.ne_none_iff_exists'.1 h
  rw [SheetSlot.stopped, htr]
  cases k <;> rfl

theorem SpanBuf.abort_held {b : SpanBuf} (h : b.state = .filling ∨ b.state = .draining) :
    b.abort = { b with discarded := true } := by
  rcases h with h | h <;> rw [SpanBuf.abort, h]

theorem SpanBuf.abort_full {b : SpanBuf} (h : b.state = .full) : b.abort = SpanBuf.emptied := by
  rw [SpanBuf.abort, h]

end stop

/-- Settles O34: malformed stops by the parse, a named stop by where its sheet is, a stop of all by its buffers. -/
theorem sheetStopAnswered : Obligations.SheetStopAnswered := by
  unfold Obligations.SheetStopAnswered
  intro s c i hs
  have named : ∀ {r u}, i.toNat < 512 → stopSheet c i.toNat s = (r, u) →
      takeRequest c 0x09#8 (sheetIdRequest i.toNat .stopNamed) s = placeReply c ⟨0x09#8, r.code, []⟩ u := fun hi hr => by
    rw [sheetIdRequest_id hi, takeRequest_stopNamed hr]
  refine ⟨fun hi hq => ?_, fun hi hq ht => ?_, fun hi hq ht => answered hs rfl (named (r := .notFound) hi
    (stopSheet_absent hq ht)), fun hi => answered hs rfl ?_, fun payload hp => answered hs rfl ?_, ?_⟩
  · obtain ⟨t, hexec, hans⟩ := slotAnswered (i := .sheetStopNamed c i) hs rfl
      (named (r := .ok) hi (stopSheet_queued hq))
    exact ⟨t, hexec, hans.replies, hans.queue, hans.sheet⟩
  · obtain ⟨tr, htr, hsheet⟩ := Option.map_eq_some_iff.1 ht
    obtain ⟨t, hexec, hans⟩ := slotAnswered (i := .sheetStopNamed c i) hs rfl
      (named (r := .ok) hi (stopSheet_active hq htr hsheet))
    refine ⟨t, hexec, hans.replies, ?_⟩
    rw [hans.queue, hans.sheet]
    cases hqueue : (s.slot c).queue with
    | nil =>
      rw [State.started_empty (x := (s.slot c).abort) hqueue]
      exact ⟨hqueue, rfl⟩
    | cons j rest =>
      rw [State.started_next (x := (s.slot c).abort) rfl hqueue]
      exact ⟨rfl, congrArg some (s.newTransfer_sheet j)⟩
  · rw [sheetIdRequest_malformed hi]
    exact takeRequest_sheetUnknown (.inr rfl)
  · rw [parseRequest_sheetStop_malformed hp]
    exact takeRequest_sheetUnknown (.inr rfl)
  · obtain ⟨t, hexec, hans⟩ := slotAnswered (i := .sheetStopAll c) (kind := 0x09#8) (q := .stopAll) hs rfl
      (r := ⟨0x09#8, 0x00#8, []⟩) (x := (s.slot c).stopped) (by rw [takeRequest, stopAllSheets_eq]; rfl)
    obtain ⟨hqueue, htransfer⟩ := (s.slot c).stopped_idle
    have hbuf : (s.slot c).transfer ≠ none → ∀ k, (t.slot c).buf k = ((s.slot c).buf k).abort := fun h k => by
      rw [hans.slot htransfer, SheetSlot.buf_stopped h]
    refine ⟨t, hexec, hans.replies, hans.queue.trans hqueue, ?_, fun h k hk => ?_, fun h k hk => ?_, fun h k hk => ?_,
      hans.frame⟩
    · rw [hans.slot htransfer]
      exact htransfer
    · rw [hbuf h, SpanBuf.abort_held (.inl hk)]
    · rw [hbuf h, SpanBuf.abort_held (.inr hk)]
    · rw [hbuf h, SpanBuf.abort_full hk]

end Sys2Proof.Machine
end

section
/-! Profiles and configurations read back from their bytes, and the configuration page that CONFIG_SAVE builds loads back as
the table it was built from (R163, R167, R175, R182, 10.3, 10.4). -/

namespace Sys2Proof.Machine

/-! ### A crew profile (10.3) -/

/-- What a profile's flag byte holds. -/
theorem profileFlags (nested poll fixed auto : Bool) :
    byteOf (nested.toNat + 2 * poll.toNat + 4 * fixed.toNat + 8 * auto.toNat) &&& 0xF0#8 = 0 ∧
    (byteOf (nested.toNat + 2 * poll.toNat + 4 * fixed.toNat + 8 * auto.toNat)).getLsbD 0 = nested ∧
    (byteOf (nested.toNat + 2 * poll.toNat + 4 * fixed.toNat + 8 * auto.toNat)).getLsbD 1 = poll ∧
    (byteOf (nested.toNat + 2 * poll.toNat + 4 * fixed.toNat + 8 * auto.toNat)).getLsbD 2 = fixed ∧
    (byteOf (nested.toNat + 2 * poll.toNat + 4 * fixed.toNat + 8 * auto.toNat)).getLsbD 3 = auto := by
  revert nested poll fixed auto
  decide

theorem Mode.read_nested (m : Mode) : (if (m == .nested) = true then .nested else .openMode : Mode) = m := by
  cases m <;> rfl

theorem Delivery.read_poll (d : Delivery) : (if (d == .poll) = true then .poll else .push : Delivery) = d := by
  cases d <;> rfl

theorem Rotation.read_fixed (r : Rotation) : (if (r == .fixed) = true then .fixed else .auto : Rotation) = r := by
  cases r <;> rfl

/-- Every profile reads back from its bytes. -/
theorem readProfile_bytes (p : Profile) : readProfile p.bytes = some p := by
  obtain ⟨hreserved, hmode, hdelivery, hrotation, hauto⟩ :=
    profileFlags (p.mode == .nested) (p.delivery == .poll) (p.rotation == .fixed) p.autoSheet
  simp only [Profile.bytes, be16, List.cons_append, List.nil_append, readProfile]
  rw [if_pos hreserved]
  simp only [word16_be16, hmode, hdelivery, hrotation, hauto, Mode.read_nested, Delivery.read_poll, Rotation.read_fixed]

/-! ### The configuration table (R168, 10.3) -/

/-- The fields of a configuration within their ranges (R168). -/
theorem ConfigTable.inRange_iff (k : ConfigTable) : k.inRange = true ↔
    okNode k.own = true ∧ okNode k.panel = true ∧ okMaint k.maint = true ∧ okVerify k.verifyWindow = true ∧
    okEscalation k.escalation = true ∧ okOfferTimeout k.offerTimeout = true ∧ okResyncTimeout k.resyncTimeout = true ∧
    okBonus k.bonus0 = true ∧ okBonus k.bonus1 = true ∧ okBonus k.bonus2 = true ∧ okBonus k.bonus3 = true ∧
    okPlanPages k.planPages = true := by
  simp only [ConfigTable.inRange, Bool.and_eq_true, and_assoc]

/-- The fields of a configuration in range fit their bytes. -/
theorem ConfigTable.fits_of_inRange {k : ConfigTable} (h : k.inRange = true) :
    k.own < 256 ∧ k.panel < 256 ∧ k.maint < 256 ∧ k.verifyWindow < 256 ∧ k.escalation < 256 ∧ k.offerTimeout < 256 ∧
    k.resyncTimeout < 256 ∧ k.bonus0 < 256 ∧ k.bonus1 < 256 ∧ k.bonus2 < 256 ∧ k.bonus3 < 256 ∧ k.planPages < 65536 := by
  simp only [ConfigTable.inRange_iff, okNode, okMaint, okVerify, okEscalation, okOfferTimeout, okResyncTimeout, okBonus,
    okPlanPages, Bool.and_eq_true, decide_eq_true_eq] at h
  omega

/-- A configuration in range reads back from its bytes. -/
theorem readConfig_bytes {k : ConfigTable} (h : k.inRange = true) : readConfig k.bytes = some k := by
  obtain ⟨h1, h2, h3, h4, h5, h6, h7, h8, h9, h10, h11, h12⟩ := ConfigTable.fits_of_inRange h
  simp only [ConfigTable.bytes, nat16, be16, List.cons_append, List.nil_append, readConfig, toNat_byteOf h1,
    toNat_byteOf h2, toNat_byteOf h3, toNat_byteOf h4, toNat_byteOf h5, toNat_byteOf h6, toNat_byteOf h7, toNat_byteOf h8,
    toNat_byteOf h9, toNat_byteOf h10, toNat_byteOf h11, num16_nat16 h12]

/-! ### The configuration page (R175, R182, 10.4) -/

theorem orDefault_of_ok {ok : Nat → Bool} {n : Nat} (h : ok n = true) (d : Nat) : orDefault ok n d = n := if_pos h

/-- Step 4 of R182 leaves a configuration in range as it is. -/
theorem ConfigTable.loaded_of_inRange {k : ConfigTable} (h : k.inRange = true) : k.loaded = k := by
  obtain ⟨h1, h2, h3, h4, h5, h6, h7, h8, h9, h10, h11, h12⟩ := k.inRange_iff.1 h
  simp only [ConfigTable.loaded, orDefault_of_ok h1, orDefault_of_ok h2, orDefault_of_ok h3, orDefault_of_ok h4,
    orDefault_of_ok h5, orDefault_of_ok h6, orDefault_of_ok h7, orDefault_of_ok h8, orDefault_of_ok h9,
    orDefault_of_ok h10, orDefault_of_ok h11, orDefault_of_ok h12]

/-- Step 5 of R182 leaves a configuration whose own node differs from the others as it is. -/
theorem ConfigTable.nodesSettled_of_nodesDiffer {k : ConfigTable} (h : k.nodesDiffer = true) : k.nodesSettled = k :=
  if_pos h

/-- Some bytes with their sum byte sum to 0 (00 Conventions, "Checks"). -/
theorem sumBytes_append_complement (bs : List Byte) : sumBytes (bs ++ [0 - sumBytes bs]) = 0 := by
  simp [sumBytes, List.foldl_append]

/-- The bytes of the page that a cold start judges: the marker, the table, the sum byte (10.4). -/
theorem configPage_head (k : ConfigTable) :
    (configPage k).take 16 = 0xE7#8 :: 0x40#8 :: (k.bytes ++ [0 - sumBytes k.bytes]) := rfl

theorem ConfigTable.length_bytes (k : ConfigTable) : k.bytes.length = 13 := rfl

theorem length_configPage (k : ConfigTable) : (configPage k).length = 256 := by
  simp only [configPage, List.length_append, List.length_replicate, List.length_cons, List.length_nil,
    k.length_bytes]

/-- The page of a table that a configuration write accepts gives the table back (R182 steps 2 to 5). -/
theorem judgePage_configPage {k : ConfigTable} (hr : k.inRange = true) (hd : k.nodesDiffer = true) :
    judgePage ((configPage k).take 16) = (k, .page) := by
  have htable : (k.bytes ++ [0 - sumBytes k.bytes]).take 13 = k.bytes := rfl
  rw [configPage_head]
  simp only [judgePage]
  rw [if_pos ⟨trivial, trivial, sumBytes_append_complement k.bytes⟩, htable, readConfig_bytes hr]
  simp only [ConfigTable.loaded_of_inRange hr, ConfigTable.nodesSettled_of_nodesDiffer hd]

/-- Settles O48: each entry reads back field by field, and the page passes every test of R182. -/
theorem configAndEntriesReadBack : Obligations.ConfigAndEntriesReadBack := by
  unfold Obligations.ConfigAndEntriesReadBack
  refine ⟨fun k hr hd => ⟨length_configPage k, judgePage_configPage hr hd⟩, fun e he => ?_,
    fun d hd => readZoneDef_bytes hd, fun r hr => readSheetRec_bytes hr, readProfile_bytes, fun k hk => readConfig_bytes hk⟩
  have hfields := (MapEntry.inRange_iff e).1 he
  exact readMapEntry_bytes (by omega) (by omega) (by omega) (by omega)

end Sys2Proof.Machine
end

section
/-! Management requests that a test of R158 before their own rule refuses, the reply their only effect: admission (R157), a
request in progress (R159), the operation, the table and the arguments, and the alarm lock (R161). -/

namespace Sys2Proof.Machine

/-! ### The tests in their order (R158) -/

section tests
variable {s : State} {src : Byte} {id : Word16} {i : Instr} {op : Byte} {args : List Byte}

/-- A management row leaves what taking its request makes of the state, but for what the arbiters begin. -/
theorem exec_taken (hrun : s.running = true) (hi : requestOf i = some (src, id, op, args)) {u : State}
    (hu : takeMgmt src id op args s = u) : ∃ t, exec i s = .next t ∧ ArbitersOnly u t := by
  subst hu
  refine ⟨_, (exec_of_requestOf hi s).trans ?_, arbitersOnly_settle _⟩
  rw [mgmtRow, whenRunning_of_running hrun]

theorem takeMgmt_notAllowed (h : s.admitted src = false) : takeMgmt src id op args s = reply src id .notAllowed [] s := by
  simp [takeMgmt, h]

theorem takeMgmt_busy (h : s.admitted src = true) (hmr : s.mr ≠ none) :
    takeMgmt src id op args s = reply src id .busy [] s := by
  simp [takeMgmt, h, Option.isSome_iff_ne_none.2 hmr]

theorem takeMgmt_unknownOp (hs : Serves s src) (hp : parseMgmt op args = .unknownOp) :
    takeMgmt src id op args s = reply src id .unknownOp [] s := by
  obtain ⟨-, hadm, hmr⟩ := hs
  simp [takeMgmt, hadm, hmr, hp]

theorem takeMgmt_badTable (hs : Serves s src) (hp : parseMgmt op args = .badTable) :
    takeMgmt src id op args s = reply src id .badTable [] s := by
  obtain ⟨-, hadm, hmr⟩ := hs
  simp [takeMgmt, hadm, hmr, hp]

theorem takeMgmt_locked (hs : Serves s src) {r : MgmtReq} (hp : parseMgmt op args = .ok r) (hr : r.locked = true)
    (hlock : s.lockHolds = true) : takeMgmt src id op args s = reply src id .locked [] s := by
  obtain ⟨-, hadm, hmr⟩ := hs
  simp [takeMgmt, hadm, hmr, hp, hr, hlock]

end tests

/-! ### The alarm lock (R161) -/

/-- Settles O38: each of these requests can be read and is one that the lock covers. -/
theorem alarmLockRefuses : Obligations.AlarmLockRefuses := by
  unfold Obligations.AlarmLockRefuses
  intro s src id i hs hlock hi
  have refused {op : Byte} {args : List Byte} {r : MgmtReq} (hreq : requestOf i = some (src, id, op, args))
      (hp : parseMgmt op args = .ok r) (hr : r.locked = true) :
      ∃ t, exec i s = .next t ∧ ArbitersOnly (reply src id .locked [] s) t :=
    exec_taken hs.1 hreq (takeMgmt_locked hs hp hr hlock)
  rcases hi with ⟨e, rfl⟩ | ⟨n, h, l, rfl⟩ | rfl | ⟨h, l, rfl⟩ | rfl | ⟨h, l, e, rfl⟩ | ⟨h, l, y, z, rfl⟩ |
    ⟨h, l, d, hd, rfl⟩ | ⟨h, l, b, rfl⟩ | ⟨h, l, r, hr, rfl⟩ | ⟨h, l, k, rfl⟩
  · exact refused rfl (r := .mapInsert _) rfl rfl
  · exact refused rfl (r := .mapDelete _ _) rfl rfl
  · exact refused rfl (r := .mapClear) rfl rfl
  · exact refused rfl (r := .planCommit _) rfl rfl
  · exact refused rfl (r := .configSave) rfl rfl
  · exact refused rfl (r := .writeMap _ _) rfl rfl
  · exact refused rfl (r := .writeFallback _ _) rfl rfl
  · exact refused rfl (zoneDef_request (readZoneDef_bytes hd)) rfl
  · exact refused rfl (r := .writeBonus _ _) rfl rfl
  · exact refused rfl (sheet_request (readSheetRec_bytes hr)) rfl
  · exact refused rfl (r := .writeConfig _ _) rfl rfl

/-! ### Operations, tables and lengths (10.3) -/

/-- An operation byte of no operation of the manual. -/
theorem parseMgmt_unknownOp {op : Byte} (h : op.toNat = 0 ∨ 16 ≤ op.toNat) (args : List Byte) :
    parseMgmt op args = .unknownOp := by
  have other {k : Byte} (h1 : 1 ≤ k.toNat) (h2 : k.toNat ≤ 15) : op ≠ k := by
    rintro rfl
    omega
  unfold parseMgmt
  simp only [other (k := opTableRead) (by decide) (by decide), other (k := opTableWrite) (by decide) (by decide),
    other (k := opMapInsert) (by decide) (by decide), other (k := opMapDelete) (by decide) (by decide),
    other (k := opMapClear) (by decide) (by decide), other (k := opPlanStage) (by decide) (by decide),
    other (k := opPlanCommit) (by decide) (by decide), other (k := opPlanRead) (by decide) (by decide),
    other (k := opZoneRead) (by decide) (by decide), other (k := opStatusRead) (by decide) (by decide),
    other (k := opPictureClear) (by decide) (by decide), other (k := opSetRotation) (by decide) (by decide),
    other (k := opLinkDisable) (by decide) (by decide), other (k := opLinkEnable) (by decide) (by decide),
    other (k := opConfigSave) (by decide) (by decide), if_false]

theorem TableId.ofCode_eq_none {b : Byte} (h : b.toNat = 0 ∨ 8 ≤ b.toNat) : TableId.ofCode b = none := by
  have other {k : Byte} (h1 : 1 ≤ k.toNat) (h2 : k.toNat ≤ 7) : b ≠ k := by
    rintro rfl
    omega
  simp only [TableId.ofCode, other (k := 0x01#8) (by decide) (by decide), other (k := 0x02#8) (by decide) (by decide),
    other (k := 0x03#8) (by decide) (by decide), other (k := 0x04#8) (by decide) (by decide),
    other (k := 0x05#8) (by decide) (by decide), other (k := 0x06#8) (by decide) (by decide),
    other (k := 0x07#8) (by decide) (by decide), if_false]

/-- A table code of no table of the manual. -/
theorem parseMgmt_badTable {op code : Byte} (hop : op = 0x01#8 ∨ op = 0x02#8) (h : code.toNat = 0 ∨ 8 ≤ code.toNat)
    (rest : List Byte) : parseMgmt op (code :: rest) = .badTable := by
  have table (k : TableId → List Byte → Option MgmtReq) : readTabled (code :: rest) k = .badTable := by
    simp [readTabled, TableId.ofCode_eq_none h]
  rcases hop with rfl | rfl
  · exact (if_pos rfl).trans (table _)
  · exact ((if_neg (by decide)).trans (if_pos rfl)).trans (table _)

/-- Arguments of another length than the operation requires. -/
theorem parseMgmt_wrongLength {op : Byte} {n : Nat} {args : List Byte}
    (hop : (op.toNat, n) ∈ [(3, 7), (4, 3), (5, 0), (7, 2), (8, 4), (9, 2), (10, 1), (11, 0), (12, 3), (13, 1), (14, 1),
      (15, 0)]) (hl : args.length ≠ n) : parseMgmt op args = .badValue := by
  have code {c : Nat} (hc : c < 256) (h : op.toNat = c) : op = BitVec.ofNat 8 c :=
    BitVec.eq_of_toNat_eq (by rw [h, BitVec.toNat_ofNat, Nat.mod_eq_of_lt hc])
  simp only [List.mem_cons, Prod.mk.injEq, List.not_mem_nil, or_false] at hop
  rcases hop with ⟨h, rfl⟩ | ⟨h, rfl⟩ | ⟨h, rfl⟩ | ⟨h, rfl⟩ | ⟨h, rfl⟩ | ⟨h, rfl⟩ | ⟨h, rfl⟩ | ⟨h, rfl⟩ | ⟨h, rfl⟩ |
    ⟨h, rfl⟩ | ⟨h, rfl⟩ | ⟨h, rfl⟩ <;> obtain rfl := code (by decide) h
  · show Parsed.ofOption ((readMapEntry args).map .mapInsert) = _
    unfold readMapEntry
    split
    · exact absurd rfl hl
    · rfl
  all_goals
    simp only [parseMgmt, opTableRead, opTableWrite, opMapInsert, opMapDelete, opMapClear, opPlanStage, opPlanCommit,
      opPlanRead, opZoneRead, opStatusRead, opPictureClear, opSetRotation, opLinkDisable, opLinkEnable, opConfigSave,
      BitVec.reduceEq, if_true, if_false]
    split
    · simp_all
    · rfl

end Sys2Proof.Machine
end

section
/-! What the Management Responder does to a state does not depend on the receive stages of the trunk ports, which it leaves as
they are: a MGMT_REQUEST may be taken out of its stage before or after it is handed (R6, R12). -/

namespace Sys2Proof.Machine

/-! ### Effects that do not see the Trunk Interface -/

theorem trunkBlind_profileWritten (c : Link) : TrunkBlind (profileWritten c) :=
  TrunkBlind.ite (c := fun s => s.attached c = true) (fun _ _ => Iff.rfl) (trunkBlind_offerStep c) trunkBlind_id

theorem trunkBlind_setRotation (c : Link) (v : Nat) : TrunkBlind (setRotation c v) :=
  TrunkBlind.ite (c := fun s => s.attached c = true) (fun _ _ => Iff.rfl)
    ((trunkBlind_offerStep c).comp (F := fun s => s.modCrew c _) (fun _ _ => rfl)) trunkBlind_id

theorem trunkBlind_crewUrgency (us : List UrgencyChange) (c : Link) : TrunkBlind (crewUrgency us c) :=
  TrunkBlind.ite (c := fun s => s.attached c = true) (fun _ _ => Iff.rfl)
    ((trunkBlind_offerStep c).comp (TrunkBlind.foldl (f := fun s (u : UrgencyChange) => urgencyMoved c u.zone s)
      (fun _ _ _ => rfl) us)) trunkBlind_id

theorem trunkBlind_takeUrgency (us : List UrgencyChange) : TrunkBlind (takeUrgency us) :=
  TrunkBlind.ite (c := fun _ => us = []) (fun _ _ => Iff.rfl) trunkBlind_id (TrunkBlind.eachLink (trunkBlind_crewUrgency us))

theorem trunkBlind_recomputeAndReport (zs : List Nat) : TrunkBlind (recomputeAndReport zs) := fun s x =>
  ((trunkBlind_takeUrgency (s.urgencyChanges zs)).comp (trunkBlind_writeUrgencies (s.urgencyChanges zs))) s x

theorem trunkBlind_rescheduleAll : TrunkBlind rescheduleAll := fun s x =>
  TrunkBlind.foldl (f := fun s z => s.setAgeStep z (if s.config.escalation = 0 then none
    else firstAgeStep ((s.zone z).alarmEntry.getD 0) s.config.escalation s.uptime)) (fun _ _ _ => rfl)
    (s.activeZones.filter (fun z => (s.zone z).cond == .alarm)) s x

theorem trunkBlind_takeConfigChange (old : ConfigTable) : TrunkBlind (takeConfigChange old) := fun s x =>
  (trunkBlind_recomputeAndReport (s.configMoved old s.config)).comp
    (TrunkBlind.ite (c := fun s => old.escalation = s.config.escalation) (fun _ _ => Iff.rfl) trunkBlind_id
      trunkBlind_rescheduleAll) s x

theorem trunkBlind_setConfig (t : ConfigTable) : TrunkBlind (setConfig t) := fun s x =>
  (trunkBlind_takeConfigChange s.config).comp (F := fun s => setTables { s.tables with config := t } s)
    (fun _ _ => rfl) s x

theorem trunkBlind_unattendAll (c : Link) : TrunkBlind (unattendAll c) := fun s x =>
  TrunkBlind.foldl (f := fun s z => setAttended c z false s) (fun _ _ _ => rfl) (s.crew c).attended s x

theorem trunkBlind_crewCleared (c : Link) : TrunkBlind (crewCleared c) :=
  TrunkBlind.ite (c := fun s => s.attached c = true) (fun _ _ => Iff.rfl)
    (TrunkBlind.comp (G := fun s => s.modCrew c _) (fun _ _ => rfl) (trunkBlind_unattendAll c)) trunkBlind_id

theorem trunkBlind_pictureClear : TrunkBlind pictureClear :=
  (TrunkBlind.eachLink trunkBlind_crewCleared).comp
    (F := fun s => { s with zp := { live := [], floors := [] }, ageSteps := [] }) (fun _ _ => rfl)

theorem trunkBlind_leaveAttached (c : Link) (st : LinkState) : TrunkBlind (leaveAttached c st) := by
  refine TrunkBlind.comp (G := sheetDetach c) (fun _ _ => rfl) (TrunkBlind.comp (G := crewDetach c) ?_
    (F := fun s => s.modLink c _) (fun _ _ => rfl))
  exact TrunkBlind.comp (G := fun s => s.setCrew c Crew.empty) (fun _ _ => rfl) (trunkBlind_unattendAll c)

theorem trunkBlind_disableLink (c : Link) : TrunkBlind (disableLink c) := by
  intro s x
  unfold disableLink
  have hlink : (s.withTi x).link c = s.link c := rfl
  rw [hlink]
  split
  · rfl
  · rfl
  · exact trunkBlind_leaveAttached c .disabled s x

theorem trunkBlind_enableLink (c : Link) : TrunkBlind (enableLink c) := by
  intro s x
  unfold enableLink
  have hlink : (s.withTi x).link c = s.link c := rfl
  rw [hlink]
  split <;> rfl

/-! ### Effects that do not see the receive stages -/

/-- A port's receive stage emptied (R6). -/
def State.unstage (s : State) (p : Port) : State := s.modPort p PortUnit.unstaged

/-- An effect that neither reads nor writes the receive stages. -/
def StageBlind (F : State → State) : Prop := ∀ s p, F (s.unstage p) = (F s).unstage p

theorem TrunkBlind.stageBlind {F : State → State} (h : TrunkBlind F) : StageBlind F := fun s p =>
  (h.modPort s p PortUnit.unstaged).symm

theorem StageBlind.comp {F G : State → State} (hG : StageBlind G) (hF : StageBlind F) : StageBlind (fun s => G (F s)) :=
  fun s p => (congrArg G (hF s p)).trans (hG _ p)

theorem StageBlind.ite {c : State → Prop} [∀ s, Decidable (c s)] (hc : ∀ s p, c (s.unstage p) ↔ c s)
    {F G : State → State} (hF : StageBlind F) (hG : StageBlind G) : StageBlind (fun s => if c s then F s else G s) := by
  intro s p
  by_cases h : c s
  · simp only [h, (hc s p).2 h, if_true]
    exact hF s p
  · simp only [h, mt (hc s p).1 h, if_false]
    exact hG s p

theorem PortUnit.choose_unstaged (u : PortUnit) : u.unstaged.choose = u.choose.unstaged := by
  unfold PortUnit.choose PortUnit.unstaged
  dsimp only
  split
  · rfl
  · split
    · rfl
    · split <;> rfl

theorem PortUnit.placeOwn_unstaged (f : Frame) (u : PortUnit) : u.unstaged.placeOwn f = (u.placeOwn f).unstaged := by
  unfold PortUnit.placeOwn
  split
  · rw [if_pos (by assumption)]
    exact PortUnit.choose_unstaged { u with ownQueue := u.ownQueue ++ [f] }
  · rw [if_neg (by assumption)]
    rfl

theorem stageBlind_giveOwn (d k : Byte) (b : List Byte) : StageBlind (giveOwn d k b) := by
  intro s p
  have hplace := fun u => PortUnit.placeOwn_unstaged (s.ownFrame d k b) u
  cases p with
  | a => exact congrArg (fun u => { s with ti := { s.ti with
      ownSeq := s.ti.ownSeq + 1, ports := ⟨u, s.ti.ports.vb.placeOwn (s.ownFrame d k b)⟩ } }) (hplace s.ti.ports.va)
  | b => exact congrArg (fun u => { s with ti := { s.ti with
      ownSeq := s.ti.ownSeq + 1, ports := ⟨s.ti.ports.va.placeOwn (s.ownFrame d k b), u⟩ } }) (hplace s.ti.ports.vb)

theorem stageBlind_id : StageBlind (fun s => s) := fun _ _ => rfl

/-- A reply to what an effect made, with a result and data that do not see the receive stages either. -/
theorem StageBlind.reply {F : State → State} (hF : StageBlind F) (src : Byte) (id : Word16) (r : State → MgmtResult)
    (d : State → List Byte) (hr : ∀ s p, r (s.unstage p) = r s) (hd : ∀ s p, d (s.unstage p) = d s) :
    StageBlind (fun s => reply src id (r s) (d s) (F s)) := by
  intro s p
  dsimp only
  rw [hr, hd, hF]
  exact stageBlind_giveOwn _ _ _ (F s) p

theorem stageBlind_refused (src : Byte) (id : Word16) (r : MgmtResult) : StageBlind (reply src id r []) :=
  stageBlind_id.reply src id (fun _ => r) (fun _ => []) (fun _ _ => rfl) (fun _ _ => rfl)

theorem StageBlind.answered {F : State → State} (hF : StageBlind F) (src : Byte) (id : Word16) (r : MgmtResult) :
    StageBlind (fun s => Machine.reply src id r [] (F s)) :=
  hF.reply src id (fun _ => r) (fun _ => []) (fun _ _ => rfl) (fun _ _ => rfl)

/-! ### Results with their states -/

/-- A rule of a request whose result and state do not see the receive stages. -/
structure StageBlindRule (A : State → MgmtResult × State) : Prop where
  result : ∀ s p, (A (s.unstage p)).1 = (A s).1
  state : StageBlind (fun s => (A s).2)

namespace StageBlindRule

theorem gives {F : State → State} (hF : StageBlind F) (r : MgmtResult) : StageBlindRule (fun s => (r, F s)) :=
  ⟨fun _ _ => rfl, hF⟩

theorem refuses (r : MgmtResult) : StageBlindRule (fun s => (r, s)) := gives stageBlind_id r

theorem ite {c : State → Prop} [∀ s, Decidable (c s)] (hc : ∀ s p, c (s.unstage p) ↔ c s)
    {A B : State → MgmtResult × State} (hA : StageBlindRule A) (hB : StageBlindRule B) :
    StageBlindRule (fun s => if c s then A s else B s) := by
  refine ⟨fun s p => ?_, fun s p => ?_⟩
  · by_cases h : c s
    · simp only [h, (hc s p).2 h, if_true, hA.result]
    · simp only [h, mt (hc s p).1 h, if_false, hB.result]
  · by_cases h : c s
    · simp only [h, (hc s p).2 h, if_true]
      exact hA.state s p
    · simp only [h, mt (hc s p).1 h, if_false]
      exact hB.state s p

theorem answer {A : State → MgmtResult × State} (h : StageBlindRule A) (src : Byte) (id : Word16) :
    StageBlind (fun s => answer src id (A s)) :=
  h.state.reply src id (fun s => (A s).1) (fun _ => []) h.result (fun _ _ => rfl)

end StageBlindRule

theorem stageBlind_setTables (f : Retained → Retained) : StageBlind (fun s => setTables (f s.tables) s) := fun _ _ => rfl

theorem stageBlindRule_writeMap (i : Nat) (e : MapEntry) : StageBlindRule (writeMap i e) :=
  .ite (c := fun s => s.tables.map.length ≤ i) (fun _ _ => Iff.rfl) (.refuses _) <|
    .ite (c := fun _ => (!e.inRange) = true) (fun _ _ => Iff.rfl) (.refuses _) <|
    .ite (c := fun s => (!(fitsAfter (entryBelow s.tables.map i) e && fitsBefore e s.tables.map[i + 1]?)) = true)
      (fun _ _ => Iff.rfl) (.refuses _) (.gives (stageBlind_setTables fun r => { r with map := r.map.set i e }) _)

theorem stageBlindRule_writeFallback (n z : Nat) : StageBlindRule (writeFallback n z) :=
  .ite (c := fun _ => n = 0 ∨ 120 < n) (fun _ _ => Iff.rfl) (.refuses _) <|
    .ite (c := fun _ => 1023 < z) (fun _ _ => Iff.rfl) (.refuses _) <|
    .gives (stageBlind_setTables fun r => { r with fallback := Tab.put 0 r.fallback n z }) _

theorem stageBlindRule_writeZoneDef (z : Nat) (d : ZoneDef) : StageBlindRule (writeZoneDef z d) :=
  .ite (c := fun _ => (!zoneNumber z) = true) (fun _ _ => Iff.rfl) (.refuses _) <|
    .ite (c := fun _ => (!d.inRange) = true) (fun _ _ => Iff.rfl) (.refuses _) <|
    .ite (c := fun s => (s.zone z).cond ≠ .quiet) (fun _ _ => Iff.rfl) (.refuses _) <|
    .gives (stageBlind_setTables fun r => { r with defs := Tab.put ZoneDef.cold r.defs z d }) _

theorem stageBlindRule_writeBonus (cls b : Nat) : StageBlindRule (writeBonus cls b) :=
  .ite (c := fun _ => 3 < cls) (fun _ _ => Iff.rfl) (.refuses _) <|
    .ite (c := fun _ => 80 < b) (fun _ _ => Iff.rfl) (.refuses _) <|
    .gives (fun s p => (trunkBlind_setConfig (s.config.withBonus cls b)).stageBlind s p) _

theorem stageBlindRule_writeSheet (i : Nat) (r : SheetRec) : StageBlindRule (writeSheet i r) := by
  have hset := stageBlind_setTables fun t => { t with dir := Tab.put SheetRec.cold t.dir i r }
  refine ⟨fun s p => ?_, fun s p => ?_⟩
  · have htests : writeSheetTests (s.unstage p) i r = writeSheetTests s i r := rfl
    unfold writeSheet
    rw [htests]
    split <;> rfl
  · have htests : writeSheetTests (s.unstage p) i r = writeSheetTests s i r := rfl
    dsimp only
    unfold writeSheet
    rw [htests]
    split
    · exact hset s p
    · rfl

theorem stageBlindRule_writeProfile (n : Nat) (p : Profile) : StageBlindRule (writeProfile n p) := by
  unfold writeProfile
  cases linkOfNat n with
  | none => exact .refuses _
  | some c => exact .gives ((trunkBlind_profileWritten c).stageBlind.comp
      (stageBlind_setTables fun r => { r with profiles := r.profiles.set c p })) _

theorem stageBlindRule_mapDelete (n f : Nat) : StageBlindRule (mapDelete n f) :=
  .ite (c := fun _ => n = 0 ∨ 120 < n ∨ 511 < f) (fun _ _ => Iff.rfl) (.refuses _) <|
    .ite (c := fun s => s.tables.map.any (fun e => e.startsAt n f) = true) (fun _ _ => Iff.rfl)
      (.gives (stageBlind_setTables fun r => { r with map := r.map.filter (fun e => !(e.startsAt n f)) }) _) (.refuses _)

theorem stageBlindRule_planStage (o : Nat) (bs : List Byte) : StageBlindRule (planStage o bs) :=
  .ite (c := fun _ => 256 < o + bs.length) (fun _ _ => Iff.rfl) (.refuses _) (.gives (fun _ _ => rfl) _)

/-! ### Requests carried out (R158 test 8) -/

theorem mapInsert_unstage (e : MapEntry) (s : State) (p : Port) :
    mapInsert e (s.unstage p) = ((mapInsert e s).1, (mapInsert e s).2.1, (mapInsert e s).2.2.unstage p) := by
  have htables : (s.unstage p).tables = s.tables := rfl
  unfold mapInsert
  rw [htables]
  split
  · rfl
  · split
    · rfl
    · split <;> rfl

theorem stageBlind_mapInsert (src : Byte) (id : Word16) (e : MapEntry) :
    StageBlind (carryOut src id (.mapInsert e)) :=
  StageBlind.reply (F := fun s => (mapInsert e s).2.2) (fun s p => by dsimp only; rw [mapInsert_unstage]) src id
    (fun s => (mapInsert e s).1) (fun s => (mapInsert e s).2.1) (fun s p => by rw [mapInsert_unstage])
    (fun s p => by rw [mapInsert_unstage])

theorem stageBlind_callResync : StageBlind callResync :=
  StageBlind.comp (G := fun s => { s with sc := { s.sc with expiry := some (s.uptime + s.config.resyncTimeout) } })
    (fun _ _ => rfl) ((stageBlind_giveOwn _ _ _).comp (trunkBlind_setStatus .resyncing).stageBlind)

theorem stageBlind_writeConfig (src : Byte) (id : Word16) (i : Nat) (t : ConfigTable) :
    StageBlind (writeConfig src id i t) := by
  have hset := (trunkBlind_setConfig t).stageBlind
  refine .ite (c := fun _ => i ≠ 0) (fun _ _ => Iff.rfl) (stageBlind_refused src id _) <|
    .ite (c := fun _ => (!t.inRange) = true) (fun _ _ => Iff.rfl) (stageBlind_refused src id _) <|
    .ite (c := fun _ => (!t.nodesDiffer) = true) (fun _ _ => Iff.rfl) (stageBlind_refused src id _) <|
    .ite (c := fun s => t.own = s.config.own) (fun _ _ => Iff.rfl) (hset.answered src id _) fun s p => ?_
  exact StageBlind.comp (G := keepFormer s.config.own) (fun _ _ => rfl) (hset.comp (stageBlind_refused src id .ok)) s p

theorem stageBlind_statusRead (src : Byte) (id : Word16) (clear : Bool) : StageBlind (statusRead src id clear) := by
  have hclear : StageBlind (fun s => if clear = true then clearCounters s else s) :=
    .ite (c := fun _ => clear = true) (fun _ _ => Iff.rfl) (fun s p => by cases p <;> rfl) stageBlind_id
  exact hclear.reply src id (fun _ => .ok) State.statusRecord (fun _ _ => rfl) (fun s p => by cases p <;> rfl)

theorem stageBlind_readerRequest (src : Byte) (id : Word16) (op : Byte) (r : State → MgmtResult) (w : WaitingOp)
    (hr : ∀ s p, r (s.unstage p) = r s) : StageBlind (fun s => readerRequest src id op (r s) w s) :=
  .ite (c := fun s => r s = .ok) (fun s p => by rw [hr]) (fun _ _ => rfl)
    (stageBlind_id.reply src id r (fun _ => []) hr (fun _ _ => rfl))

theorem stageBlind_linkCommand {f : Link → State → State} (hf : ∀ c, StageBlind (f c)) (src : Byte) (id : Word16)
    (n : Nat) : StageBlind (linkCommand f src id n) := by
  unfold linkCommand
  cases linkOfNat n with
  | none => exact stageBlind_refused src id _
  | some c => exact (hf c).answered src id _

theorem stageBlind_rotationCommand (src : Byte) (id : Word16) (n v : Nat) : StageBlind (rotationCommand src id n v) := by
  unfold rotationCommand
  cases linkOfNat n with
  | none => exact stageBlind_refused src id _
  | some c =>
    exact .ite (c := fun _ => 1023 < v) (fun _ _ => Iff.rfl) (stageBlind_refused src id _)
      ((trunkBlind_setRotation c v).stageBlind.answered src id _)

theorem stageBlind_carryOut (src : Byte) (id : Word16) (r : MgmtReq) : StageBlind (carryOut src id r) := by
  cases r with
  | tableRead t i =>
    exact stageBlind_id.reply src id (fun s => (readTable t i s).1) (fun s => (readTable t i s).2)
      (fun _ _ => rfl) (fun _ _ => rfl)
  | writeMap i e => exact (stageBlindRule_writeMap i e).answer src id
  | writeFallback i z => exact (stageBlindRule_writeFallback i z).answer src id
  | writeZoneDef i d => exact (stageBlindRule_writeZoneDef i d).answer src id
  | writeBonus i b => exact (stageBlindRule_writeBonus i b).answer src id
  | writeSheet i x => exact (stageBlindRule_writeSheet i x).answer src id
  | writeProfile i p => exact (stageBlindRule_writeProfile i p).answer src id
  | writeConfig i t => exact stageBlind_writeConfig src id i t
  | mapInsert e => exact stageBlind_mapInsert src id e
  | mapDelete n f => exact (stageBlindRule_mapDelete n f).answer src id
  | mapClear => exact StageBlind.answered (F := mapClear) (fun _ _ => rfl) src id .ok
  | planStage o bs => exact (stageBlindRule_planStage o bs).answer src id
  | planCommit p => exact stageBlind_readerRequest src id _ (fun s => commitTests s p) _ (fun _ _ => rfl)
  | planRead p o n => exact stageBlind_readerRequest src id _ (fun s => readTests s p o n) _ (fun _ _ => rfl)
  | zoneRead z =>
    exact .ite (c := fun _ => zoneNumber z = true) (fun _ _ => Iff.rfl)
      (stageBlind_id.reply src id (fun _ => .ok) (fun s => s.zoneRecord z) (fun _ _ => rfl) (fun _ _ => rfl))
      (stageBlind_refused src id _)
  | statusRead clear => exact stageBlind_statusRead src id clear
  | pictureClear => exact (stageBlind_callResync.comp trunkBlind_pictureClear.stageBlind).answered src id .ok
  | setRotation n v => exact stageBlind_rotationCommand src id n v
  | linkDisable n => exact stageBlind_linkCommand (fun c => (trunkBlind_disableLink c).stageBlind) src id n
  | linkEnable n => exact stageBlind_linkCommand (fun c => (trunkBlind_enableLink c).stageBlind) src id n
  | configSave => exact fun _ _ => rfl

/-- A request taken does not see the receive stages. -/
theorem stageBlind_takeMgmt (src : Byte) (id : Word16) (op : Byte) (args : List Byte) :
    StageBlind (takeMgmt src id op args) := by
  refine .ite (c := fun s => (!s.admitted src) = true) (fun _ _ => Iff.rfl) (stageBlind_refused src id _) <|
    .ite (c := fun s => s.mr.isSome = true) (fun _ _ => Iff.rfl) (stageBlind_refused src id _) ?_
  cases parseMgmt op args with
  | ok r =>
    exact .ite (c := fun s => (r.locked && s.lockHolds) = true) (fun _ _ => Iff.rfl) (stageBlind_refused src id _)
      (stageBlind_carryOut src id r)
  | _ => exact stageBlind_refused src id _

theorem stageBlind_takeMgmtPayload (src : Byte) (payload : List Byte) : StageBlind (takeMgmtPayload src payload) := by
  unfold takeMgmtPayload
  split
  · exact stageBlind_takeMgmt src _ _ _
  · exact stageBlind_id

/-- A payload too short for an id and an operation is discarded (R158 test 1). -/
theorem takeMgmtPayload_short {payload : List Byte} (h : payload.length < 3) (src : Byte) (s : State) :
    takeMgmtPayload src payload s = s := by
  unfold takeMgmtPayload
  split
  · simp at h
    omega
  · rfl

/-! ### A MGMT_REQUEST frame (R7, R12) -/

section request
variable {s : State} {p : Port} {b : Byte} {f : Frame} (hk : f.kind = kMgmtRequest)
include hk

/-- A MGMT_REQUEST for the own node is put to the handing tests, and is no kind that only the panel may send. -/
theorem dispatch_mgmtRequest (p : Port) (ho : f.src.toNat ≠ s.config.own) (hf : s.ti.former ≠ some f.src.toNat)
    (hd : f.dst.toNat = s.config.own) (hnew : Tab.get none s.ti.seqTable f.src.toNat ≠ some f.seq) :
    dispatch p f s = hand f (setSeq f s) := by
  have hobserved : observedKind kMgmtRequest = false := rfl
  have hpanel : panelOnlyKind f.kind = false := by rw [hk]; rfl
  rw [← handTests_handed p (by simp [hpanel]) hnew]
  simp [dispatch, State.ownSource_eq_false ho hf, hobserved, hd, hk]

theorem hand_mgmtRequest (s : State) : hand f s = takeMgmtPayload f.src f.payload s := by
  simp [hand, hk, kPointEvent, kPanelReset, kZoneIsolate, kTimeMark, kResyncDone, kMgmtRequest]

/-- A MGMT_REQUEST for the own node that arrives new is passed on and taken, and the event ends. -/
theorem exec_mgmtRequest (h : ArrivesNew s p b f) (hd : f.dst.toNat = s.config.own) :
    exec (.trunkFrameComplete p b) s = .next (settle (takeMgmtPayload f.src f.payload (passOn p f s))) := by
  obtain ⟨hs, hup, ho, hf, -, hnew⟩ := h
  have hpass := setSeq_inStage_unstaged p f s
  rw [if_pos hd] at hpass
  rw [exec_sound_up hs hup, dispatch_mgmtRequest hk p (by simpa using ho) (by simpa using hf) (by simpa using hd)
    (by simpa using hnew), hand_mgmtRequest hk, ← hpass]
  exact congrArg (fun t => Host.Outcome.next (settle t)) (stageBlind_takeMgmtPayload f.src f.payload _ p).symm

end request

end Sys2Proof.Machine
end

section
/-! Refusals of every management row (R157, R158), and the MGMT_REQUEST frame that carries a row's request (R12). -/

namespace Sys2Proof.Machine

/-- Settles O37: the tests of R158 in their order, and a MGMT_REQUEST taken out of its receive stage before it is judged. -/
theorem requestRefused : Obligations.RequestRefused := by
  unfold Obligations.RequestRefused
  refine ⟨fun s i src id op args hrun hi => ⟨fun hadm => ?_, fun hadm hmr => ?_, fun hs hop => ?_,
    fun code rest hs hop hargs hcode => ?_, fun n hs hop hl => ?_⟩, fun s p b f h hk hd => ⟨fun hshort => ?_,
    fun i hi lo op args hpayload hreq => ?_⟩⟩
  · exact exec_taken hrun hi (takeMgmt_notAllowed hadm)
  · exact exec_taken hrun hi (takeMgmt_busy hadm hmr)
  · exact exec_taken hrun hi (takeMgmt_unknownOp hs (parseMgmt_unknownOp hop args))
  · subst hargs
    exact exec_taken hrun hi (takeMgmt_badTable hs (parseMgmt_badTable hop hcode rest))
  · exact exec_unread hs hi (parseMgmt_wrongLength hop hl)
  · refine ⟨passOn p f s, _, exec_mgmtRequest hk h hd, passedOn_passOn p f s, ?_⟩
    rw [takeMgmtPayload_short hshort]
    exact arbitersOnly_settle _
  · have hpass := passedOn_passOn p f s
    have hrun : (passOn p f s).running = true := by
      rw [hpass.1]
      exact h.1.1
    refine ⟨passOn p f s, hpass, (exec_mgmtRequest hk h hd).trans ?_⟩
    rw [exec_of_requestOf hreq, mgmtRow, whenRunning_of_running hrun, hpayload]
    rfl

end Sys2Proof.Machine
end

section
/-! A configuration replaced (R73, R74, R165, R168 to R170): what it writes in the tables, in the picture and with the crews,
through the hazard bonus table and through the configuration table. -/

namespace Sys2Proof.Machine

/-! ### An urgency report, as it leaves the collections (R102) -/

/-- Every crew has the collections it had. -/
def KeepsCollections (s t : State) : Prop := ∀ c, (t.crew c).pending = (s.crew c).pending ∧
  (t.crew c).attended = (s.crew c).attended ∧ (t.crew c).aside = (s.crew c).aside

namespace KeepsCollections

theorem refl (s : State) : KeepsCollections s s := fun _ => ⟨rfl, rfl, rfl⟩

theorem trans {s t u : State} (h : KeepsCollections s t) (g : KeepsCollections t u) : KeepsCollections s u := fun c => by
  obtain ⟨hp, ha, hs⟩ := h c
  obtain ⟨gp, ga, gs⟩ := g c
  exact ⟨gp.trans hp, ga.trans ha, gs.trans hs⟩

theorem of_nr {s t : State} (h : t.nr = s.nr) : KeepsCollections s t := fun c => by
  rw [State.crew_of_nr h]
  exact ⟨rfl, rfl, rfl⟩

theorem setCrew {s : State} {c : Link} {k : Crew} (hp : k.pending = (s.crew c).pending)
    (ha : k.attended = (s.crew c).attended) (hs : k.aside = (s.crew c).aside) : KeepsCollections s (s.setCrew c k) := by
  intro d
  rw [State.crew_setCrew]
  split
  · subst_vars
    exact ⟨hp, ha, hs⟩
  · exact ⟨rfl, rfl, rfl⟩

end KeepsCollections

theorem keepsCollections_urgencyMoved (c : Link) (z : Nat) (s : State) : KeepsCollections s (urgencyMoved c z s) := by
  have h := marksOnly_noteUrgency (s.crew c) z
  exact .setCrew (k := (s.crew c).noteUrgency z) (by rw [h]) (by rw [h]) (by rw [h])

theorem keepsCollections_offerStep (c : Link) (s : State) : KeepsCollections s (offerStep c s) := by
  rw [offerStep_eq]
  exact .setCrew rfl rfl rfl

theorem keepsCollections_takeUrgency (us : List UrgencyChange) (s : State) : KeepsCollections s (takeUrgency us s) := by
  unfold takeUrgency
  split
  · exact .refl s
  · refine eachLink_rel (R := KeepsCollections) .trans (fun c u => ?_) s
    unfold crewUrgency
    split
    · exact (foldl_rel (R := KeepsCollections) .refl .trans
        (fun s (u : UrgencyChange) => keepsCollections_urgencyMoved c u.zone s) us u).trans (keepsCollections_offerStep c _)
    · exact .refl u

theorem CrewsOnly.reportOnly {s t : State} (h : CrewsOnly s t) : ReportOnly s t :=
  ⟨h.pictureOnly, by rw [h]; exact id, fun z => by rw [h.zone z]⟩

theorem reportOnly_recomputeAndReport (zs : List Nat) (s : State) : ReportOnly s (recomputeAndReport zs s) :=
  (s.reportOnly_recomputed zs).trans (crewsOnly_takeUrgency _ _).reportOnly

/-! ### A configuration put in force (R73, R74) -/

/-- The state with a configuration replaced and its age schedules moved on (R74), before the recomputes. -/
def State.configured (s : State) (k : ConfigTable) : State :=
  if s.config.escalation = k.escalation then setTables { s.tables with config := k } s
  else rescheduleAll (setTables { s.tables with config := k } s)

theorem State.configured_eq (s : State) (k : ConfigTable) :
    s.configured k = { setTables { s.tables with config := k } s with ageSteps := (s.configured k).ageSteps } := by
  unfold State.configured
  split
  · rfl
  · rw [rescheduleAll_eq]

theorem State.zone_configured (s : State) (k : ConfigTable) (z : Nat) : (s.configured k).zone z = s.zone z := by
  rw [State.configured_eq]
  rfl

/-- The zones that a new configuration recomputes (R73, R74). -/
def State.movedBy (s : State) (k : ConfigTable) : List Nat :=
  (setTables { s.tables with config := k } s).configMoved s.config k

theorem setConfig_eq (k : ConfigTable) (s : State) : setConfig k s = recomputeAndReport (s.movedBy k) (s.configured k) := rfl

/-- The active zones of a class that takes another bonus are recomputed (R73). -/
theorem State.mem_movedBy {s : State} {k : ConfigTable} {z : Nat} (ha : s.zoneActive z = true)
    (hne : k.bonus (s.zoneDef z).hazard ≠ s.config.bonus (s.zoneDef z).hazard) : z ∈ s.movedBy k := by
  refine List.mem_filter.2 ⟨(s.mem_activeZones z).2 ha, ?_⟩
  have hclass : (s.config.bonus (s.zoneDef z).hazard != k.bonus (s.zoneDef z).hazard) = true := by simpa using Ne.symm hne
  simp only [Bool.or_eq_true]
  exact .inl hclass

/-- A configuration put in force writes, of the live records, urgencies alone. -/
theorem zone_setConfig (k : ConfigTable) (s : State) (z : Nat) :
    (setConfig k s).zone z = { s.zone z with urgency := ((setConfig k s).zone z).urgency } := by
  rw [setConfig_eq, zone_recomputeAndReport, State.zone_configured]
  split <;> rfl

/-- A zone recomputed holds its urgency as it then stands (R69, R73). -/
theorem urgency_setConfig {k : ConfigTable} {s : State} {z : Nat} (hz : z ∈ s.movedBy k) :
    ((setConfig k s).zone z).urgency = some ((setConfig k s).urgencyValue z) := by
  rw [setConfig_eq, (reportOnly_recomputeAndReport ..).urgencyValue, zone_recomputeAndReport, if_pos hz]

theorem pictureOnly_setConfig (k : ConfigTable) (s : State) :
    PictureOnly (setTables { s.tables with config := k } s) (setConfig k s) := pictureOnly_takeConfigChange _ _

theorem keepsCollections_setConfig (k : ConfigTable) (s : State) : KeepsCollections s (setConfig k s) := by
  have hconfigured : (s.configured k).nr = s.nr := by
    rw [State.configured_eq]
    rfl
  have hrecomputed : ((s.configured k).recomputed (s.movedBy k)).nr = (s.configured k).nr := by
    rw [State.recomputed, writeUrgencies_eq]
  rw [setConfig_eq, recomputeAndReport_eq]
  exact (KeepsCollections.of_nr (hrecomputed.trans hconfigured)).trans (keepsCollections_takeUrgency _ _)

/-! ### A configuration written, at the end of the event -/

/-- `t` is `s` with a configuration written and taken by the Urgency Unit, and whatever Trunk Interface, but for what the
arbiters begin. -/
structure ConfigWritten (k : ConfigTable) (s t : State) : Prop where
  tables : t.tables = { s.tables with config := k }
  sc : t.sc = { s.sc with markCheck := t.tables.check }
  zone : ∀ z, t.zone z = { s.zone z with urgency := (t.zone z).urgency }
  urgency : ∀ z, s.zoneActive z = true → k.bonus (s.zoneDef z).hazard ≠ s.config.bonus (s.zoneDef z).hazard →
    (t.zone z).urgency = some (t.urgencyValue z)
  collections : KeepsCollections s t
  zp : t.zp = { s.zp with live := t.zp.live }
  frame : ArbitersOnly { s with ti := t.ti, tables := t.tables, sc := t.sc, zp := { s.zp with live := t.zp.live },
                                ageSteps := t.ageSteps, nr := t.nr } t

theorem ArbitersOnly.urgencyValue {s t : State} (h : ArbitersOnly s t) (z : Nat) : t.urgencyValue z = s.urgencyValue z := by
  rw [h.1]
  rfl

theorem configWritten {k : ConfigTable} {s t : State} {x : Trunk} (h : ArbitersOnly ((setConfig k s).withTi x) t) :
    ConfigWritten k s t := by
  have hzone (z : Nat) : t.zone z = (setConfig k s).zone z := h.zone z
  have htables : t.tables = { s.tables with config := k } := h.tables.trans (setConfig_tables k s)
  have hpicture := pictureOnly_setConfig k s
  have hsc : t.sc = { s.sc with markCheck := t.tables.check } := by
    have hset : (setConfig k s).sc = (setTables { s.tables with config := k } s).sc := by rw [hpicture]
    rw [htables]
    exact h.sc.trans hset
  have hzp : t.zp = { s.zp with live := t.zp.live } := by
    have hset : (setConfig k s).zp = { s.zp with live := (setConfig k s).zp.live } := by
      rw [hpicture]
      rfl
    have hz : t.zp = (setConfig k s).zp := h.zp
    rw [hz]
    exact hset
  refine ⟨htables, hsc, fun z => ?_, fun z ha hne => ?_, fun c => ?_, hzp, ?_⟩
  · rw [hzone]
    exact zone_setConfig k s z
  · rw [hzone, urgency_setConfig (State.mem_movedBy ha hne), h.urgencyValue]
    rfl
  · rw [h.crew c]
    exact keepsCollections_setConfig k s c
  · have hframe := h.of_pictureOnly (r := (setTables { s.tables with config := k } s).withTi x)
      (congrArg (State.withTi · x) hpicture)
    rw [← hzp, hsc, htables, h.ti]
    exact hframe

/-- A reply carries the own node's address: it is the same frame for every state with the same Trunk Interface and own
node. -/
theorem reply_ti_of_own {s t : State} (hti : t.ti = s.ti) (hown : t.config.own = s.config.own) (src : Byte) (id : Word16)
    (r : MgmtResult) (d : List Byte) : (reply src id r d t).ti = (reply src id r d s).ti := by
  simp only [reply, giveOwn, State.ownFrame, hti, hown]

/-- A request that writes a configuration of the same own node, answered after the write. -/
theorem exec_configWritten_sameOwn {s : State} {src : Byte} (hs : Serves s src) {id : Word16} {i : Instr} {op : Byte}
    {args : List Byte} {r : MgmtReq} (hi : requestOf i = some (src, id, op, args)) (hp : parseMgmt op args = .ok r)
    (hl : (r.locked && s.lockHolds) = false) {k : ConfigTable}
    (hu : carryOut src id r s = reply src id .ok [] (setConfig k s)) (hown : k.own = s.config.own) :
    ∃ t, exec i s = .next t ∧ t.ti = (reply src id .ok [] s).ti ∧ ConfigWritten k s t := by
  obtain ⟨t, ht, harb⟩ := exec_carried hs hi hp hl hu
  have hconfig : (setConfig k s).config.own = s.config.own := by rw [State.config, setConfig_tables, hown]
  exact ⟨t, ht, harb.ti.trans (reply_ti_of_own (setConfig_ti k s) hconfig src id .ok []), configWritten harb⟩

/-! ### TABLE_WRITE to the hazard bonus table (R165) -/

section hazard
variable {s : State} {cls b : Nat}

theorem writeBonus_badIndex (h : 3 < cls) : writeBonus cls b s = (.badIndex, s) := if_pos h

theorem writeBonus_badValue (h : cls ≤ 3) (hb : 80 < b) : writeBonus cls b s = (.badValue, s) := by
  rw [writeBonus, if_neg (Nat.not_lt.2 h), if_pos hb]

theorem writeBonus_ok (h : cls ≤ 3) (hb : b ≤ 80) :
    writeBonus cls b s = (.ok, setConfig (s.config.withBonus cls b) s) := by
  rw [writeBonus, if_neg (Nat.not_lt.2 h), if_neg (Nat.not_lt.2 hb)]

/-- The bonuses after one of them has been replaced. -/
theorem ConfigTable.bonus_withBonus (k : ConfigTable) {j : Nat} (h : cls ≤ 3) (hj : j ≤ 3) :
    (k.withBonus cls b).bonus j = if j = cls then b else k.bonus j := by
  interval_cases cls <;> interval_cases j <;> rfl

theorem ConfigTable.withBonus_own (k : ConfigTable) (cls b : Nat) : (k.withBonus cls b).own = k.own := by
  unfold ConfigTable.withBonus
  split
  · rfl
  · split
    · rfl
    · split <;> rfl

/-- The hazard bonus fields among the configuration's bytes (10.3). -/
theorem ConfigTable.getElem?_bytes_bonus (k : ConfigTable) (h : cls ≤ 3) :
    k.bytes[7 + cls]? = some (byteOf (k.bonus cls)) := by
  interval_cases cls <;> rfl

end hazard

/-- Settles O20: the write is a configuration put in force with one bonus replaced. -/
theorem hazardBonusWritten : Obligations.HazardBonusWritten := by
  unfold Obligations.HazardBonusWritten
  intro s src id h l b hs hlock
  have hp : parseMgmt opTableWrite (tHazardBonus :: [h, l, b]) = .ok (.writeBonus (num16 h l) b.toNat) := rfl
  have hl : ((MgmtReq.writeBonus (num16 h l) b.toNat).locked && s.lockHolds) = false := by simp [hlock]
  have hcarry : ∀ {a : MgmtResult × State}, writeBonus (num16 h l) b.toNat s = a →
      carryOut src id (.writeBonus (num16 h l) b.toNat) s = answer src id a := fun h => by rw [carryOut, h]
  refine ⟨fun hi => ?_, fun hi hb => ?_, fun hi hb => ?_⟩
  · exact exec_carried hs rfl hp hl (hcarry (writeBonus_badIndex hi))
  · exact exec_carried hs rfl hp hl (hcarry (writeBonus_badValue hi hb))
  · obtain ⟨t, ht, hti, hw⟩ := exec_configWritten_sameOwn (i := .tableWriteHazardBonus src id [h, l, b]) hs rfl hp hl
      (hcarry (writeBonus_ok hi hb)) (s.config.withBonus_own ..)
    have hconfig : t.config = s.config.withBonus (num16 h l) b.toNat := by rw [State.config, hw.tables]
    have hbonus {j : Nat} (hj : j ≤ 3) : t.config.bonus j = if j = num16 h l then b.toNat else s.config.bonus j := by
      rw [hconfig, ConfigTable.bonus_withBonus _ hi hj]
    have hself : t.config.bonus (num16 h l) = b.toNat := by rw [hbonus hi, if_pos rfl]
    have hbyte : byteOf (t.config.bonus (num16 h l)) = b := by simp [hself, byteOf]
    refine ⟨t, ht, hself, fun j hj hne => ?_, fun hne z ha hz => ?_, hti, ?_, ?_, ?_, ?_⟩
    · rw [hbonus hj, if_neg hne]
    · refine hw.urgency z ha ?_
      rw [hz, ← hconfig, hself]
      exact Ne.symm hne
    · rw [hw.sc]
    · exact (if_pos hi).trans (by rw [hbyte])
    · rw [← hbyte]
      exact t.config.getElem?_bytes_bonus hi
    · have htables : t.tables = { s.tables with config := t.config } := by rw [hconfig]; exact hw.tables
      have hsc : t.sc = { s.sc with markCheck := t.sc.markCheck } := by rw [hw.sc]
      have hframe := hw.frame
      rw [← hw.zp] at hframe
      rw [← htables, ← hsc]
      exact hframe

end Sys2Proof.Machine
end

section
/-! TABLE_WRITE to the configuration table (R158, R169, R170) and to a crew profile, with the offer step that follows (R78,
R88, R167). -/

namespace Sys2Proof.Machine

/-! ### Entries refused at their reading (R158) -/

/-- A profile entry of another length, or with a reserved bit set, reads as none (10.3). -/
theorem readProfile_refused {entry : List Byte}
    (h : entry.length ≠ 3 ∨ ∃ x y b : Byte, entry = [x, y, b] ∧ 16 ≤ b.toNat) : readProfile entry = none := by
  have high : ∀ b : Byte, b &&& 0xF0#8 = 0 → b.toNat < 16 := by decide
  rcases h with hl | ⟨x, y, b, rfl, hb⟩
  · unfold readProfile
    split
    · exact absurd rfl hl
    · rfl
  · exact if_neg fun hz => absurd (high b hz) (by omega)

/-- A configuration entry of another length, or with a field out of its range, reads as no configuration in range. -/
theorem readConfig_refused {entry : List Byte}
    (hbad : entry.length ≠ 13 ∨ ∃ a b c d e f g k0 k1 k2 k3 p1 p2 : Byte,
      entry = [a, b, c, d, e, f, g, k0, k1, k2, k3, p1, p2] ∧
      (a.toNat = 0 ∨ 120 < a.toNat ∨ b.toNat = 0 ∨ 120 < b.toNat ∨ 120 < c.toNat ∨ d.toNat < 10 ∨ 120 < d.toNat ∨
        f.toNat < 5 ∨ 60 < f.toNat ∨ g.toNat < 10 ∨ 120 < g.toNat ∨ 80 < k0.toNat ∨ 80 < k1.toNat ∨
        80 < k2.toNat ∨ 80 < k3.toNat ∨ 2048 < num16 p1 p2)) {k : ConfigTable} (h : readConfig entry = some k) :
    k.inRange = false := by
  rcases hbad with hl | ⟨a, b, c, d, e, f, g, k0, k1, k2, k3, p1, p2, rfl, hbad⟩
  · unfold readConfig at h
    split at h
    · exact absurd rfl hl
    · cases h
  · cases h
    refine Bool.eq_false_iff.2 fun hr => ?_
    simp only [ConfigTable.inRange_iff, okNode, okMaint, okVerify, okEscalation, okOfferTimeout, okResyncTimeout, okBonus,
      okPlanPages, Bool.and_eq_true, decide_eq_true_eq] at hr
    omega

/-- The own node differs from the panel node, and from the maintenance node when there is one (R169 test 3). -/
theorem ConfigTable.nodesDiffer_iff (k : ConfigTable) :
    k.nodesDiffer = true ↔ k.own ≠ k.panel ∧ (k.maint ≠ 0 → k.own ≠ k.maint) := by
  simp only [ConfigTable.nodesDiffer, Bool.and_eq_true, bne_iff_ne, Bool.or_eq_true, beq_iff_eq]
  tauto

/-! ### The tests of a configuration write and its reply (R169, R170) -/

section writeConfig
variable {s : State} {src : Byte} {id : Word16} {i : Nat} {k : ConfigTable}

theorem writeConfig_badIndex (hi : i ≠ 0) : writeConfig src id i k s = reply src id .badIndex [] s := if_pos hi

theorem writeConfig_outOfRange (hr : k.inRange = false) : writeConfig src id 0 k s = reply src id .badValue [] s := by
  simp [writeConfig, hr]

theorem writeConfig_sameNodes (hr : k.inRange = true) (hd : k.nodesDiffer = false) :
    writeConfig src id 0 k s = reply src id .badValue [] s := by simp [writeConfig, hr, hd]

theorem writeConfig_sameOwn (hr : k.inRange = true) (hd : k.nodesDiffer = true) (ho : k.own = s.config.own) :
    writeConfig src id 0 k s = reply src id .ok [] (setConfig k s) := by simp [writeConfig, hr, hd, ho]

/-- The own node moves on: the reply leaves under the old address, which becomes the former own node (R170). -/
theorem writeConfig_otherOwn (hr : k.inRange = true) (hd : k.nodesDiffer = true) (ho : k.own ≠ s.config.own) :
    writeConfig src id 0 k s =
      (setConfig k s).withTi { (reply src id .ok [] s).ti with former := some s.config.own } := by
  have hblind : setConfig k (reply src id .ok [] s) = (setConfig k s).withTi (reply src id .ok [] s).ti :=
    trunkBlind_setConfig k s _
  have hwrite : writeConfig src id 0 k s = keepFormer s.config.own (setConfig k (reply src id .ok [] s)) := by
    simp [writeConfig, hr, hd, ho]
  rw [hwrite, hblind]
  rfl

end writeConfig

/-! ### A profile written (R78, R88, R167) -/

/-- Eligibility depends on the profile, the attended list and the urgencies (R85). -/
theorem State.eligible_congr {s t : State} {c : Link} (hp : t.profile c = s.profile c)
    (ha : (t.crew c).attended = (s.crew c).attended) (hu : t.urgencyOf = s.urgencyOf) : t.eligible c = s.eligible c := by
  funext z
  rw [State.eligible, State.eligible, State.threshold, State.threshold, hp, ha, hu]

/-- A profile written: the offer step of an attached crew, and nothing else of the crews (R78). -/
theorem profileWritten_eq (c : Link) (s : State) : profileWritten c s = s.setCrew c { s.crew c with
    offer := if s.attached c = true then s.offerAfter c else (s.crew c).offer } := by
  unfold profileWritten
  split
  · exact offerStep_eq c s
  · exact (s.setCrew_crew c).symm

theorem State.offerAfter_of_out {s : State} {c : Link} {z e : Nat} (h : (s.crew c).offer = .out z e) :
    s.offerAfter c = (s.crew c).offer := by
  rw [State.offerAfter, h]

/-- An offer that is not OUT is made anew (R88). -/
theorem State.offerAfter_of_not_out {s : State} {c : Link} (h : ∀ z e, (s.crew c).offer ≠ .out z e) :
    s.offerAfter c = if (s.profile c).delivery = .push ∧ (s.crew c).attended.length < 8 then
      (match s.topEligible c with
        | some z => .due z
        | none => .none) else .none := by
  unfold State.offerAfter
  split
  · exact absurd ‹_› (h _ _)
  · rfl

/-- The tables with one crew's profile replaced (R167). -/
def Retained.withProfile (r : Retained) (c : Link) (p : Profile) : Retained := { r with profiles := r.profiles.set c p }

theorem State.profile_withProfile (s : State) (c d : Link) (p : Profile) :
    (setTables (s.tables.withProfile c p) s).profile d = if d = c then p else s.profile d := PerLink.get_set ..

theorem writeProfile_badIndex {n : Nat} (h : n = 0 ∨ 4 < n) (p : Profile) (s : State) :
    writeProfile n p s = (.badIndex, s) := by
  rw [writeProfile, linkOfNat_eq_none h]

theorem writeProfile_ok {n : Nat} {c : Link} (h : linkOfNat n = some c) (p : Profile) (s : State) :
    writeProfile n p s = (.ok, profileWritten c (setTables (s.tables.withProfile c p) s)) := by
  rw [writeProfile, h]
  rfl

/-- A TABLE_WRITE to a crew profile or to the configuration is judged by its entry (R158 test 6). -/
theorem parseMgmt_profile (h l : Byte) (entry : List Byte) : parseMgmt opTableWrite (tCrewProfile :: h :: l :: entry) =
    Parsed.ofOption ((readProfile entry).map (.writeProfile (num16 h l))) := rfl

theorem parseMgmt_config (h l : Byte) (entry : List Byte) : parseMgmt opTableWrite (tConfiguration :: h :: l :: entry) =
    Parsed.ofOption ((readConfig entry).map (.writeConfig (num16 h l))) := rfl

/-- The crews after a profile has been written: the offer of its own crew alone has moved (R78, R88). -/
theorem crew_profileWritten (c d : Link) (s : State) : (profileWritten c s).crew d =
    if d = c then { s.crew c with offer := if s.attached c = true then s.offerAfter c else (s.crew c).offer }
    else s.crew d := by
  rw [profileWritten_eq, State.crew_setCrew]

theorem crewsOnly_profileWritten (c : Link) (s : State) : CrewsOnly s (profileWritten c s) := by
  rw [profileWritten_eq]
  rfl

section profile
variable {s t : State} {c : Link} {p : Profile} {src : Byte} {id : Word16}
  (harb : ArbitersOnly (reply src id .ok [] (profileWritten c (setTables (s.tables.withProfile c p) s))) t)
include harb

theorem ArbitersOnly.profile_written (d : Link) : t.profile d = if d = c then p else s.profile d := by
  rw [← State.profile_withProfile, State.profile, harb.tables, reply_tables, profileWritten_tables]
  rfl

theorem ArbitersOnly.crew_written (d : Link) : t.crew d =
    { s.crew d with offer := (t.crew d).offer, flight := (t.crew d).flight } := by
  have hcrew := harb.crew d
  rw [State.crew_of_nr (reply_nr ..) d, crew_profileWritten] at hcrew
  rw [hcrew]
  split
  · subst_vars
    rfl
  · rfl

theorem ArbitersOnly.offer_written (d : Link) : (t.crew d).offer = if d = c ∧ s.attached c = true then
    (setTables (s.tables.withProfile c p) s).offerAfter c else (s.crew d).offer := by
  rw [harb.offer d, State.crew_of_nr (reply_nr ..) d, crew_profileWritten]
  by_cases hd : d = c
  · subst hd
    simp only [if_true, true_and]
    rfl
  · simp only [hd, if_false, false_and]
    rfl

/-- The offers that stand: of another crew, of a crew that is not attached, and one that is OUT (R78, R88). -/
theorem ArbitersOnly.offer_kept {d : Link} (h : d ≠ c ∨ s.attached c = false ∨ ∃ z e, (s.crew c).offer = .out z e) :
    (t.crew d).offer = (s.crew d).offer := by
  rw [harb.offer_written]
  split
  · rename_i hd
    obtain ⟨rfl, ha⟩ := hd
    obtain ⟨z, e, hout⟩ := (h.resolve_left (· rfl)).resolve_left (by simp [ha])
    exact State.offerAfter_of_out (s := setTables (s.tables.withProfile d p) s) hout
  · rfl

/-- The offer that an attached crew then has, when it was not OUT: the top eligible zone under the new profile. -/
theorem ArbitersOnly.offer_made (ha : s.attached c = true) (hout : ∀ z e, (s.crew c).offer ≠ .out z e) :
    (t.crew c).offer = if p.delivery = .push ∧ (s.crew c).attended.length < 8 then
      (match (s.rank c).find? (t.eligible c) with
        | some z => .due z
        | none => .none) else .none := by
  have hprofile : (setTables (s.tables.withProfile c p) s).profile c = p := by rw [State.profile_withProfile, if_pos rfl]
  have hrank : (setTables (s.tables.withProfile c p) s).rank c = s.rank c :=
    congrArg (fun place => (s.crew c).pending.foldl place [])
      (State.rankPlace_congr (s := s) (t := setTables (s.tables.withProfile c p) s) rfl _)
  have heligible : (setTables (s.tables.withProfile c p) s).eligible c = t.eligible c := by
    refine State.eligible_congr ?_ ?_ (funext fun z => ?_)
    · rw [hprofile, harb.profile_written, if_pos rfl]
    · rw [harb.crew_written]
      rfl
    · have hzone : t.zone z = (setTables (s.tables.withProfile c p) s).zone z :=
        (harb.zone z).trans ((crewsOnly_profileWritten c _).zone z)
      rw [State.urgencyOf, State.urgencyOf, hzone]
  rw [harb.offer_written, if_pos ⟨rfl, ha⟩,
    State.offerAfter_of_not_out (s := setTables (s.tables.withProfile c p) s) hout, State.topEligible, hprofile, hrank,
    heligible]
  rfl

/-- What the write leaves of the tables, Start Control and the Trunk Interface, and that it touches nothing else. -/
theorem ArbitersOnly.frame_written : t.tables = s.tables.withProfile c p ∧
    t.sc = { s.sc with markCheck := t.tables.check } ∧ t.ti = (reply src id .ok [] s).ti ∧
    ArbitersOnly { s with ti := t.ti, tables := t.tables, sc := t.sc, nr := t.nr } t := by
  have hcrews := crewsOnly_profileWritten c (setTables (s.tables.withProfile c p) s)
  have htables : t.tables = s.tables.withProfile c p := by
    rw [harb.tables, reply_tables, hcrews]
    rfl
  have hsc : t.sc = { s.sc with markCheck := (s.tables.withProfile c p).check } := by
    rw [harb.sc, reply_sc, hcrews]
    rfl
  have hti : t.ti = (reply src id .ok [] s).ti :=
    harb.ti.trans (reply_ti_of_own (by rw [hcrews]; rfl) (by rw [hcrews]; rfl) ..)
  refine ⟨htables, htables ▸ hsc, hti, ?_⟩
  have hframe := harb.withNr
  rw [htables, hsc, harb.ti]
  rw [hcrews] at hframe ⊢
  exact hframe

end profile

/-- A profile write is carried out whatever the lock (R161, R167). -/
theorem exec_profileWrite {s : State} {src : Byte} (hs : Serves s src) (id : Word16) (h l : Byte) (p : Profile) {u : State}
    {c : MgmtResult} (hw : writeProfile (num16 h l) p s = (c, u)) :
    ∃ t, exec (.tableWriteCrewProfile src id (h :: l :: p.bytes)) s = .next t ∧ ArbitersOnly (reply src id c [] u) t := by
  have hp : parseMgmt opTableWrite (tCrewProfile :: h :: l :: p.bytes) = .ok (.writeProfile (num16 h l) p) := by
    rw [parseMgmt_profile, readProfile_bytes]
    rfl
  exact exec_carried hs rfl hp rfl (by rw [carryOut, hw]; rfl)

/-- The request of a configuration that can be read. -/
theorem config_request {h l : Byte} {entry : List Byte} {k : ConfigTable} (hk : readConfig entry = some k) :
    parseMgmt opTableWrite (tConfiguration :: h :: l :: entry) = .ok (.writeConfig (num16 h l) k) := by
  rw [parseMgmt_config, hk]
  rfl

section config
variable {s : State} {src : Byte} (hs : Serves s src) (id : Word16) {h l : Byte} (hlock : s.lockHolds = false)
include hs hlock

/-- A configuration write that can be read, carried out while no zone holds the lock. -/
theorem exec_configWrite {entry : List Byte} {k : ConfigTable} (hk : readConfig entry = some k) {u : State}
    (hw : writeConfig src id (num16 h l) k s = u) :
    ∃ t, exec (.tableWriteConfiguration src id (h :: l :: entry)) s = .next t ∧ ArbitersOnly u t :=
  exec_carried hs rfl (config_request hk) (by simp [hlock]) hw

/-- An accepted configuration write with its reply, the own node's old address kept when it changes (R169, R170). -/
theorem exec_configWrite_accepted (hi : num16 h l = 0) {k : ConfigTable} (hr : k.inRange = true)
    (hd : k.nodesDiffer = true) :
    ∃ t, exec (.tableWriteConfiguration src id (h :: l :: k.bytes)) s = .next t ∧
      t.ti = { (reply src id .ok [] s).ti with
        former := if k.own = s.config.own then s.ti.former else some s.config.own } ∧ ConfigWritten k s t := by
  by_cases ho : k.own = s.config.own
  · have hw : carryOut src id (.writeConfig (num16 h l) k) s = reply src id .ok [] (setConfig k s) := by
      rw [carryOut, hi]
      exact writeConfig_sameOwn hr hd ho
    obtain ⟨t, ht, hti, hwritten⟩ := exec_configWritten_sameOwn
      (i := .tableWriteConfiguration src id (h :: l :: k.bytes)) hs rfl (config_request (readConfig_bytes hr))
      (by simp [hlock]) hw ho
    refine ⟨t, ht, ?_, hwritten⟩
    rw [if_pos ho]
    exact hti
  · have hw := writeConfig_otherOwn (s := s) (src := src) (id := id) hr hd ho
    rw [← hi] at hw
    obtain ⟨t, ht, harb⟩ := exec_configWrite hs id hlock (readConfig_bytes hr) hw
    refine ⟨t, ht, ?_, configWritten harb⟩
    rw [if_neg ho]
    exact harb.ti

end config

/-- Settles O43: a profile write is the offer step of its own crew under the new profile; a configuration write is the
configuration put in force, its reply given under the old own node. -/
theorem profileAndConfigWriteAnswered : Obligations.ProfileAndConfigWriteAnswered := by
  unfold Obligations.ProfileAndConfigWriteAnswered
  intro s src id h l hs
  refine ⟨fun c entry hc hbad => ?_, fun p => ⟨fun hi => ?_, fun c hc => ?_⟩, fun entry hlock hi hbad => ?_,
    fun k hlock => ⟨fun hi hr => ?_, fun hi hr hsame => ?_, fun hi hr hpanel hmaint => ?_⟩⟩
  · refine exec_unread hs (i := .tableWriteCrewProfile src id (h :: l :: entry)) rfl ?_
    exact (parseMgmt_profile h l entry).trans (by rw [readProfile_refused hbad]; rfl)
  · exact exec_profileWrite hs id h l p (writeProfile_badIndex hi p s)
  · obtain ⟨t, ht, harb⟩ := exec_profileWrite hs id h l p (writeProfile_ok hc p s)
    obtain ⟨htables, hsc, hti, hframe⟩ := harb.frame_written
    exact ⟨t, ht, harb.profile_written, by rw [htables]; rfl, hsc, hti, harb.crew_written, fun d => harb.offer_kept,
      harb.offer_made, hframe⟩
  · cases hread : readConfig entry with
    | none =>
      refine exec_unread hs (i := .tableWriteConfiguration src id (h :: l :: entry)) rfl ?_
      exact (parseMgmt_config h l entry).trans (by rw [hread]; rfl)
    | some k =>
      refine exec_configWrite hs id hlock hread ?_
      rw [hi]
      exact writeConfig_outOfRange (readConfig_refused hbad hread)
  · exact exec_configWrite hs id hlock (readConfig_bytes hr) (writeConfig_badIndex hi)
  · have hd : k.nodesDiffer = false := by
      rw [Bool.eq_false_iff, ne_eq, k.nodesDiffer_iff]
      tauto
    refine exec_configWrite hs id hlock (readConfig_bytes hr) ?_
    rw [hi]
    exact writeConfig_sameNodes hr hd
  · obtain ⟨t, ht, hti, hw⟩ := exec_configWrite_accepted hs id hlock hi hr ((k.nodesDiffer_iff).2 ⟨hpanel, hmaint⟩)
    exact ⟨t, ht, hw.tables, hw.sc, hti, hw.zone, hw.urgency, hw.collections, hw.frame⟩

end Sys2Proof.Machine
end

section
/-! Every step keeps the retention check in agreement with the retained tables (R180, R181): no event but a start moves the
tables without the check, and a start decides by the check whether the tables stand. -/

namespace Sys2Proof.Machine

/-! ### What the invariant reads -/

/-- What the agreement is about: whether the controller runs, the start kind, the stored check and the tables. -/
def State.markSide (s : State) : Relay × StartKind × Word16 × Retained :=
  (s.ti.relay, s.sc.kind, s.sc.markCheck, s.tables)

theorem MarkInv.of_markSide {s t : State} (h : MarkInv s) (ht : t.markSide = s.markSide) : MarkInv t := by
  simp only [State.markSide, Prod.mk.injEq] at ht
  obtain ⟨hrelay, hkind, hcheck, htables⟩ := ht
  unfold MarkInv State.running at *
  rwa [hrelay, hkind, hcheck, htables]

/-- An event that keeps the agreement. -/
structure KeepsMark (s t : State) : Prop where
  keeps : MarkInv s → MarkInv t

namespace KeepsMark

theorem refl (s : State) : KeepsMark s s := ⟨id⟩

theorem trans {s t u : State} (h : KeepsMark s t) (g : KeepsMark t u) : KeepsMark s u := ⟨g.keeps ∘ h.keeps⟩

/-- Writes beside all that the agreement is about. -/
theorem of_markSide {s t : State} (h : t.markSide = s.markSide) : KeepsMark s t := ⟨fun hs => hs.of_markSide h⟩

/-- Whatever was before, a check that agrees with the tables agrees with them. -/
theorem of_check {s t : State} (h : t.sc.markCheck = t.tables.check) : KeepsMark s t := ⟨fun _ _ => h⟩

/-- The tables replaced, the check brought up to date with them (R180). -/
theorem setTables (r : Retained) (s : State) : KeepsMark s (setTables r s) := of_check rfl

theorem ite {s t : State} {c : Prop} [Decidable c] (h : KeepsMark s t) : KeepsMark s (if c then t else s) := by
  split
  · exact h
  · exact .refl s

theorem whenRunning {s : State} {f : State → State} (h : KeepsMark s (f s)) : KeepsMark s (whenRunning s f) := by
  unfold Machine.whenRunning
  exact h.ite

/-- Effects on the crews' side touch neither the tables nor Start Control nor the relay. -/
theorem of_crewSide {s t : State} (h : CrewSideOnly s t) : KeepsMark s t := of_markSide (by rw [h]; rfl)

theorem settle {s t : State} (h : KeepsMark s t) : KeepsMark s (settle t) :=
  h.trans (of_crewSide (arbitersOnly_settle t).crewSideOnly)

theorem reply {s t : State} (h : KeepsMark s t) (src : Byte) (id : Word16) (r : MgmtResult) (d : List Byte) :
    KeepsMark s (reply src id r d t) := h.trans (of_markSide rfl)

end KeepsMark

/-! ### Picture status and the trunk state (R16, R184 to R186) -/

theorem keepsMark_modPort (p : Port) (f : PortUnit → PortUnit) (s : State) : KeepsMark s (s.modPort p f) :=
  .of_markSide rfl

/-- The resync expiry and the count of resync timeouts written (R184 to R186). -/
theorem keepsMark_expiry (e : Option Nat) (n : Word16) (s : State) :
    KeepsMark s { s with sc := { s.sc with expiry := e, resyncTimeouts := n } } := .of_markSide rfl

theorem keepsMark_setStatus (st : PictureStatus) (s : State) : KeepsMark s (setStatus st s) :=
  .of_markSide (by rw [setStatus_eq]; rfl)

theorem keepsMark_callResync (s : State) : KeepsMark s (callResync s) := .of_markSide (by rw [callResync_eq]; rfl)

theorem keepsMark_resyncDone (s : State) : KeepsMark s (resyncDone s) :=
  .ite ((keepsMark_expiry none _ s).trans (keepsMark_setStatus .current _))

theorem keepsMark_resyncExpires (s : State) : KeepsMark s (resyncExpires s) :=
  (keepsMark_expiry none _ s).trans (keepsMark_setStatus .current _)

theorem keepsMark_setUp (p : Port) (up : Bool) (s : State) : KeepsMark s (setUp p up s) := by
  have told : KeepsMark s (systemDueAll (s.withUp p up)) := .of_markSide (by rw [systemDueAll_eq]; rfl)
  show KeepsMark s (trunkChanged s.trunkState (s.withUp p up).trunkState (s.withUp p up))
  unfold trunkChanged
  dsimp only
  split
  · exact .of_markSide rfl
  · split
    · exact (told.trans (keepsMark_expiry none _ _)).trans (keepsMark_setStatus .stale _)
    · split
      · exact told.trans (keepsMark_callResync _)
      · exact told

/-! ### Management requests (R24 to R28, R134, R157 to R178): each write of the tables goes through `setTables` -/

theorem keepsMark_mapInsert (e : MapEntry) (s : State) : KeepsMark s (mapInsert e s).2.2 := by
  unfold mapInsert
  split
  · exact .refl s
  · split
    · exact .refl s
    · split
      · exact .refl s
      · exact .setTables _ s

theorem keepsMark_mapDelete (n f : Nat) (s : State) : KeepsMark s (mapDelete n f s).2 := by
  unfold mapDelete
  split
  · exact .refl s
  · split
    · exact .setTables _ s
    · exact .refl s

theorem keepsMark_writeMap (i : Nat) (e : MapEntry) (s : State) : KeepsMark s (writeMap i e s).2 := by
  unfold writeMap
  dsimp only
  split
  · exact .refl s
  · split
    · exact .refl s
    · split
      · exact .refl s
      · exact .setTables _ s

theorem keepsMark_writeFallback (n z : Nat) (s : State) : KeepsMark s (writeFallback n z s).2 := by
  unfold writeFallback
  split
  · exact .refl s
  · split
    · exact .refl s
    · exact .setTables _ s

theorem keepsMark_writeZoneDef (z : Nat) (d : ZoneDef) (s : State) : KeepsMark s (writeZoneDef z d s).2 := by
  unfold writeZoneDef
  split
  · exact .refl s
  · split
    · exact .refl s
    · split
      · exact .refl s
      · exact .setTables _ s

theorem keepsMark_writeSheet (i : Nat) (x : SheetRec) (s : State) : KeepsMark s (writeSheet i x s).2 := by
  unfold writeSheet
  split
  · exact .setTables _ s
  · exact .refl s

/-- The Urgency Unit takes a new configuration without touching it (R73, R74). -/
theorem keepsMark_setConfig (t : ConfigTable) (s : State) : KeepsMark s (setConfig t s) :=
  (KeepsMark.setTables _ s).trans (.of_crewSide (pictureOnly_takeConfigChange _ _).crewSideOnly)

theorem keepsMark_writeBonus (cls b : Nat) (s : State) : KeepsMark s (writeBonus cls b s).2 := by
  unfold writeBonus
  split
  · exact .refl s
  · split
    · exact .refl s
    · exact keepsMark_setConfig _ s

theorem keepsMark_writeProfile (n : Nat) (p : Profile) (s : State) : KeepsMark s (writeProfile n p s).2 := by
  unfold writeProfile
  split
  · exact .refl s
  · exact (KeepsMark.setTables _ s).trans (.ite (.of_crewSide (crewSideOnly_offerStep _ _)))

theorem keepsMark_writeConfig (src : Byte) (id : Word16) (i : Nat) (t : ConfigTable) (s : State) :
    KeepsMark s (writeConfig src id i t s) := by
  have answered : ∀ c, KeepsMark s (reply src id c [] s) := fun c => (KeepsMark.refl s).reply _ _ c _
  unfold writeConfig
  split
  · exact answered _
  · split
    · exact answered _
    · split
      · exact answered _
      · split
        · exact (keepsMark_setConfig t s).reply _ _ _ _
        · exact ((answered _).trans (keepsMark_setConfig t _)).trans (.of_markSide rfl)

theorem keepsMark_carryOut (src : Byte) (id : Word16) (r : MgmtReq) (s : State) : KeepsMark s (carryOut src id r s) := by
  have answered : ∀ c d, KeepsMark s (reply src id c d s) := fun c d => (KeepsMark.refl s).reply _ _ c d
  have requested : ∀ op c w, KeepsMark s (readerRequest src id op c w s) := by
    intro op c w
    unfold readerRequest
    split
    · exact .of_markSide rfl
    · exact answered _ _
  have linked : ∀ {f : Link → State → State} {n : Nat}, (∀ c, CrewSideOnly s (f c s)) →
      KeepsMark s (linkCommand f src id n s) := by
    intro f n hf
    unfold linkCommand
    split
    · exact answered _ _
    · exact (KeepsMark.of_crewSide (hf _)).reply _ _ _ _
  cases r with
  | tableRead t i => exact answered _ _
  | writeMap i e => exact (keepsMark_writeMap i e s).reply _ _ _ _
  | writeFallback i z => exact (keepsMark_writeFallback i z s).reply _ _ _ _
  | writeZoneDef i d => exact (keepsMark_writeZoneDef i d s).reply _ _ _ _
  | writeBonus i b => exact (keepsMark_writeBonus i b s).reply _ _ _ _
  | writeSheet i x => exact (keepsMark_writeSheet i x s).reply _ _ _ _
  | writeProfile i p => exact (keepsMark_writeProfile i p s).reply _ _ _ _
  | writeConfig i t => exact keepsMark_writeConfig src id i t s
  | mapInsert e => exact (keepsMark_mapInsert e s).reply _ _ _ _
  | mapDelete n f => exact (keepsMark_mapDelete n f s).reply _ _ _ _
  | mapClear => exact (KeepsMark.setTables { s.tables with map := [] } s).reply _ _ _ _
  | planStage o bs =>
    have staged : KeepsMark s (planStage o bs s).2 := by
      unfold planStage
      split <;> exact .of_markSide rfl
    exact staged.reply _ _ _ _
  | planCommit p => exact requested _ _ _
  | planRead p o n => exact requested _ _ _
  | zoneRead z =>
    simp only [carryOut]
    split <;> exact answered _ _
  | statusRead clear =>
    have cleared : KeepsMark s (if clear = true then clearCounters s else s) := .ite (.of_markSide rfl)
    exact cleared.reply _ _ _ _
  | pictureClear =>
    exact ((KeepsMark.of_crewSide (crewSideOnly_pictureClear s)).trans (keepsMark_callResync _)).reply _ _ _ _
  | setRotation n v =>
    simp only [carryOut, rotationCommand]
    split
    · exact answered _ _
    · split
      · exact answered _ _
      · exact (KeepsMark.of_crewSide (crewSideOnly_setRotation _ v s)).reply _ _ _ _
  | linkDisable n => exact linked fun c => crewSideOnly_disableLink c s
  | linkEnable n => exact linked fun c => crewSideOnly_enableLink c s
  | configSave => exact .of_markSide rfl

theorem keepsMark_takeMgmt (src : Byte) (id : Word16) (op : Byte) (args : List Byte) (s : State) :
    KeepsMark s (takeMgmt src id op args s) := by
  have refused : ∀ c, KeepsMark s (reply src id c [] s) := fun c => (KeepsMark.refl s).reply _ _ c _
  unfold takeMgmt
  split
  · exact refused _
  · split
    · exact refused _
    · split
      · exact refused _
      · exact refused _
      · exact refused _
      · split
        · exact refused _
        · exact keepsMark_carryOut src id _ s

theorem keepsMark_mgmtRow (src : Byte) (id : Word16) (op : Byte) (args : List Byte) (s : State) :
    KeepsMark s (mgmtRow src id op args s) := KeepsMark.whenRunning (keepsMark_takeMgmt src id op args s).settle

/-! ### The plan reader's completions (R154, R155) -/

theorem keepsMark_completeRequest (r : MgmtResult) (d : List Byte) (s : State) :
    KeepsMark s (completeRequest r d s) := by
  unfold completeRequest
  split
  · exact .refl s
  · exact (KeepsMark.of_markSide (s := s) (t := { s with mr := none }) rfl).reply _ _ _ _

theorem keepsMark_programDone (ok : Bool) (s : State) : KeepsMark s (programDone ok s) := by
  unfold programDone
  split
  · rename_i page bytes _
    have ended : KeepsMark s (finishProgram ok page bytes s).2 := by
      cases ok <;> exact .of_markSide rfl
    exact (ended.trans (keepsMark_completeRequest _ _ _)).settle
  · exact .refl s

theorem keepsMark_planReadDone (ok : Bool) (s : State) : KeepsMark s (planReadDone ok s) := by
  unfold planReadDone
  split
  · rename_i page offset count _
    have ended : KeepsMark s (finishRead ok page offset count s).2.2 := by
      cases ok <;> exact .of_markSide rfl
    exact (ended.trans (keepsMark_completeRequest _ _ _)).settle
  · exact .refl s

/-! ### Frames received (R1 to R12) -/

theorem keepsMark_pointEvent (e : PointEvent) (s : State) : KeepsMark s (pointEvent e s) := by
  unfold pointEvent
  dsimp only
  split
  · exact .of_markSide rfl
  · exact .of_crewSide (crewSideOnly_zoneEvent _ e s)

theorem keepsMark_hand (f : Frame) (s : State) : KeepsMark s (hand f s) := by
  unfold hand
  split
  · split
    · exact keepsMark_pointEvent _ s
    · exact .refl s
  · split
    · exact .of_crewSide (crewSideOnly_panelReset s)
    · split
      · split
        · exact .of_crewSide (crewSideOnly_zoneIsolate _ _ s)
        · exact .refl s
      · split
        · split
          · exact .of_markSide rfl
          · exact .refl s
        · split
          · exact keepsMark_resyncDone s
          · split
            · unfold takeMgmtPayload
              split
              · exact keepsMark_takeMgmt _ _ _ _ s
              · exact .refl s
            · exact .refl s

theorem keepsMark_handTests (p : Port) (f : Frame) (s : State) : KeepsMark s (handTests p f s) := by
  unfold handTests
  split
  · exact keepsMark_modPort p _ s
  · split
    · exact .refl s
    · exact (KeepsMark.of_markSide (s := s) (t := setSeq f s) rfl).trans (keepsMark_hand f _)

theorem keepsMark_dispatch (p : Port) (f : Frame) (s : State) : KeepsMark s (dispatch p f s) := by
  have repeated := keepsMark_modPort (otherPort p) (PortUnit.placeRepeat f) s
  unfold dispatch
  dsimp only
  split
  · exact .refl s
  · split
    · exact keepsMark_modPort p _ s
    · split
      · exact .ite (keepsMark_handTests p f s)
      · exact repeated.trans (.ite (keepsMark_handTests p f _))

theorem keepsMark_soundFrame (p : Port) (f : Frame) (s : State) : KeepsMark s (soundFrame p f s) :=
  KeepsMark.settle ((((keepsMark_setUp p true s).trans (keepsMark_modPort p _ _)).trans
    (keepsMark_dispatch p f _)).trans (keepsMark_modPort p _ _))

theorem keepsMark_trunkFrameDone (p : Port) (buf : List Byte) (reg : Word16) (s : State) :
    KeepsMark s (trunkFrameDone p buf reg s) := by
  have hunting := keepsMark_modPort p (fun u => { u with asm := .hunting }) s
  unfold trunkFrameDone
  dsimp only
  split
  · split
    · exact hunting.trans (keepsMark_soundFrame p _ _)
    · exact hunting
  · exact hunting.trans (keepsMark_modPort p _ _)

theorem keepsMark_trunkByte (p : Port) (b : Byte) (s : State) : KeepsMark s (trunkByte p b s) := by
  unfold trunkByte
  dsimp only
  split
  · exact keepsMark_modPort p _ s
  · split
    · exact keepsMark_trunkFrameDone p _ _ s
    · exact keepsMark_modPort p _ s

theorem keepsMark_trunkChar (p : Port) (ch : LineChar) (s : State) : KeepsMark s (trunkChar p ch s) := by
  have heard := keepsMark_modPort p (fun u => { u with receiver := receiverAfter ch }) s
  unfold trunkChar
  dsimp only
  split
  · exact .refl s
  · cases (s.port p).asm.take ch with
    | ignored => exact heard
    | byte b => exact heard.trans (keepsMark_trunkByte p b _)
    | opened | reopened | escaped | bad => exact heard.trans (keepsMark_modPort p _ _)

/-! ### Power and start (R17, R179 to R183) -/

/-- A start is found warm only where the check agrees; found cold, it is no start of which the agreement is asked before
it completes (R181). -/
theorem keepsMark_beginStart (s : State) : KeepsMark s (beginStart s) := by
  have hclosed : (beginStart s).running = false := by
    rw [State.running, beginStart_relay]
    rfl
  obtain ⟨hwarm, -, htables, hcheck⟩ | ⟨-, hkind, -⟩ := beginStart_kind s
  · refine .of_check ?_
    rw [hcheck, htables, ((s.startIsWarm_iff).1 hwarm).2]
  · refine ⟨fun _ hasked => ?_⟩
    rw [hclosed, hkind] at hasked
    exact absurd hasked (by decide)

/-- A warm start keeps tables and check; a cold one stores the check of the tables it loads (R181, R182). -/
theorem keepsMark_finishStart (ok : Bool) (s : State) : KeepsMark s (finishStart ok s) := by
  obtain ⟨-, -, hcheck⟩ := finishStart_sc ok s
  refine ⟨fun hs _ => ?_⟩
  rw [hcheck, finishStart_tables]
  cases hk : s.sc.kind with
  | warm =>
    rw [settleTables_warm hk]
    exact hs (.inr hk)
  | cold => rw [settleTables_cold hk]

/-- A loss of main power closes the relay and leaves the tables, the check and the start kind (R17, R180). -/
theorem keepsMark_losePower (s : State) : KeepsMark s (losePower s) := by
  have htables : (losePower s).tables = s.tables := loseWorking_tables s
  have hclosed : (losePower s).running = false := rfl
  refine ⟨fun hs hasked => ?_⟩
  rw [hclosed, losePower_sc] at hasked
  rw [htables, losePower_sc]
  exact hs (.inr (hasked.resolve_left nofun))

/-! ### Every command -/

/-- What a command answers keeps the agreement. -/
theorem keepsMark_exec (i : Instr) (s : State) : ∃ t, exec i s = .next t ∧ KeepsMark s t := by
  have crews : ∀ {f : State → State}, CrewSideOnly s (f s) → KeepsMark s (whenRunning s f) :=
    fun h => .whenRunning (.of_crewSide h)
  have crewsWhen : ∀ {c : Prop} [Decidable c] {t : State}, CrewSideOnly s t → KeepsMark s (if c then settle t else s) :=
    fun h => .ite (KeepsMark.of_crewSide h).settle
  cases i with
  | trunkFrameComplete p b | trunkCharacterReceived p b => exact ⟨_, rfl, .whenRunning (keepsMark_trunkChar p _ s)⟩
  | trunkFrameDiscard p ch => exact ⟨_, rfl, .whenRunning (keepsMark_trunkChar p ch s)⟩
  | trunkPartialFrameTimeout p => exact ⟨_, rfl, .whenRunning (.ite (keepsMark_modPort p _ s))⟩
  | breakTimerExpiry p | silenceTimerExpiry p =>
    exact ⟨_, rfl, .whenRunning (.ite (keepsMark_setUp p false s).settle)⟩
  | stripHoldExpiry | uptimeTick => exact ⟨_, rfl, .whenRunning (.of_markSide rfl)⟩
  | trunkTransmitComplete p => exact ⟨_, rfl, .whenRunning (keepsMark_modPort p _ s)⟩
  | trunkReceiveLevelChange p l => exact ⟨_, rfl, keepsMark_modPort p _ s⟩
  | verifyWindowExpiry z => exact ⟨_, rfl, .whenRunning (crewsWhen (crewSideOnly_commitZone z _ s))⟩
  | ageStep z => exact ⟨_, rfl, .whenRunning (crewsWhen
      (CrewSideOnly.trans (by rfl) (pictureOnly_recomputeAndReport _ _).crewSideOnly))⟩
  | offerTimeout c => exact ⟨_, rfl, .whenRunning (crewsWhen
      (CrewSideOnly.trans (by rfl) (crewSideOnly_offerStep c _)))⟩
  | resyncTimeout => exact ⟨_, rfl, .whenRunning (.ite (keepsMark_resyncExpires s).settle)⟩
  | presenceChange c high | terminalReadyChange c high => exact ⟨_, rfl, .of_markSide rfl⟩
  | linkAttach a => exact ⟨_, rfl, .whenRunning (crewsWhen (crewSideOnly_attachLink a.link a.rx s))⟩
  | linkDetach c => exact ⟨_, rfl, .whenRunning (.ite (.of_crewSide (crewSideOnly_leaveAttached c _ s)))⟩
  | crewFrameComplete c b | receiveOverrun c b => exact ⟨_, rfl, crews (crewSideOnly_crewChar c _ s)⟩
  | crewFrameDiscard c ch => exact ⟨_, rfl, crews (crewSideOnly_crewChar c ch s)⟩
  | crewCharacterReceived c b =>
    exact ⟨_, rfl, crews ((crewSideOnly_rxBack c b.back s).trans (crewSideOnly_crewChar c _ _))⟩
  | crewPartialFrameTimeout c => exact ⟨_, rfl, .whenRunning (.ite (.of_markSide rfl))⟩
  | crewCharacterTaken c => exact ⟨_, rfl, crews (crewSideOnly_takeChar c s)⟩
  | crewFrameWritten c => exact ⟨_, rfl, crews (crewSideOnly_frameWritten c s)⟩
  | accept c | decline c | release c | sectors c | sheetReqById c | sheetReqByZone c | sheetStopNamed c | releaseTop c
  | poll c | list c | sheetStopAll c | unknownRequest c => exact ⟨_, rfl, .of_crewSide (crewSideOnly_crewRow c _ _ s)⟩
  | fillReadComplete => exact ⟨_, rfl, .whenRunning (crewsWhen (crewSideOnly_fillComplete s))⟩
  | fillReadFail => exact ⟨_, rfl, .whenRunning (crewsWhen (crewSideOnly_fillFail s))⟩
  | programComplete ok => exact ⟨_, rfl, .whenRunning (keepsMark_programDone ok s)⟩
  | planReadComplete ok => exact ⟨_, rfl, .whenRunning (keepsMark_planReadDone ok s)⟩
  | start => exact ⟨_, rfl, keepsMark_beginStart s⟩
  | startComplete ok => exact ⟨_, rfl, .ite (keepsMark_finishStart ok s)⟩
  | holdoverLow => exact ⟨_, rfl, by split <;> exact .of_markSide rfl⟩
  | mainPowerLoss => exact ⟨_, rfl, .ite (keepsMark_losePower s)⟩
  | _ => exact ⟨_, exec_of_requestOf rfl s, keepsMark_mgmtRow _ _ _ _ s⟩

/-- Settles O54: the waiting command keeps the agreement, and with none waiting nothing changes. -/
theorem stepKeepsMark : Obligations.StepKeepsMark := by
  unfold Obligations.StepKeepsMark
  intro s t h ht
  unfold step at ht
  split at ht
  · obtain rfl := Host.Outcome.next.inj ht
    exact h
  · rename_i c rest _
    obtain ⟨u, hu, hkeeps⟩ := keepsMark_exec c (s.withPending rest)
    obtain rfl := Host.Outcome.next.inj (hu.symm.trans ht)
    exact hkeeps.keeps (h.of_markSide rfl)

end Sys2Proof.Machine
end

section
/-! Uptime and panel time (R187, R188), and the two ends of a resync (R185), each with the panel's frame that brings it
(R12). -/

namespace Sys2Proof.Machine

/-! ### The panel's frames handed (R12) -/

theorem payloadFits_timeMark {payload : List Byte} {w : Word32} (h : readTimeMark payload = some w) :
    payloadFits kTimeMark payload = true := by
  simp [payloadFits, h, kPointEvent, kZoneIsolate, kTimeMark]

theorem hand_timeMark {f : Frame} (hk : f.kind = kTimeMark) {w : Word32} (hw : readTimeMark f.payload = some w)
    (s : State) : hand f s = timeMark w s := by
  simp [hand, hk, hw, kPointEvent, kPanelReset, kZoneIsolate, kTimeMark]

theorem hand_resyncDone {f : Frame} (hk : f.kind = kResyncDone) (s : State) : hand f s = resyncDone s := by
  simp [hand, hk, kPointEvent, kPanelReset, kZoneIsolate, kTimeMark, kResyncDone]

/-- A TIME_MARK of the panel node that arrives new is passed on and taken (R188). -/
theorem timeMark_arrives {s : State} {p : Port} {b : Byte} {f : Frame} (h : ArrivesNew s p b f) (hk : f.kind = kTimeMark)
    {w : Word32} (hw : readTimeMark f.payload = some w) :
    ∃ u t, exec (.trunkFrameComplete p b) s = .next t ∧ PassedOn s u p f ∧ ArbitersOnly (timeMark w u) t := by
  have hfit : payloadFits f.kind f.payload = true := by rw [hk, payloadFits_timeMark hw]
  refine ⟨passOn p f s, _, exec_arrivesNew h (by rw [hk]; rfl) hfit, passedOn_passOn p f s, ?_⟩
  rw [hand_timeMark hk hw]
  exact arbitersOnly_settle _

/-- A RESYNC_DONE of the panel node that arrives new is passed on and taken (R185). -/
theorem resyncDone_arrives {s : State} {p : Port} {b : Byte} {f : Frame} (h : ArrivesNew s p b f)
    (hk : f.kind = kResyncDone) (hempty : f.payload = []) :
    ∃ u t, exec (.trunkFrameComplete p b) s = .next t ∧ PassedOn s u p f ∧ ArbitersOnly (resyncDone u) t := by
  have hfit : payloadFits f.kind f.payload = true := by
    rw [hk, hempty]
    rfl
  refine ⟨passOn p f s, _, exec_arrivesNew h (by rw [hk]; rfl) hfit, passedOn_passOn p f s, ?_⟩
  rw [hand_resyncDone hk]
  exact arbitersOnly_settle _

/-! ### Uptime and panel time (R187, R188) -/

/-- Short of its highest value uptime rises by one, and nothing else moves (log 8). -/
theorem exec_uptimeTick {s : State} (hrun : s.running = true) (hmax : s.uptime < 4294967295) :
    exec .uptimeTick s = .next { s with tb := { s.tb with uptime := s.uptime + 1 } } := by
  have htick : min Config.uptimeMax (s.tb.uptime + 1) = s.uptime + 1 := Nat.min_eq_right hmax
  simp [exec, execUptimeTick, hrun, tick, htick]

/-- At the uptime of its TIME_MARK panel time is the panel's (R188). -/
theorem panelTimeOf_timeMark (w : Word32) (s : State) : (timeMark w s).panelTimeOf s.uptime = w := by
  have hoffset : BitVec.ofNat 32 s.uptime + (w - BitVec.ofNat 32 s.tb.uptime) = w := add_sub_cancel ..
  simpa [State.panelTimeOf, timeMark] using hoffset

/-! ### A resync ends (R185) -/

/-- Start Control once a resync has ended. -/
theorem resync_ends_sc (x : Control) (s : State) :
    (setStatus .current { s with sc := x }).sc = { x with status := .current } := setStatus_sc ..

/-- The end of a resync touches Start Control and the crews alone. -/
theorem resync_ends_eq (x : Control) (s : State) :
    setStatus .current { s with sc := x } = { s with
      sc := (setStatus .current { s with sc := x }).sc, nr := (setStatus .current { s with sc := x }).nr } := by
  rw [setStatus_eq]

/-- The end of a resync is a change of the picture status, of which every attached crew is owed a notice (R104). -/
theorem systemOwed_resync_ends {x : Control} (h : x.status = .resyncing) (s : State) :
    SystemOwed s (setStatus .current { s with sc := x }) := by
  have hchange : x.status ≠ .current := by
    rw [h]
    nofun
  unfold setStatus
  dsimp only
  rw [if_neg hchange]
  exact systemOwed_systemDueAll { s with sc := { x with status := .current } }

theorem SystemOwed.systemDue {s t : State} (h : SystemOwed s t) (c : Link) :
    (t.crew c).systemDue = ((s.crew c).systemDue || s.attached c) := by rw [h c]

theorem resyncDone_resyncing {s : State} (h : s.sc.status = .resyncing) :
    resyncDone s = setStatus .current { s with sc := { s.sc with expiry := none } } := if_pos h

theorem exec_resyncTimeout {s : State} {u : Nat} (hrun : s.running = true) (he : s.sc.expiry = some u)
    (hu : u ≤ s.uptime) : exec .resyncTimeout s = .next (settle (resyncExpires s)) := by
  simp [exec, execResyncTimeout, hrun, State.resyncDue, he, hu]

/-- Settles O49: the panel's two frames, the tick and the offset, then the two ends of a resync. -/
theorem timeAndResyncKept : Obligations.TimeAndResyncKept := by
  unfold Obligations.TimeAndResyncKept
  refine ⟨fun s p b f h => ⟨fun w hk hw => timeMark_arrives h hk hw, fun hk he => resyncDone_arrives h hk he⟩,
    fun s hrun => ⟨exec_uptimeTick hrun, fun w => ⟨rfl, panelTimeOf_timeMark w s, rfl, rfl⟩, fun hk u => ?_⟩,
    fun s u hrun => ⟨fun he hu hst => ?_, fun hst => ?_, fun hst => if_neg hst⟩⟩
  · simp [State.panelTimeOf, hk]
  · have howed : SystemOwed s (resyncExpires s) := systemOwed_resync_ends (by exact hst) s
    have hends : { resyncExpires s with nr := (settle (resyncExpires s)).nr } =
        { s with sc := (resyncExpires s).sc, nr := (settle (resyncExpires s)).nr } :=
      congrArg (fun t : State => { t with nr := (settle (resyncExpires s)).nr }) (resync_ends_eq _ s)
    refine ⟨_, exec_resyncTimeout hrun he hu, ?_, howed.settle, ?_⟩
    · rw [settle_sc]
      exact resync_ends_sc _ s
    · rw [settle_sc, ← hends]
      exact (arbitersOnly_settle _).withNr
  · rw [resyncDone_resyncing hst]
    exact ⟨resync_ends_sc _ s, (systemOwed_resync_ends (by exact hst) s).systemDue, resync_ends_eq _ s⟩

end Sys2Proof.Machine
end

section
/-! The model's start (log 12) meets every invariant that the steps keep (R183). -/

namespace Sys2Proof.Machine

/-! ### What stands at the start -/

theorem State.port_reset (p : Port) : State.reset.port p = PortUnit.reset := by cases p <;> rfl

theorem State.link_reset (c : Link) : State.reset.link c = LinkUnit.reset := by cases c <;> rfl

theorem State.crew_reset (c : Link) : State.reset.crew c = Crew.empty := by cases c <;> rfl

theorem State.slot_reset (c : Link) : State.reset.slot c = SheetSlot.empty := by cases c <;> rfl

theorem State.zone_reset (z : Nat) : State.reset.zone z = ZoneLive.start := rfl

/-! ### The tables and the mark -/

theorem tablesInv_reset : TablesInv State.reset := (tablesInv_iff State.reset).2 Retained.cold_inRange

theorem markInv_reset : MarkInv State.reset := fun _ => rfl

/-! ### The ports, the links and the sheet queues -/

/-- The RESYNC_CALL stands in the own-frame queue and is being sent (R184). -/
theorem portsInv_reset : PortsInv State.reset := by
  intro p
  rw [State.port_reset]
  exact ⟨by decide, by decide, nofun, nofun, fun _ => nofun⟩

/-- A link is DETACHED and holds nothing. -/
theorem linksInv_reset : LinksInv State.reset := by
  intro c
  rw [State.link_reset, State.crew_reset, State.slot_reset]
  decide

theorem sheetQueueInv_reset : SheetQueueInv State.reset := by
  intro c
  rw [State.slot_reset]
  exact ⟨by decide, .nil, nofun, fun h => absurd rfl h⟩

/-! ### The crews and the picture -/

theorem collectionsInv_reset : CollectionsInv State.reset := by
  intro c
  rw [State.crew_reset]
  exact ⟨by decide, .nil, nofun, nofun⟩

/-- No crew attends a zone and no zone is attended. -/
theorem crewsInv_reset : CrewsInv State.reset := by
  intro c z
  have hattended : ZoneLive.start.attendedBy.get c = false := by cases c <;> rfl
  rw [State.crew_reset, State.zone_reset, hattended]
  exact ⟨⟨nofun, nofun⟩, nofun, nofun, nofun⟩

theorem pictureInv_reset : PictureInv State.reset := ⟨Tab.wf_nil _, fun z => State.zone_reset z ▸ zoneInv_start⟩

/-- No zone is listed and no floor counts one. -/
theorem floorInv_reset : FloorInv State.reset := fun _ _ _ => rfl

theorem canonInv_reset : CanonInv State.reset := by
  have working : WorkingCanon State.reset :=
    ⟨Tab.wf_nil _, Tab.wf_nil _, Tab.wf_nil _, Tab.wf_nil _, Tab.wf_nil _, fun c => by
      rw [State.crew_reset]
      exact Crew.Canonical.empty 0⟩
  exact (canonInv_iff State.reset).2 ⟨⟨Tab.wf_nil _, Tab.wf_nil _, Tab.wf_nil _⟩, Tab.wf_nil _, working⟩

/-- Settles O52: each invariant at the start. -/
theorem resetMeetsInvariants : Obligations.ResetMeetsInvariants :=
  ⟨tablesInv_reset, markInv_reset, portsInv_reset, linksInv_reset, collectionsInv_reset, crewsInv_reset,
    sheetQueueInv_reset, pictureInv_reset, floorInv_reset, canonInv_reset⟩

end Sys2Proof.Machine
end

section
/-! The queue of waiting commands is moved by the step alone: a step runs the command at the front with the rest, and every
command, in every state, answers a next state with the queue it found (00 Conventions, "Refusal and degradation"). -/

namespace Sys2Proof.Machine

/-! ### The crews' side and the shape of a command -/

theorem CrewSideOnly.pending {s t : State} (h : CrewSideOnly s t) : t.pending = s.pending := by rw [h]

theorem pending_ite {s t : State} {c : Prop} [Decidable c] (h : t.pending = s.pending) :
    (if c then t else s).pending = s.pending := by
  split
  · exact h
  · rfl

theorem pending_whenRunning {s : State} {f : State → State} (h : (f s).pending = s.pending) :
    (whenRunning s f).pending = s.pending := pending_ite h

theorem pending_settle {s t : State} (h : t.pending = s.pending) : (settle t).pending = s.pending :=
  (settle_pending t).trans h

/-! ### Picture status and the trunk state (R15, R16, R185, R186) -/

@[simp] theorem trunkChanged_pending (old new : TrunkState) (s : State) :
    (trunkChanged old new s).pending = s.pending := by
  unfold trunkChanged
  dsimp only
  split
  · rfl
  · split
    · simp
    · split <;> simp

@[simp] theorem setUp_pending (p : Port) (up : Bool) (s : State) : (setUp p up s).pending = s.pending := by simp [setUp]

@[simp] theorem resyncDone_pending (s : State) : (resyncDone s).pending = s.pending := by
  unfold resyncDone
  exact pending_ite (by simp)

@[simp] theorem resyncExpires_pending (s : State) : (resyncExpires s).pending = s.pending := by simp [resyncExpires]

/-! ### Management requests (R24 to R28, R134, R152, R157 to R178) -/

@[simp] theorem mapInsert_pending (e : MapEntry) (s : State) : (mapInsert e s).2.2.pending = s.pending := by
  unfold mapInsert
  split_ifs <;> rfl

@[simp] theorem mapDelete_pending (n f : Nat) (s : State) : (mapDelete n f s).2.pending = s.pending := by
  unfold mapDelete
  split_ifs <;> rfl

@[simp] theorem writeMap_pending (i : Nat) (e : MapEntry) (s : State) : (writeMap i e s).2.pending = s.pending := by
  unfold writeMap
  dsimp only
  split_ifs <;> rfl

@[simp] theorem writeFallback_pending (n z : Nat) (s : State) : (writeFallback n z s).2.pending = s.pending := by
  unfold writeFallback
  split_ifs <;> rfl

@[simp] theorem writeZoneDef_pending (z : Nat) (d : ZoneDef) (s : State) : (writeZoneDef z d s).2.pending = s.pending := by
  unfold writeZoneDef
  split_ifs <;> rfl

@[simp] theorem writeSheet_pending (i : Nat) (r : SheetRec) (s : State) : (writeSheet i r s).2.pending = s.pending := by
  unfold writeSheet
  split <;> rfl

/-- The Urgency Unit takes a new configuration on the crews' side (R73, R74). -/
@[simp] theorem setConfig_pending (t : ConfigTable) (s : State) : (setConfig t s).pending = s.pending :=
  (pictureOnly_takeConfigChange _ _).crewSideOnly.pending

@[simp] theorem writeBonus_pending (cls b : Nat) (s : State) : (writeBonus cls b s).2.pending = s.pending := by
  unfold writeBonus
  split
  · rfl
  · split
    · rfl
    · exact setConfig_pending _ s

/-- The offer step that a profile write brings stays on the crews' side (R78). -/
@[simp] theorem writeProfile_pending (n : Nat) (p : Profile) (s : State) : (writeProfile n p s).2.pending = s.pending := by
  unfold writeProfile
  split
  · rfl
  · exact pending_ite (crewSideOnly_offerStep _ _).pending

@[simp] theorem writeConfig_pending (src : Byte) (id : Word16) (i : Nat) (t : ConfigTable) (s : State) :
    (writeConfig src id i t s).pending = s.pending := by
  unfold writeConfig
  split
  · simp
  · split
    · simp
    · split
      · simp
      · split <;> simp

@[simp] theorem planStage_pending (o : Nat) (bs : List Byte) (s : State) : (planStage o bs s).2.pending = s.pending := by
  unfold planStage
  split <;> rfl

@[simp] theorem readerRequest_pending (src : Byte) (id : Word16) (op : Byte) (r : MgmtResult) (w : WaitingOp) (s : State) :
    (readerRequest src id op r w s).pending = s.pending := by
  unfold readerRequest
  split
  · rfl
  · simp

theorem linkCommand_pending {f : Link → State → State} {s : State} (hf : ∀ c, CrewSideOnly s (f c s)) (src : Byte)
    (id : Word16) (n : Nat) : (linkCommand f src id n s).pending = s.pending := by
  unfold linkCommand
  split
  · simp
  · rw [reply_pending, (hf _).pending]

@[simp] theorem rotationCommand_pending (src : Byte) (id : Word16) (n v : Nat) (s : State) :
    (rotationCommand src id n v s).pending = s.pending := by
  unfold rotationCommand
  split
  · simp
  · split
    · simp
    · rw [reply_pending, (crewSideOnly_setRotation _ v s).pending]

@[simp] theorem statusRead_pending (src : Byte) (id : Word16) (clear : Bool) (s : State) :
    (statusRead src id clear s).pending = s.pending := by
  cases clear <;> simp [statusRead]

@[simp] theorem clearPicture_pending (src : Byte) (id : Word16) (s : State) :
    (clearPicture src id s).pending = s.pending := by
  rw [clearPicture, reply_pending, callResync_pending, (crewSideOnly_pictureClear s).pending]

@[simp] theorem answer_pending (src : Byte) (id : Word16) (a : MgmtResult × State) :
    (answer src id a).pending = a.2.pending := reply_pending ..

/-- No management request touches the queue, whatever it asks. -/
@[simp] theorem carryOut_pending (src : Byte) (id : Word16) (r : MgmtReq) (s : State) :
    (carryOut src id r s).pending = s.pending := by
  cases r with
  | linkDisable n => exact linkCommand_pending (fun c => crewSideOnly_disableLink c s) src id n
  | linkEnable n => exact linkCommand_pending (fun c => crewSideOnly_enableLink c s) src id n
  | configSave => rfl
  | mapClear => exact reply_pending ..
  | zoneRead z =>
    simp only [carryOut]
    split <;> exact reply_pending ..
  | _ => simp [carryOut]

@[simp] theorem takeMgmt_pending (src : Byte) (id : Word16) (op : Byte) (args : List Byte) (s : State) :
    (takeMgmt src id op args s).pending = s.pending := by
  unfold takeMgmt
  split
  · simp
  · split
    · simp
    · split
      · simp
      · simp
      · simp
      · split <;> simp

theorem mgmtRow_pending (src : Byte) (id : Word16) (op : Byte) (args : List Byte) (s : State) :
    (mgmtRow src id op args s).pending = s.pending :=
  pending_whenRunning (pending_settle (takeMgmt_pending src id op args s))

/-! ### The plan reader's completions (R154, R155) -/

@[simp] theorem completeRequest_pending (r : MgmtResult) (d : List Byte) (s : State) :
    (completeRequest r d s).pending = s.pending := by
  unfold completeRequest
  split
  · rfl
  · simp

@[simp] theorem programDone_pending (ok : Bool) (s : State) : (programDone ok s).pending = s.pending := by
  unfold programDone
  split
  · cases ok <;> simp [finishProgram]
  · rfl

@[simp] theorem planReadDone_pending (ok : Bool) (s : State) : (planReadDone ok s).pending = s.pending := by
  unfold planReadDone
  split
  · cases ok <;> simp [finishRead]
  · rfl

/-! ### Frames received (R1 to R12) -/

@[simp] theorem pointEvent_pending (e : PointEvent) (s : State) : (pointEvent e s).pending = s.pending := by
  unfold pointEvent
  dsimp only
  split
  · rfl
  · exact (crewSideOnly_zoneEvent _ e s).pending

@[simp] theorem takeMgmtPayload_pending (src : Byte) (payload : List Byte) (s : State) :
    (takeMgmtPayload src payload s).pending = s.pending := by
  unfold takeMgmtPayload
  split
  · simp
  · rfl

/-- No frame kind touches the queue (R12). -/
@[simp] theorem hand_pending (f : Frame) (s : State) : (hand f s).pending = s.pending := by
  unfold hand
  split
  · split
    · exact pointEvent_pending _ s
    · rfl
  · split
    · exact (crewSideOnly_panelReset s).pending
    · split
      · split
        · exact (crewSideOnly_zoneIsolate _ _ s).pending
        · rfl
      · split
        · split <;> rfl
        · split
          · exact resyncDone_pending s
          · exact pending_ite (takeMgmtPayload_pending ..)

@[simp] theorem handTests_pending (p : Port) (f : Frame) (s : State) : (handTests p f s).pending = s.pending := by
  unfold handTests
  split
  · rfl
  · split
    · rfl
    · exact hand_pending f (setSeq f s)

@[simp] theorem dispatch_pending (p : Port) (f : Frame) (s : State) : (dispatch p f s).pending = s.pending := by
  unfold dispatch
  dsimp only
  split
  · rfl
  · split
    · rfl
    · split
      · exact pending_ite (handTests_pending p f s)
      · split
        · simp
        · rfl

@[simp] theorem soundFrame_pending (p : Port) (f : Frame) (s : State) : (soundFrame p f s).pending = s.pending := by
  simp [soundFrame]

@[simp] theorem trunkFrameDone_pending (p : Port) (buf : List Byte) (reg : Word16) (s : State) :
    (trunkFrameDone p buf reg s).pending = s.pending := by
  unfold trunkFrameDone
  dsimp only
  split
  · split
    · simp
    · rfl
  · rfl

@[simp] theorem trunkByte_pending (p : Port) (b : Byte) (s : State) : (trunkByte p b s).pending = s.pending := by
  unfold trunkByte
  dsimp only
  split
  · rfl
  · split
    · simp
    · rfl

@[simp] theorem trunkChar_pending (p : Port) (ch : LineChar) (s : State) : (trunkChar p ch s).pending = s.pending := by
  unfold trunkChar
  dsimp only
  split
  · rfl
  · cases (s.port p).asm.take ch with
    | byte b => exact trunkByte_pending p b _
    | ignored | opened | reopened | escaped | bad => rfl

/-! ### Power and start (R17, R179 to R183) -/

/-- The queue is no block's working state: a loss of it leaves what waits (log 2). -/
@[simp] theorem loseWorking_pending (s : State) : (loseWorking s).pending = s.pending := by
  show (cutProgram s).pending = s.pending
  unfold cutProgram
  split
  · simp
  · rfl

@[simp] theorem beginStart_pending (s : State) : (beginStart s).pending = s.pending := by
  rw [beginStart_eq]
  exact loseWorking_pending s

@[simp] theorem finishStart_pending (ok : Bool) (s : State) : (finishStart ok s).pending = s.pending := by
  have settled : (settleTables ok s).pending = s.pending := by
    unfold settleTables
    split <;> rfl
  exact (callResync_pending _).trans settled

/-! ### Every command -/

/-- Settles O1: with a command waiting, `step` takes its second arm (log 2). -/
theorem stepRunsFrontCommand : Obligations.StepRunsFrontCommand := by
  unfold Obligations.StepRunsFrontCommand
  intro c rest s hfront
  unfold step
  rw [hfront]

/-- Settles O2: no arm of `exec` refuses or faults, and none of the effects writes the queue. -/
theorem everyCommandGoesOn : Obligations.EveryCommandGoesOn := by
  unfold Obligations.EveryCommandGoesOn
  intro i s
  have crews : ∀ {f : State → State}, CrewSideOnly s (f s) → (whenRunning s f).pending = s.pending :=
    fun h => pending_whenRunning h.pending
  have crewsWhen : ∀ {c : Prop} [Decidable c] {t : State}, CrewSideOnly s t →
      (if c then settle t else s).pending = s.pending := fun h => pending_ite (pending_settle h.pending)
  cases i with
  | trunkFrameComplete p b | trunkCharacterReceived p b => exact ⟨_, rfl, pending_whenRunning (trunkChar_pending p _ s)⟩
  | trunkFrameDiscard p ch => exact ⟨_, rfl, pending_whenRunning (trunkChar_pending p ch s)⟩
  | trunkPartialFrameTimeout p => exact ⟨_, rfl, pending_whenRunning (pending_ite rfl)⟩
  | breakTimerExpiry p | silenceTimerExpiry p =>
    exact ⟨_, rfl, pending_whenRunning (pending_ite (pending_settle (setUp_pending p false s)))⟩
  | stripHoldExpiry | uptimeTick | trunkTransmitComplete p => exact ⟨_, rfl, pending_whenRunning rfl⟩
  | trunkReceiveLevelChange p l => exact ⟨_, rfl, rfl⟩
  | verifyWindowExpiry z => exact ⟨_, rfl, pending_whenRunning (crewsWhen (crewSideOnly_commitZone z _ s))⟩
  | ageStep z => exact ⟨_, rfl, pending_whenRunning (crewsWhen
      (CrewSideOnly.trans (by rfl) (pictureOnly_recomputeAndReport _ _).crewSideOnly))⟩
  | offerTimeout c => exact ⟨_, rfl, pending_whenRunning (crewsWhen
      (CrewSideOnly.trans (by rfl) (crewSideOnly_offerStep c _)))⟩
  | resyncTimeout => exact ⟨_, rfl, pending_whenRunning (pending_ite (pending_settle (resyncExpires_pending s)))⟩
  | presenceChange c high | terminalReadyChange c high => exact ⟨_, rfl, rfl⟩
  | linkAttach a => exact ⟨_, rfl, pending_whenRunning (crewsWhen (crewSideOnly_attachLink a.link a.rx s))⟩
  | linkDetach c => exact ⟨_, rfl, pending_whenRunning (pending_ite (crewSideOnly_leaveAttached c _ s).pending)⟩
  | crewFrameComplete c b | receiveOverrun c b => exact ⟨_, rfl, crews (crewSideOnly_crewChar c _ s)⟩
  | crewFrameDiscard c ch => exact ⟨_, rfl, crews (crewSideOnly_crewChar c ch s)⟩
  | crewCharacterReceived c b =>
    exact ⟨_, rfl, crews ((crewSideOnly_rxBack c b.back s).trans (crewSideOnly_crewChar c _ _))⟩
  | crewPartialFrameTimeout c => exact ⟨_, rfl, pending_whenRunning (pending_ite rfl)⟩
  | crewCharacterTaken c => exact ⟨_, rfl, crews (crewSideOnly_takeChar c s)⟩
  | crewFrameWritten c => exact ⟨_, rfl, crews (crewSideOnly_frameWritten c s)⟩
  | accept c | decline c | release c | sectors c | sheetReqById c | sheetReqByZone c | sheetStopNamed c | releaseTop c
  | poll c | list c | sheetStopAll c | unknownRequest c => exact ⟨_, rfl, (crewSideOnly_crewRow c _ _ s).pending⟩
  | fillReadComplete => exact ⟨_, rfl, pending_whenRunning (crewsWhen (crewSideOnly_fillComplete s))⟩
  | fillReadFail => exact ⟨_, rfl, pending_whenRunning (crewsWhen (crewSideOnly_fillFail s))⟩
  | programComplete ok => exact ⟨_, rfl, pending_whenRunning (programDone_pending ok s)⟩
  | planReadComplete ok => exact ⟨_, rfl, pending_whenRunning (planReadDone_pending ok s)⟩
  | start => exact ⟨_, rfl, beginStart_pending s⟩
  | startComplete ok => exact ⟨_, rfl, pending_ite (finishStart_pending ok s)⟩
  | holdoverLow => exact ⟨_, rfl, by split <;> rfl⟩
  | mainPowerLoss => exact ⟨_, rfl, pending_ite (loseWorking_pending s)⟩
  | _ => exact ⟨_, exec_of_requestOf rfl s, mgmtRow_pending _ _ _ _ s⟩

end Sys2Proof.Machine
end
